-- ==== Sys2Proof/Word.lean ====
section
/-! DEFINITION. The word types of the PT416: what crosses a pin as bits, and the indexes of its fixed tables. -/

namespace Sys2Proof

/-- One byte of a client frame, a payload or the start-up record. -/
abbrev Byte := BitVec 8

/-- A station ID field: 1 to 62 name stations, 63 is nobody or all (00_scope 0.4). -/
abbrev StationId := BitVec 6

/-- A cycle number, 0 to 255, which wraps (R5). -/
abbrev CycleNo := BitVec 8

/-- The tag of one opening of a transmit record, 0 to 15 (R12, R78). -/
abbrev Tag := BitVec 4

/-- The epoch of a trunk's layout, 0 to 31 (R82). -/
abbrev Epoch := BitVec 5

/-- A counter that stops at 65535 (R17, R61, R76, R103, R126, R144, R162). -/
abbrev Counter := BitVec 16

/-- A lane, 0 to 3 (R1). -/
abbrev LaneNo := Fin 4

/-- A slot address, lane × 16 + slot index, 0 to 63 (R5). -/
abbrev SlotAddr := Fin 64

/-- The index of a transmit or receive trunk record, 0 to 7 (R77, R105). -/
abbrev RecIx := Fin 8

/-- The value 63: nobody in an owner field, all stations in a destination field (00_scope 0.4). -/
abbrev nobody : StationId := 63#6

end Sys2Proof
end

