-- ==== Sys2Proof/Syntax.lean ====
section
/-! DEFINITION. The commands of the block: one constructor for each row of spec/opcode_table.json, with the operands
its rules give it. Operands that are bits on a lane are the bits themselves, first bit sent = most significant bit. -/

namespace Sys2Proof

/-- What a CONFIRM or LOCKED lane's window held for one expected position (R18). -/
inductive Window where
  /-- A sync pattern's first bit fell inside the window: its offset from the expected position, in bit times, and the
  64 bits that begin there. -/
  | sync (offset : Int) (word : BitVec 64)
  /-- No sync pattern began inside the window: the 64 bits that begin at the expected position itself. -/
  | noSync (word : BitVec 64)
  deriving DecidableEq, Repr

/-- How the sending of a mark, notice or slot header ended at the lane unit (R6, R7). -/
inductive ReadBack (n : Nat) where
  /-- The part was driven until its end or until this station lost: the bits the lane carried over the whole part. -/
  | ended (word : BitVec n)
  /-- This station stopped driving part-way for a reason of its own (R8, R16). -/
  | abandoned
  deriving DecidableEq, Repr

/-- What brings TRUNK_CYCLE_FORMATION (R99): the cycle, and how many slots of that cycle have begun on each lane before
this moment (log entry 61). -/
structure FormationMoment where
  cycle : CycleNo
  begun : Vector (Fin 17) 4
  deriving DecidableEq, Repr

/-- The commands. -/
inductive Instr where
  /-- RESET_PIN_ASSERTED (R163). -/
  | resetPinAsserted
  /-- RESET_PIN_RELEASED (R163). -/
  | resetPinReleased
  /-- START_UP_RECORD_READ (R165): the 32 bytes read. -/
  | startUpRecordRead (record : Vector Byte 32)
  /-- FLYWHEEL_CYCLE_START (R33). -/
  | flywheelCycleStart
  /-- MARK_VERDICT (R18): the lane and what its window held. -/
  | markVerdict (lane : LaneNo) (window : Window)
  /-- OPEN_SEARCH_MARK_FOUND (R18): the lane, the place of the first bit on the flywheel, and the 64 bits. -/
  | openSearchMarkFound (lane : LaneNo) (cycle : CycleNo) (bit : Nat) (word : BitVec 64)
  /-- MARK_OUTCOME (R44). -/
  | markOutcome (lane : LaneNo) (result : ReadBack 64)
  /-- ELECTION_WAIT_EXPIRY (R40). -/
  | electionWaitExpiry
  /-- COAST_TIME_EXPIRY (R27). -/
  | coastTimeExpiry (lane : LaneNo)
  /-- QUIET_COUNT_LIMIT (R37). -/
  | quietCountLimit
  /-- LISTEN_TIME_EXPIRY (R45). -/
  | listenTimeExpiry
  /-- ATTACHMENT (R169). -/
  | attachment
  /-- NOTICE_POSITION_START (R52): lane, position on the lane, cycle of the lane. -/
  | noticePositionStart (lane : LaneNo) (position : Fin 2) (cycle : CycleNo)
  /-- NOTICE_OUTCOME (R53): the offer in progress on the lane ends. -/
  | noticeOutcome (lane : LaneNo) (result : ReadBack 112)
  /-- NOTICE_ARRIVAL (R54): lane, position on the lane, cycle of the lane, the bits carried. -/
  | noticeArrival (lane : LaneNo) (position : Fin 2) (cycle : CycleNo) (word : BitVec 112)
  /-- SLOT_ARRIVAL (R15): slot address, cycle, the header bits carried, the payload. -/
  | slotArrival (slot : SlotAddr) (cycle : CycleNo) (header : BitVec 40) (payload : Vector Byte 32)
  /-- SLOT_HEADER_OUTCOME (R66). -/
  | slotHeaderOutcome (slot : SlotAddr) (cycle : CycleNo) (result : ReadBack 40)
  /-- TRUNK_CYCLE_FORMATION (R99): transmit record, and the moment. -/
  | trunkCycleFormation (record : RecIx) (moment : FormationMoment)
  /-- BAR_COUNTDOWN_EXPIRY (R65). -/
  | barCountdownExpiry (slot : SlotAddr)
  /-- ROSTER_AGE_EXPIRY (R59). -/
  | rosterAgeExpiry (station : StationId)
  /-- PRESENCE_COUNTDOWN_EXPIRY (R60). -/
  | presenceCountdownExpiry
  /-- STRAY_ENTRY_EXPIRY (R121): the entry's owner and tag. -/
  | strayEntryExpiry (owner : StationId) (tag : Tag)
  /-- CLAIM_WAIT_EXPIRY (R71). -/
  | claimWaitExpiry
  /-- OFFER_WAIT_EXPIRY (R80). -/
  | offerWaitExpiry (record : RecIx)
  /-- PROBE_WAIT_EXPIRY (R86). -/
  | probeWaitExpiry (record : RecIx)
  /-- CONFIRM_WAIT_EXPIRY (R87, R89). -/
  | confirmWaitExpiry (record : RecIx)
  /-- CLOSE_WAIT_EXPIRY (R96). -/
  | closeWaitExpiry (record : RecIx)
  /-- SINK_SILENCE_EXPIRY (R93). -/
  | sinkSilenceExpiry (record : RecIx)
  /-- SINK_LOSS_EXPIRY (R93). -/
  | sinkLossExpiry (record : RecIx)
  /-- TALLY_TIMER_EXPIRY (R119). -/
  | tallyTimerExpiry (record : RecIx)
  /-- DECLINE_ENTRY_EXPIRY (R51). -/
  | declineEntryExpiry (entry : Fin 4)
  /-- DISMISS_DEADLINE_EXPIRY (R124). -/
  | dismissDeadlineExpiry (record : RecIx)
  /-- DATA_FRAME_HEADER (R139): the fourth header byte of a data frame. -/
  | dataFrameHeader (byte : Byte)
  /-- DATA_FRAME_LAST_BYTE (R138): the last payload byte of a data frame. -/
  | dataFrameLastByte (byte : Byte)
  /-- UNKNOWN_KIND_HEADER (R146): the fourth header byte of a frame of unknown kind. -/
  | unknownKindHeader (byte : Byte)
  /-- HELD_STROBE (R147). -/
  | heldStrobe
  /-- COMMAND_RECEIVED (R148): the byte that ends a command frame. -/
  | commandReceived (byte : Byte)
  /-- UNKNOWN_COMMAND (R149): the command unit takes a head that fails the form test. -/
  | unknownCommand
  /-- OPEN (R79), taken from the head of the command queue, as are the ten commands below. -/
  | cmdOpen
  /-- GROW (R84). -/
  | cmdGrow
  /-- SHRINK (R88). -/
  | cmdShrink
  /-- DROP (R88). -/
  | cmdDrop
  /-- CLOSE (R95). -/
  | cmdClose
  /-- DISMISS (R124). -/
  | cmdDismiss
  /-- TRUNK_STATUS (R151). -/
  | cmdTrunkStatus
  /-- ROSTER (R151). -/
  | cmdRoster
  /-- SLOTS (R151). -/
  | cmdSlots
  /-- COUNTERS (R152). -/
  | cmdCounters
  /-- RESTART (R153). -/
  | cmdRestart
  /-- CLIENT_OUTPUT_HOLD_RELEASED (R158). -/
  | clientOutputHoldReleased
  /-- CLIENT_OUTPUT_HOLD_ASSERTED (R158). -/
  | clientOutputHoldAsserted
  /-- RESPONSE_SENT (R159). -/
  | responseSent
  /-- REPORT_SENT (R156). -/
  | reportSent
  /-- RECEIVE_BLOCK_SENT (R143). -/
  | receiveBlockSent
  /-- DATA_FRAME_SENT (R143). -/
  | dataFrameSent
  /-- CLIENT_INPUT_BYTE (R146): the byte strobed. -/
  | clientInputByte (byte : Byte)
  /-- CLAIM_CYCLE_NOT_DRIVEN (R66): the slot and the cycle in which it was not driven. -/
  | claimCycleNotDriven (slot : SlotAddr) (cycle : CycleNo)
  deriving DecidableEq, Repr

end Sys2Proof
end

