-- ==== Sys2Proof/Decode.lean ====
section
/-! DEFINITION. The commands that a word spells by the table's bits. No row of spec/opcode_table.json gives bits: the
PT416 has no instruction words; its steps are events at its pins and timers. -/

namespace Sys2Proof

/-- The command a word of the opcode table spells: none of the rows gives bits, so none. -/
def decodeTableWord (_nbits _w : Nat) : Option Instr := none

end Sys2Proof
end

