-- ==== Sys2Proof/Config.lean ====
section
/-! DEFINITION. The fixed limits of the protocol (00_scope 0.5, each with one value throughout the manual) and the
free values. What the start-up record sets (ELECT_BASE and the other quantities) is state: State.loader.record. -/

namespace Sys2Proof.Config

/-- Bit times in one cycle (R3). -/
abbrev cycleBits : Nat := 5120

/-- Bit times in one slot time (R4). -/
abbrev slotTimeBits : Nat := 320

/-- The flywheel circle: 256 cycle numbers of 5120 bit times. -/
abbrev circle : Nat := 1310720

/-- LISTEN_TIME, in flywheel cycles (R37, R169). -/
abbrev listenTime : Nat := 256

/-- CLAIM_WAIT, in live cycles (R68). -/
abbrev claimWait : Nat := 24

/-- OFFER_WAIT, in live cycles (R80). -/
abbrev offerWait : Nat := 64

/-- PROBE_WAIT, in live cycles (R84). -/
abbrev probeWait : Nat := 48

/-- CONFIRM_WAIT, in live cycles (R87). -/
abbrev confirmWait : Nat := 64

/-- CLOSE_WAIT, in live cycles (R95). -/
abbrev closeWait : Nat := 32

/-- The deadline of a client DISMISS, in live cycles (R124). -/
abbrev dismissWait : Nat := 32

/-- HEAL_COUNT: clean cycles that bring a BAD member back to GOOD (R116). -/
abbrev healCount : Nat := 8

/-- The age at which a tally's absence closes a trunk, in live cycles (R93). -/
abbrev sinkLoss : Nat := 2048

/-- The age at which a roster entry becomes ABSENT, in flywheel cycles (R59). -/
abbrev rosterAge : Nat := 1024

/-- The coast limit, in flywheel cycles (R27). -/
abbrev coastLimit : Nat := 96

/-- The expiry of a decline entry, in live cycles (R51). -/
abbrev declineExpiry : Nat := 64

/-- The bar of a released slot, in flywheel cycles (R65). -/
abbrev barTime : Nat := 8

/-- The bytes of one buffer block (R137). -/
abbrev blockBytes : Nat := 128

/-- The blocks of one pool (R137). -/
abbrev poolBlocks : Nat := 256

/-- What the loader sends to open a read (R165, 12.4): the read command 03h and a 24-bit address of 0. -/
abbrev readRequest : List Byte := [0x03, 0, 0, 0]

/-- Free value (R158, log entry 9): a response and a report that become ready together may be taken in either order;
whether the report is taken first at the n-th reading. -/
opaque reportFirst : Nat → Bool

/-- Free value (R155, log entry 31): the one byte a REPORTS_LOST report gives a count above 255. -/
opaque lostCountByte : Nat → Byte

/-- Free value (log entry 3): how many bit times of the flywheel pass in the n-th stretch of idle time. -/
opaque idleBits : Nat → Nat

/-- Free value (log entry 3): whether one more byte of the start-up record is complete after the n-th stretch of idle
time. -/
opaque idleRecordByte : Nat → Bool

/-- Free value (log entry 3): whether one more byte of the frame on client output has left after the n-th stretch of
idle time. -/
opaque idleOutputByte : Nat → Bool

end Sys2Proof.Config
end

