-- ==== Sys2Proof/Machine/State.lean ====
section
/-! DEFINITION. The state of the PT416, as plain data, one structure for each block of 00_scope section 0.3, and the
state right after reset. -/

namespace Sys2Proof.Machine

/-- Why a step could stop with a fault: there is no reason. The PT416 has no fault that stops it (log entry 1); FAILED
is a state (R167). Nothing raises one, so this is neither safe nor unsafe. -/
inductive Fault
  deriving DecidableEq, Repr

/-- Why a step could be refused. -/
inductive Refusal where
  /-- Raised by exec's arm of a command that has no meaning yet; safe. No arm of this model is one. -/
  | notModelled (mnemonic : String)
  deriving DecidableEq, Repr

/-! ### Lane units (chapter 2) -/

/-- The lock states, in the order of chapter 2's table (their codes, 12.3). -/
inductive LockState where
  | disabled | hunt | confirm | locked | coast
  deriving DecidableEq, Repr

/-- A mark this station emitted on a lane (R42): the place of its first bit on the flywheel circle, its bits, and
whether its outcome (R7) is still to be handed, and whether it was cut off where it stood (R38, R43). -/
structure Emission where
  pos : Nat
  word : BitVec 64
  awaited : Bool
  cut : Bool
  deriving DecidableEq, Repr

/-- The lock record of one lane unit (R17), with the three pieces of state R5, R8 and R43 imply. -/
structure Lane where
  state : LockState
  /-- Expected cycle number. -/
  expNum : Option CycleNo
  /-- Expected position: a place on the flywheel circle (cycle number × 5120 + bit). -/
  expPos : Option Nat
  confirm : Nat
  miss : Nat
  /-- Renumbering candidate. -/
  cand : Option CycleNo
  lag : Option Int
  residue : Option Nat
  lockAge : Nat
  coast : Nat
  badMarks : Counter
  headerErrors : Counter
  noticeErrors : Counter
  lagOutOfRange : Counter
  /-- The lane's cycle whose expected mark position found the conditions of R8 failing (log entry 5). -/
  r8Failed : Option CycleNo
  /-- The number the lane's present cycle had before the lane adopted another in it (R5, R26, log entry 11). -/
  former : Option CycleNo
  emitted : Option Emission
  deriving DecidableEq, Repr

/-! ### Timing unit (chapter 3) -/

/-- The timing roles, in the order of R32. -/
inductive Role where
  | quiet | following | electing | pacing
  deriving DecidableEq, Repr

/-- The timing record (R32), with what R36 implies. -/
structure Timing where
  role : Role
  number : CycleNo
  position : Nat
  /-- The bit times by which a trim has moved the flywheel past an end of its cycle, until the wrap (R34, log entry 7).
  -/
  slip : Int
  phased : Bool
  rephase : Bool
  trim : Option LaneNo
  silent : Vector Nat 4
  quiet : Nat
  wait : Nat
  fresh : Nat
  pacer : Option StationId
  /-- A valid mark has been handed since the previous flywheel cycle start (R36). -/
  heard : Bool
  /-- The recent flywheel cycles already declared live (R36). -/
  live : List CycleNo
  deriving DecidableEq, Repr

/-! ### Notice unit (chapter 4) -/

inductive DismissReason where
  | noTrunk | client
  deriving DecidableEq, Repr

inductive DeclineReason where
  | notListed | noRoom
  deriving DecidableEq, Repr

/-- The body of a TALLY (R12, R120). The most significant bit of the good map is sequence 0. -/
structure TallyBody where
  tag : Tag
  echo : Epoch
  good : BitVec 16
  skew : Bool
  delinLocked : Bool
  width : BitVec 5
  deriving DecidableEq, Repr

/-- The body of a PRESENCE (R12, R60). -/
structure PresenceBody where
  owned : BitVec 7
  tx : BitVec 4
  rx : BitVec 4
  deriving DecidableEq, Repr

/-- A notice's kind with its body (R12). -/
inductive NoticeBody where
  | close (tag : Tag)
  | dismiss (tag : Tag) (reason : DismissReason)
  | offer (tag : Tag) (attempt : BitVec 4)
  | accept (tag : Tag)
  | decline (tag : Tag) (reason : DeclineReason)
  | tally (body : TallyBody)
  | presence (body : PresenceBody)
  deriving DecidableEq, Repr

/-- The 21 owner entries (R47). -/
inductive OwnerEntry where
  | tx (t : RecIx)
  | rx (r : RecIx)
  | decline (d : Fin 4)
  | presence
  deriving DecidableEq, Repr

/-- A queued entry (R47): the notice an owner entry holds. Its age is its place in the queue's list. -/
structure QueuedNotice where
  owner : OwnerEntry
  dest : StationId
  body : NoticeBody
  expiry : Nat
  deriving DecidableEq, Repr

/-- An offer in progress on a lane (R52): the in-flight mark of its entry, with what R49 and R50 must remember. -/
structure Offer where
  position : Fin 2
  cycle : CycleNo
  owner : OwnerEntry
  dest : StationId
  body : NoticeBody
  /-- The bits sent. -/
  word : BitVec 112
  replaced : Bool
  withdrawn : Bool
  /-- The conditions of R8 have failed since it began, so it was cut short. -/
  cut : Bool
  deriving DecidableEq, Repr

structure NoticeUnit where
  /-- The queued entries, oldest first; the queue order of R48 is by class, then by place in this list. -/
  queue : List QueuedNotice
  /-- The offer in progress on each lane. -/
  offers : Vector (Option Offer) 4
  /-- The notice position each lane unit last found won by this station (R7). -/
  won : Vector (Option (CycleNo × Fin 2)) 4
  /-- Presence countdown (R60). -/
  countdown : Nat
  unknownKind : Vector Counter 4
  declineFull : Counter
  declineExpired : Counter
  deriving DecidableEq, Repr

inductive HeardBy where
  | notice | header | mark
  deriving DecidableEq, Repr

/-- A roster entry (R57). Its pacing flag is a view of the pacer of record. -/
structure RosterEntry where
  present : Bool
  age : Nat
  heardBy : Option HeardBy
  body : Option PresenceBody
  deriving DecidableEq, Repr

/-! ### Slot unit (chapter 5) -/

/-- The roles of a slot header, in the order of their codes (12.1). -/
inductive HeaderRole where
  | data | probe | hold | spare
  deriving DecidableEq, Repr

/-- The fields of a slot header (R13). -/
structure Header where
  owner : StationId
  sink : StationId
  tag : Tag
  seq : BitVec 4
  role : HeaderRole
  epoch : Epoch
  width : BitVec 5
  deriving DecidableEq, Repr

/-- What one slot carries: its header and payload (R101). -/
structure StagedSlot where
  slot : SlotAddr
  header : Header
  payload : List Byte
  deriving DecidableEq, Repr

inductive SlotState where
  | unseen | free | claiming | mine | theirs | barred
  deriving DecidableEq, Repr

/-- What a MINE slot carries (R73). -/
inductive Assignment where
  | none
  | spare (t : RecIx)
  | member (t : RecIx) (seq : Nat)
  deriving DecidableEq, Repr

/-- The slot header this station drove, whose own arrival is still to come (R64, R74): its cycle, whether its outcome
was WON, so that its payload is driven too (R6, R9), and whether that outcome has already raised the header error count
(R75). -/
structure DrivenHeader where
  cycle : CycleNo
  won : Bool
  counted : Bool
  deriving DecidableEq, Repr

/-- A slot record (R62). -/
structure SlotRec where
  state : SlotState
  owner : Option StationId
  claim : Nat
  quiet : Nat
  bar : Nat
  assign : Assignment
  handed : Bool
  ownRun : Nat
  headerErrors : BitVec 8
  driven : Option DrivenHeader
  /-- What the slot of a cycle began with, where the record or its trunk's staging no longer gives it: a release keeps
  what the slot may have begun with (R65), a formation what has begun before it (R102). -/
  began : List (CycleNo × StagedSlot)
  /-- The claim of the record was withdrawn while it ran, so that the outcome of a cycle being driven is discarded
  (R67). -/
  stopped : Bool
  /-- The cycles of which the slot may have been under way when the record was last released, or a claim of it stopped or
  begun (R65 to R67, log entry 70), until its next arrival. -/
  underWay : List CycleNo
  deriving DecidableEq, Repr

inductive RequestPhase where
  | waiting | inService | ended
  deriving DecidableEq, Repr

/-- A claim request (R67). -/
structure ClaimReq where
  tx : RecIx
  count : Nat
  won : List SlotAddr
  running : List SlotAddr
  wait : Option Nat
  phase : RequestPhase
  deriving DecidableEq, Repr

structure SlotUnit where
  recs : Vector SlotRec 64
  queue : List ClaimReq
  won : Counter
  lost : Counter
  abandoned : Counter
  seizures : Counter
  laneLosses : Counter
  deriving DecidableEq, Repr

/-! ### Transmit engine and encoder (chapters 6, 8, 9) -/

inductive TxState where
  | vacant | offering | opened | closing
  deriving DecidableEq, Repr

/-- A member's role with, for HOLD, its reason, in the order of their codes (12.3). -/
inductive MemberRole where
  | probe | data | leaving | shunned
  deriving DecidableEq, Repr

/-- A member entry (R77). Its sequence is its place in the member list (R82). -/
structure Member where
  slot : SlotAddr
  role : MemberRole
  restore : Nat
  deadline : Nat
  deriving DecidableEq, Repr

inductive ChangeKind where
  | grow | shrink | drop | closeAbort
  deriving DecidableEq, Repr

inductive ChangePhase where
  | claim | probe | switchWait | confirm
  deriving DecidableEq, Repr

/-- Why a trunk is gone (12.3). -/
inductive GoneReason where
  | closed | sinkLost | dismissed | peerAbsent | superseded
  deriving DecidableEq, Repr

/-- A change record (R77). `arg` is the count requested, or the sequence a DROP names. -/
structure Change where
  kind : ChangeKind
  arg : Nat
  phase : ChangePhase
  deadline : Option Nat
  cmd : Option Byte
  late : Nat
  added : Nat
  reason : Option GoneReason
  deriving DecidableEq, Repr

/-- What the last TALLY said (R77). -/
structure TallyInfo where
  echo : Epoch
  good : BitVec 16
  skew : Bool
  delinLocked : Bool
  width : BitVec 5
  deriving DecidableEq, Repr

structure LastTally where
  age : Nat
  info : Option TallyInfo
  deriving DecidableEq, Repr

/-- A formed cycle in transmit staging (R101). -/
structure StagedCycle where
  cycle : CycleNo
  epoch : Epoch
  width : Nat
  slots : List StagedSlot
  /-- An election has begun since its formation, so that it is not sent again (R101, log entry 51). -/
  stale : Bool
  deriving DecidableEq, Repr

/-- A frame of a transmit queue (R138): `data` holds the payload bytes written so far, COMPLETE when all have arrived.
-/
structure TxFrame where
  len : Nat
  cls : Byte
  data : List Byte
  complete : Bool
  deriving DecidableEq, Repr

/-- The parcel encoder of a transmit record (R129). -/
inductive Encoder where
  | between
  | fill (given : Nat)
  | frame (f : TxFrame) (given : Nat) (crc : BitVec 32)
  deriving DecidableEq, Repr

/-- A transmit trunk record (R77) with its counters (R103) and its encoder (R129). -/
structure TxRec where
  state : TxState
  tag : Tag
  sink : Option StationId
  epoch : Epoch
  /-- Layout mark DUE. -/
  due : Bool
  lastEcho : Option Epoch
  members : List Member
  initWidth : Nat
  change : Option Change
  openCmd : Option Byte
  attempt : Nat
  offerWait : Option Nat
  lastTally : Option LastTally
  silent : Bool
  staging : Vector (Option StagedCycle) 8
  enc : Encoder
  framesSent : Counter
  discNotOpen : Counter
  discFull : Counter
  discLength : Counter
  epochs : Counter
  shuns : Counter
  restores : Counter
  deriving DecidableEq, Repr

/-! ### Receive engine and delineator (chapters 7, 8) -/

inductive RxState where
  | vacant | accepted | draining
  deriving DecidableEq, Repr

inductive Health where
  | good | suspect | bad
  deriving DecidableEq, Repr

/-- Why a slot was judged unclean, in the order of R106. -/
inductive UncleanReason where
  | lane | header | absent | owner | probe | skew | late
  deriving DecidableEq, Repr

/-- An entry of the member view (R106). -/
structure ViewEntry where
  slot : SlotAddr
  seq : BitVec 4
  role : HeaderRole
  health : Health
  reason : Option UncleanReason
  unclean : Nat
  clean : Nat
  absent : Nat
  deriving DecidableEq, Repr

/-- What a slot carried in a cycle, as an alignment entry stores it (R111). -/
inductive Item where
  | header (seq : BitVec 4) (role : HeaderRole) (epoch : Epoch) (width : BitVec 5) (payload : List Byte)
  | free
  | faulty
  | foreign (owner : StationId)
  deriving DecidableEq, Repr

structure AlignEntry where
  cycle : CycleNo
  items : List (SlotAddr × Item)
  deriving DecidableEq, Repr

inductive DelinState where
  | hunt | verify | locked
  deriving DecidableEq, Repr

/-- Where in the current parcel the next byte falls (R132). -/
inductive Place where
  | header (held : List Byte)
  | payload (taken : Nat)
  | check (held : List Byte)
  | skip (left : Nat)
  deriving DecidableEq, Repr

/-- The frame being assembled (R132). -/
structure RxProgress where
  len : Nat
  cls : Byte
  data : List Byte
  blocks : Nat
  crc : BitVec 32
  deriving DecidableEq, Repr

/-- A delineator (R132). In VERIFY the candidate's header is the first four bytes of the hunt store. -/
structure Delin where
  state : DelinState
  store : List Byte
  /-- The candidate's length and class. -/
  cand : Option (Nat × Byte)
  place : Place
  frame : Option RxProgress
  deriving DecidableEq, Repr

/-- A dismiss pending (R105). -/
structure DismissPending where
  tag : Byte
  deadline : Nat
  deriving DecidableEq, Repr

/-- A receive trunk record (R105) with its counters (R126). -/
structure RxRec where
  state : RxState
  source : Option StationId
  tag : Option Tag
  view : List ViewEntry
  epochSeen : Epoch
  widthSeen : BitVec 5
  aligned : Vector (Option Int) 4
  skew : Nat
  align : Vector (Option AlignEntry) 8
  next : Option CycleNo
  lanePos : Vector (Option (CycleNo × Fin 16)) 4
  tally : Option Nat
  dismiss : Option DismissPending
  delin : Delin
  consistent : Counter
  faults : Counter
  realigns : Counter
  badChecks : Counter
  delivered : Counter
  dropped : Counter
  deriving DecidableEq, Repr

/-- An entry of the stray list (R121). -/
structure Stray where
  owner : StationId
  tag : Tag
  run : Nat
  last : CycleNo
  quiet : Nat
  spacing : Nat
  deriving DecidableEq, Repr

structure RxEngine where
  recs : Vector RxRec 8
  strays : List Stray
  straysDismissed : Counter
  straysIgnored : Counter
  deriving DecidableEq, Repr

/-! ### Buffer manager (chapter 9) -/

/-- A frame of a receive queue (R138). -/
structure RxFrame where
  cls : Byte
  data : List Byte
  deriving DecidableEq, Repr

structure Buffers where
  txFree : Nat
  rxFree : Nat
  txQueue : Vector (List TxFrame) 8
  rxQueue : Vector (List RxFrame) 8
  txUse : Vector Nat 8
  rxUse : Vector Nat 8
  /-- Discard flags: transmit records 0 to 7, then all other indices (R140). -/
  flags : Vector Bool 9
  unnamed : Counter
  flushed : Counter
  deriving DecidableEq, Repr

/-! ### Start-up loader (chapter 11) -/

inductive LoaderState where
  | loading | listening | attached | failed
  deriving DecidableEq, Repr

/-- The validated fields of the start-up record (R166, 12.4). -/
structure StartRecord where
  id : StationId
  /-- Bit n for lane n. -/
  mask : BitVec 4
  electBase : Nat
  tallyPeriod : Nat
  skewLimit : Nat
  maxOwned : Nat
  txQuota : Nat
  rxQuota : Nat
  accept : List StationId
  deriving DecidableEq, Repr

/-- The failure reasons with their codes' order (12.3); `field n` names the n-th field of R166's sixth test. -/
inductive FailReason where
  | none | marker | version | check | stationId | laneMask | field (n : Nat) | idClash
  deriving DecidableEq, Repr

/-- The loader record (R163), with the select line of the start-up memory. Bytes read stands at 32 while no read is in
progress outside LOADING (log entry 81). -/
structure Loader where
  state : LoaderState
  bytesRead : Nat
  reading : Bool
  record : Option StartRecord
  listenAge : Nat
  reason : FailReason
  deriving DecidableEq, Repr

/-! ### Client port (chapter 10) -/

/-- The input parse state (R146). DATA carries the record whose newest frame the bytes fill, or none when they are
dropped; COMMAND carries the body length and the bytes kept. -/
inductive Parse where
  | between
  | header (held : List Byte)
  | data (left : Nat) (dest : Option RecIx)
  | command (left : Nat) (len : Nat) (kept : List Byte)
  deriving DecidableEq, Repr

/-- A command queue entry (R148): the first 16 body bytes, the first two of them code and tag, and the body length. -/
structure CmdEntry where
  bytes : List Byte
  len : Nat
  deriving DecidableEq, Repr

/-- The record an in-flight command concerns (R149). -/
inductive CmdRecord where
  | tx (t : RecIx)
  | rx (r : RecIx)
  deriving DecidableEq, Repr

structure InFlight where
  code : Byte
  tag : Byte
  record : CmdRecord
  deriving DecidableEq, Repr

/-- The outcomes, in the order of their codes from 1 (12.3). -/
inductive CmdOutcome where
  | done | partially | unconfirmed | restarting | busy | notReady | badArg | notOpen | queueFull | notPresent
  | noRecord | sinkSilent | declined | noAnswer | noSlots | probeFailed | aborted
  deriving DecidableEq, Repr

/-- A response, formed whole when queued (R154): code (0 for none), tag, outcome and the bytes of the result fields. -/
structure Response where
  code : Byte
  tag : Byte
  outcome : CmdOutcome
  result : List Byte
  deriving DecidableEq, Repr

/-- Where an ID clash was found (R170). -/
inductive ClashPlace where
  | notice (lane : LaneNo) (number : Nat)
  | slot (a : SlotAddr)
  deriving DecidableEq, Repr

/-- TRANSMIT 0, RECEIVE 1 (12.3). -/
inductive Direction where
  | transmit | receive
  deriving DecidableEq, Repr

/-- Why a data frame was discarded at admission (R139); NOT_OPEN 1, FULL 2, LENGTH 3 (12.3). -/
inductive DiscardReason where
  | notOpen | full | length
  deriving DecidableEq, Repr

/-- A report (R157), with the fields its kind carries. -/
inductive Report where
  | ready (id : StationId) (mask : BitVec 4) (role : Role) (number : Option CycleNo)
  | startFailed (reason : FailReason)
  | idClash (place : ClashPlace) (padding : Nat)
  | timingRole (left entered : Role) (pacer : Option StationId) (number : Option CycleNo)
  | laneState (lane : LaneNo) (left entered : LockState) (lag : Option Int)
  | laneRenumbered (lane : LaneNo) (expected adopted : CycleNo) (lag : Option Int)
  | peerJoined (id : StationId) (by_ : HeardBy)
  | peerLeft (id : StationId)
  | trunkArrived (r : RecIx) (source : StationId) (tag : Tag)
  | trunkGone (dir : Direction) (record : RecIx) (tag : Tag) (station : StationId) (reason : GoneReason)
  | memberFault (t : RecIx) (slot : SlotAddr) (seq : Nat) (epoch : Epoch)
  | memberRestored (t : RecIx) (slot : SlotAddr) (seq : Nat) (epoch : Epoch)
  | widthChanged (r : RecIx) (before after : BitVec 5) (epoch : Epoch)
  | realigned (r : RecIx) (lane : LaneNo) (lag : Option Int)
  | sinkSilent (t : RecIx) (sink : StationId) (age : Nat)
  | sinkHeard (t : RecIx) (sink : StationId)
  /-- The cause is SEIZED with the new owner, or LANE (none). -/
  | slotSeized (t : RecIx) (slot : SlotAddr) (seq : Nat) (role : MemberRole) (seizedBy : Option StationId)
      (epoch : Epoch)
  | discard (index : BitVec 4) (reason : DiscardReason) (len : Nat) (total : Nat)
  | reportsLost (count : Nat)
  deriving DecidableEq, Repr

/-- The frame in the output stage (R159). -/
inductive OutFrame where
  | response (r : Response)
  | report (r : Report)
  /-- The head frame of a receive queue. -/
  | data (r : RecIx) (cls : Byte) (len : Nat)
  /-- A data frame ended with zero bytes after entry to FAILED (R161). -/
  | padding
  deriving DecidableEq, Repr

inductive Stage where
  | idle
  | sending (frame : OutFrame) (left : Nat)
  deriving DecidableEq, Repr

/-- The client port's state (chapter 10). The client-input hold is a view of the outstanding count (R147). -/
structure Port where
  parse : Parse
  outstanding : Nat
  cmdQueue : List CmdEntry
  inFlight : List InFlight
  restart : Bool
  responses : List Response
  reports : List Report
  stage : Stage
  arb : RecIx
  unknownKind : Counter
  heldStrobes : Counter
  queueFull : Counter
  reportsLost : Counter
  deriving DecidableEq, Repr

/-- The levels of the pins driven from outside that are not bytes or lanes (00_scope 0.6). -/
structure Pins where
  resetAsserted : Bool
  /-- The client-output hold. -/
  outHold : Bool
  deriving DecidableEq, Repr

end Sys2Proof.Machine

open Sys2Proof Sys2Proof.Machine

namespace Sys2Proof.Machine

/-- The state of the PT416, and the queue of commands that wait. -/
structure State where
  loader : Loader
  lanes : Vector Lane 4
  timing : Timing
  notice : NoticeUnit
  roster : Vector RosterEntry 62
  slots : SlotUnit
  tx : Vector TxRec 8
  rx : RxEngine
  buf : Buffers
  port : Port
  pins : Pins
  /-- The model's own: where the next free value is read (log entries 3 and 9). -/
  free : Nat
  /-- The model's own: the commands that wait, first in, first out. -/
  pending : List Instr
  deriving DecidableEq, Repr

/-! ### Reset values -/

/-- A lock record in reset (R17). -/
def Lane.reset : Lane where
  state := .disabled
  expNum := none
  expPos := none
  confirm := 0
  miss := 0
  cand := none
  lag := none
  residue := none
  lockAge := 0
  coast := 0
  badMarks := 0
  headerErrors := 0
  noticeErrors := 0
  lagOutOfRange := 0
  r8Failed := none
  former := none
  emitted := none

/-- The timing record in reset (R32). -/
def Timing.reset : Timing where
  role := .quiet
  number := 0
  position := 0
  slip := 0
  phased := false
  rephase := false
  trim := none
  silent := Vector.replicate 4 0
  quiet := 0
  wait := 0
  fresh := 0
  pacer := none
  heard := false
  live := []

/-- The notice unit in reset (R47, R60, R61). -/
def NoticeUnit.reset : NoticeUnit where
  queue := []
  offers := Vector.replicate 4 none
  won := Vector.replicate 4 none
  countdown := 0
  unknownKind := Vector.replicate 4 0
  declineFull := 0
  declineExpired := 0

/-- A roster entry in reset (R57). -/
def RosterEntry.reset : RosterEntry where
  present := false
  age := 0
  heardBy := none
  body := none

/-- A slot record in reset (R62). -/
def SlotRec.reset : SlotRec where
  state := .unseen
  owner := none
  claim := 0
  quiet := 0
  bar := 0
  assign := .none
  handed := false
  ownRun := 0
  headerErrors := 0
  driven := none
  began := []
  stopped := false
  underWay := []

/-- The slot unit in reset (R62, R76). -/
def SlotUnit.reset : SlotUnit where
  recs := Vector.replicate 64 SlotRec.reset
  queue := []
  won := 0
  lost := 0
  abandoned := 0
  seizures := 0
  laneLosses := 0

/-- A transmit record in reset with a given tag (R77). -/
def TxRec.reset (tag : Tag) : TxRec where
  state := .vacant
  tag := tag
  sink := none
  epoch := 0
  due := false
  lastEcho := none
  members := []
  initWidth := 0
  change := none
  openCmd := none
  attempt := 1
  offerWait := none
  lastTally := none
  silent := false
  staging := Vector.replicate 8 none
  enc := .between
  framesSent := 0
  discNotOpen := 0
  discFull := 0
  discLength := 0
  epochs := 0
  shuns := 0
  restores := 0

/-- The transmit records in reset: the tag is the index + 8 (R77). -/
def txReset : Vector TxRec 8 :=
  #v[.reset 8, .reset 9, .reset 10, .reset 11, .reset 12, .reset 13, .reset 14, .reset 15]

/-- A delineator in reset (R132). The parcel place has a meaning in LOCKED only; outside it is HEADER with no byte held
(log entry 72). -/
def Delin.reset : Delin where
  state := .hunt
  store := []
  cand := none
  place := .header []
  frame := none

/-- A receive record in reset (R105). -/
def RxRec.reset : RxRec where
  state := .vacant
  source := none
  tag := none
  view := []
  epochSeen := 0
  widthSeen := 0
  aligned := Vector.replicate 4 none
  skew := 0
  align := Vector.replicate 8 none
  next := none
  lanePos := Vector.replicate 4 none
  tally := none
  dismiss := none
  delin := .reset
  consistent := 0
  faults := 0
  realigns := 0
  badChecks := 0
  delivered := 0
  dropped := 0

/-- The receive engine in reset (R105, R126). -/
def RxEngine.reset : RxEngine where
  recs := Vector.replicate 8 RxRec.reset
  strays := []
  straysDismissed := 0
  straysIgnored := 0

/-- The buffer manager in reset (R137). -/
def Buffers.reset : Buffers where
  txFree := Config.poolBlocks
  rxFree := Config.poolBlocks
  txQueue := Vector.replicate 8 []
  rxQueue := Vector.replicate 8 []
  txUse := Vector.replicate 8 0
  rxUse := Vector.replicate 8 0
  flags := Vector.replicate 9 false
  unnamed := 0
  flushed := 0

/-- The loader in reset (R163); `reading` says whether the read of R165 is under way. -/
def Loader.reset (reading : Bool) : Loader where
  state := .loading
  bytesRead := 0
  reading := reading
  record := none
  listenAge := 0
  reason := .none

/-- The client port in reset, with a given parse state (R160, R162). -/
def Port.reset (parse : Parse) : Port where
  parse := parse
  outstanding := 0
  cmdQueue := []
  inFlight := []
  restart := false
  responses := []
  reports := []
  stage := .idle
  arb := 0
  unknownKind := 0
  heldStrobes := 0
  queueFull := 0
  reportsLost := 0

/-- The machine right after reset: the pin has just been released, so the read of the start-up memory has begun (R163);
the client-output hold is released (log entry 4); no command waits. -/
def State.reset : State where
  loader := .reset true
  lanes := Vector.replicate 4 Lane.reset
  timing := .reset
  notice := .reset
  roster := Vector.replicate 62 RosterEntry.reset
  slots := .reset
  tx := txReset
  rx := .reset
  buf := .reset
  port := .reset .between
  pins := { resetAsserted := false, outHold := false }
  free := 0
  pending := []

end Sys2Proof.Machine
end

