-- ==== Sys2Proof/Machine/Formats.lean ====
section
/-! DEFINITION. The layouts of chapter 12 and the checks of R171: bits on the lanes, parcels, and the bodies of client
frames; and the small helpers over fixed tables that every block uses. -/

namespace Sys2Proof.Machine

/-! ### Fixed tables -/

/-- Read one record of a fixed table. -/
def vget {α : Type} {n : Nat} (v : Vector α n) (i : Fin n) : α := v[i.val]

/-- Write one record of a fixed table. -/
def vset {α : Type} {n : Nat} (v : Vector α n) (i : Fin n) (a : α) : Vector α n := v.set i.val a

/-- Change one record of a fixed table. -/
def vmod {α : Type} {n : Nat} (v : Vector α n) (i : Fin n) (f : α → α) : Vector α n := vset v i (f (vget v i))

/-- Change every record of a fixed table. -/
def vmap {α β : Type} {n : Nat} (f : α → β) (v : Vector α n) : Vector β n :=
  ⟨⟨v.toArray.toList.map f⟩, by simp⟩

/-- The records of a fixed table, in index order. -/
def vlist {α : Type} {n : Nat} (v : Vector α n) : List α := v.toArray.toList

/-- The four lanes (R1). -/
def allLanes : List LaneNo := [0, 1, 2, 3]

/-- The eight record indexes (R77, R105). -/
def allRecs : List RecIx := [0, 1, 2, 3, 4, 5, 6, 7]

/-- The 64 slot addresses, lowest first (R5). -/
def allSlots : List SlotAddr := (List.range 64).map (Fin.ofNat 64)

/-- The lane of a slot address (R5). -/
def laneOf (a : SlotAddr) : LaneNo := ⟨a.val / 16, by omega⟩

/-- The slot index of a slot address (R5). -/
def slotIx (a : SlotAddr) : Fin 16 := ⟨a.val % 16, by omega⟩

/-- The slot addresses of a lane, lowest first (R5). -/
def laneSlots (l : LaneNo) : List SlotAddr := allSlots.filter (fun a => laneOf a = l)

/-- The number of a notice position: lane × 2 + position (R5). -/
def positionNumber (l : LaneNo) (p : Fin 2) : Nat := l.val * 2 + p.val

/-- The roster index of a station ID, 1 to 62 (R57). -/
def rosterIx (id : StationId) : Option (Fin 62) :=
  if h : 1 ≤ id.toNat ∧ id.toNat ≤ 62 then some ⟨id.toNat - 1, by omega⟩ else none

/-- A counter rises by one and stops at its top value (R17, R61, R76, R103, R126, R144, R162; R62 for 255). -/
def bump {w : Nat} (c : BitVec w) : BitVec w := if c = BitVec.allOnes w then c else c + 1

/-- The difference a − b of two cycle numbers, modulo 256 into −128 to +127 (R111). -/
def cycleDiff (a b : CycleNo) : Int := (a - b).toInt

/-- The next cycle number (R5). -/
def nextCycle (c : CycleNo) : CycleNo := c + 1

/-! ### Places on the flywheel circle -/

/-- A place moved by a number of bit times. -/
def place (p : Nat) (d : Int) : Nat := (((p : Int) + d) % (Config.circle : Int)).toNat

/-- The signed distance from place b to place a, the nearest way round (R22). -/
def placeDiff (a b : Nat) : Int :=
  ((a : Int) - (b : Int) + (Config.circle / 2 : Nat)) % (Config.circle : Int) - (Config.circle / 2 : Nat)

/-- The start of the flywheel cycle of a number. -/
def cycleStart (c : CycleNo) : Nat := c.toNat * Config.cycleBits

/-- The number of the flywheel cycle a place lies in. -/
def cycleAt (p : Nat) : CycleNo := BitVec.ofNat 8 (p / Config.cycleBits)

/-! ### Checks (R171) -/

/-- The bits of a field, first bit sent first (R2). -/
def bitsOf {n : Nat} (x : BitVec n) : List Bool := (List.range n).map x.getMsbD

/-- One covered bit taken into the shift register (R171). -/
def crcBit {w : Nat} (poly : BitVec w) (r : BitVec w) (b : Bool) : BitVec w :=
  if r.msb != b then (r <<< 1) ^^^ poly else r <<< 1

/-- CRC-16 (R171). -/
def crc16 (bits : List Bool) : BitVec 16 := bits.foldl (crcBit 0x1021#16) 0xFFFF#16

/-- CRC-8 (R171). -/
def crc8 (bits : List Bool) : BitVec 8 := bits.foldl (crcBit 0x07#8) 0x00#8

/-- The CRC-32 register before any byte (R171). -/
def crc32Init : BitVec 32 := 0xFFFFFFFF#32

/-- One byte taken into the CRC-32 register (R171). -/
def crc32Byte (r : BitVec 32) (b : Byte) : BitVec 32 := (bitsOf b).foldl (crcBit 0x04C11DB7#32) r

/-- CRC-32's final step: every bit complemented (R171). -/
def crc32Final (r : BitVec 32) : BitVec 32 := ~~~r

/-- CRC-32 of a byte sequence (R171). -/
def crc32 (bytes : List Byte) : BitVec 32 := crc32Final (bytes.foldl crc32Byte crc32Init)

/-- A field of `len` bits whose first bit sent is bit `start` of the whole (12: bit 0 is the first bit sent). -/
def field {n : Nat} (x : BitVec n) (start len : Nat) : BitVec len := x.extractLsb' (n - start - len) len

/-! ### Slot bus formats (12.1) -/

/-- A cycle mark, 64 bits (12.1, R10). The guard is not driven and so reads recessive. -/
def encodeMark (pacer : StationId) (lane : LaneNo) (number : CycleNo) (fresh : Bool) : BitVec 64 :=
  let covered : BitVec 24 := pacer ++ BitVec.ofNat 2 lane.val ++ number ++ BitVec.ofBool fresh ++ 0#7
  0xE2D4#16 ++ covered ++ crc16 (bitsOf covered) ++ 0xFF#8

/-- The kind code of a notice (12.1). -/
def NoticeBody.kind : NoticeBody → BitVec 4
  | .close _ => 1
  | .dismiss _ _ => 2
  | .offer _ _ => 3
  | .accept _ => 4
  | .decline _ _ => 5
  | .tally _ => 6
  | .presence _ => 7

/-- The class of a kind code (R12); none for an unknown kind. -/
def kindClass (kind : BitVec 4) : Option (BitVec 2) :=
  match kind.toNat with
  | 1 => some 0
  | 2 => some 0
  | 3 => some 1
  | 4 => some 1
  | 5 => some 1
  | 6 => some 2
  | 7 => some 3
  | _ => none

/-- The class of a notice (R12). -/
def NoticeBody.cls (b : NoticeBody) : BitVec 2 := (kindClass b.kind).getD 3

/-- The tag a notice names (R12); none for a PRESENCE. -/
def NoticeBody.tag? : NoticeBody → Option Tag
  | .close t => some t
  | .dismiss t _ => some t
  | .offer t _ => some t
  | .accept t => some t
  | .decline t _ => some t
  | .tally b => some b.tag
  | .presence _ => none

/-- The 72 body bits of a notice (12.1); bits a kind does not use are sent as zero. -/
def encodeBody : NoticeBody → BitVec 72
  | .close t => t ++ 0#68
  | .dismiss t .noTrunk => t ++ 1#4 ++ 0#64
  | .dismiss t .client => t ++ 2#4 ++ 0#64
  | .offer t n => t ++ n ++ 0#64
  | .accept t => t ++ 0#68
  | .decline t .notListed => t ++ 1#4 ++ 0#64
  | .decline t .noRoom => t ++ 2#4 ++ 0#64
  | .tally b => b.tag ++ b.echo ++ b.good ++ BitVec.ofBool b.skew ++ BitVec.ofBool b.delinLocked ++ b.width ++ 0#40
  | .presence b => b.owned ++ b.tx ++ b.rx ++ 0#57

/-- A notice, 112 bits (12.1, R11), with the guard recessive. -/
def encodeNotice (sender dest : StationId) (b : NoticeBody) : BitVec 112 :=
  let covered : BitVec 90 := b.cls ++ sender ++ b.kind ++ dest ++ encodeBody b
  covered ++ crc16 (bitsOf covered) ++ 0x3F#6

/-- A notice's body read by its kind, with the test of R172; none where the kind is unknown or the test fails. -/
def decodeBody (kind : BitVec 4) (x : BitVec 72) : Option NoticeBody :=
  let tag : Tag := field x 0 4
  let second : BitVec 4 := field x 4 4
  match kind.toNat with
  | 1 => some (.close tag)
  | 2 => match second.toNat with
    | 1 => some (.dismiss tag .noTrunk)
    | 2 => some (.dismiss tag .client)
    | _ => none
  | 3 => if 1 ≤ second.toNat ∧ second.toNat ≤ 3 then some (.offer tag second) else none
  | 4 => some (.accept tag)
  | 5 => match second.toNat with
    | 1 => some (.decline tag .notListed)
    | 2 => some (.decline tag .noRoom)
    | _ => none
  | 6 =>
    let width : BitVec 5 := field x 27 5
    if width.toNat ≤ 16 then
      some (.tally { tag := tag, echo := field x 4 5, good := field x 9 16, skew := field x 25 1 == 1#1,
                     delinLocked := field x 26 1 == 1#1, width := width })
    else none
  | 7 =>
    let owned : BitVec 7 := field x 0 7
    let tx : BitVec 4 := field x 7 4
    let rx : BitVec 4 := field x 11 4
    if owned.toNat ≤ 64 ∧ tx.toNat ≤ 8 ∧ rx.toNat ≤ 8 then some (.presence { owned := owned, tx := tx, rx := rx })
    else none
  | _ => none

/-- The role code of a slot header (12.1). -/
def HeaderRole.code : HeaderRole → BitVec 2
  | .data => 0
  | .probe => 1
  | .hold => 2
  | .spare => 3

/-- The role a code names (12.1). -/
def roleOfCode (c : BitVec 2) : HeaderRole :=
  match c.toNat with
  | 0 => .data
  | 1 => .probe
  | 2 => .hold
  | _ => .spare

/-- A slot header, 40 bits (12.1, R13). -/
def encodeHeader (h : Header) : BitVec 40 :=
  let covered : BitVec 32 := h.owner ++ h.sink ++ h.tag ++ h.seq ++ h.role.code ++ h.epoch ++ h.width
  covered ++ crc8 (bitsOf covered)

/-- The fields of 40 header bits (12.1). -/
def headerFields (x : BitVec 40) : Header where
  owner := field x 0 6
  sink := field x 6 6
  tag := field x 12 4
  seq := field x 16 4
  role := roleOfCode (field x 20 2)
  epoch := field x 22 5
  width := field x 27 5

/-- The header check of 40 header bits is correct (R13, R171). -/
def headerCheckOk (x : BitVec 40) : Bool := crc8 (bitsOf (field x 0 32)) == field x 32 8

/-- A SPARE header of a station (R13): sink 63, and tag, sequence, epoch and width zero. -/
def spareHeader (owner : StationId) : Header where
  owner := owner
  sink := nobody
  tag := 0
  seq := 0
  role := .spare
  epoch := 0
  width := 0

/-- 32 zero payload bytes (R14). -/
def zeroPayload : List Byte := List.replicate 32 0

/-- The probe pattern (R14): eight repetitions of cycle number, source station ID, tag and sequence. -/
def probePattern (cycle : CycleNo) (source : StationId) (tag : Tag) (seq : BitVec 4) : List Byte :=
  (List.replicate 8 [cycle, source.setWidth 8, tag.setWidth 8, seq.setWidth 8]).flatten

/-! ### Parcels (R128, 12.1) -/

/-- The bytes of a value, most significant first. -/
def bytes16 (x : BitVec 16) : List Byte := [field x 0 8, field x 8 8]

/-- The four bytes of a CRC-32, most significant first (12.1). -/
def bytes32 (x : BitVec 32) : List Byte := [field x 0 8, field x 8 8, field x 16 8, field x 24 8]

/-- A parcel header (R128): length in two bytes, class, CRC-8 over the three. -/
def parcelHeader (len : Nat) (cls : Byte) : List Byte :=
  let covered := bytes16 (BitVec.ofNat 16 len) ++ [cls]
  covered ++ [crc8 (covered.flatMap bitsOf)]

/-- The length and class of four bytes that are a valid parcel header (R133); none otherwise. -/
def readParcelHeader : List Byte → Option (Nat × Byte)
  | [a, b, c, d] =>
    let len := a.toNat * 256 + b.toNat
    if d = crc8 ([a, b, c].flatMap bitsOf) ∧ len ≤ 1536 then some (len, c) else none
  | _ => none

/-- The bytes of a parcel of a given length (R128): 4 for a fill, L + 8 for a frame. -/
def parcelSize (len : Nat) : Nat := if len = 0 then 4 else len + 8

/-- The blocks a frame of a given length needs: ⌈L / 128⌉ (R139). -/
def blocksFor (len : Nat) : Nat := (len + (Config.blockBytes - 1)) / Config.blockBytes

/-! ### Client port formats (12.3) -/

/-- A count in one byte. -/
def byteOf (n : Nat) : Byte := BitVec.ofNat 8 n

/-- An age, free count, use or number queued, in two bytes. -/
def wordOf (n : Nat) : List Byte := bytes16 (BitVec.ofNat 16 n)

/-- A station ID in one byte, 63 for none. -/
def byteOfId (i : Option StationId) : Byte := (i.getD nobody).setWidth 8

/-- A flag in one byte. -/
def byteOfFlag (b : Bool) : Byte := if b then 1 else 0

/-- A lag in one byte, two's complement, 80h for none. -/
def byteOfLag : Option Int → Byte
  | some l => BitVec.ofInt 8 l
  | none => 0x80

/-- A flywheel number that may be none, in two bytes. -/
def wordOfNumber : Option CycleNo → List Byte
  | some c => [0, c]
  | none => [0xFF, 0xFF]

/-- A wait or deadline that may be none, in two bytes. -/
def wordOfWait : Option Nat → List Byte
  | some n => wordOf n
  | none => [0xFF, 0xFF]

def LockState.code : LockState → Byte
  | .disabled => 0
  | .hunt => 1
  | .confirm => 2
  | .locked => 3
  | .coast => 4

def Role.code : Role → Byte
  | .quiet => 0
  | .following => 1
  | .electing => 2
  | .pacing => 3

/-- What heard a roster entry (R57, 12.3); none is FFh (log entry 67). -/
def HeardBy.code : Option HeardBy → Byte
  | some .notice => 0
  | some .header => 1
  | some .mark => 2
  | none => 0xFF

def SlotState.code : SlotState → Byte
  | .unseen => 0
  | .free => 1
  | .claiming => 2
  | .mine => 3
  | .theirs => 4
  | .barred => 5

def TxState.code : TxState → Byte
  | .vacant => 0
  | .offering => 1
  | .opened => 2
  | .closing => 3

def MemberRole.code : MemberRole → Byte
  | .probe => 0
  | .data => 1
  | .leaving => 2
  | .shunned => 3

def ChangeKind.code : ChangeKind → Byte
  | .grow => 0
  | .shrink => 1
  | .drop => 2
  | .closeAbort => 3

def ChangePhase.code : ChangePhase → Byte
  | .claim => 0
  | .probe => 1
  | .switchWait => 2
  | .confirm => 3

def GoneReason.code : GoneReason → Byte
  | .closed => 1
  | .sinkLost => 2
  | .dismissed => 3
  | .peerAbsent => 4
  | .superseded => 5

def RxState.code : RxState → Byte
  | .vacant => 0
  | .accepted => 1
  | .draining => 2

def Health.code : Health → Byte
  | .good => 0
  | .suspect => 1
  | .bad => 2

/-- The reason of a view entry's last fault (R106, 12.3); none is FFh (log entry 67). -/
def UncleanReason.code : Option UncleanReason → Byte
  | some .lane => 0
  | some .header => 1
  | some .absent => 2
  | some .owner => 3
  | some .probe => 4
  | some .skew => 5
  | some .late => 6
  | none => 0xFF

def DelinState.code : DelinState → Byte
  | .hunt => 0
  | .verify => 1
  | .locked => 2

def LoaderState.code : LoaderState → Byte
  | .loading => 0
  | .listening => 1
  | .attached => 2
  | .failed => 3

def FailReason.code : FailReason → Byte
  | .none => 0
  | .marker => 1
  | .version => 2
  | .check => 3
  | .stationId => 4
  | .laneMask => 5
  | .field _ => 6
  | .idClash => 7

/-- The field number that goes with a failure reason: 0 unless the reason is FIELD (12.3). -/
def FailReason.fieldNumber : FailReason → Byte
  | .field n => byteOf n
  | _ => 0

/-- A failure reason, followed by the field number where it is FIELD (12.3). -/
def FailReason.bytes (r : FailReason) : List Byte :=
  match r with
  | .field n => [r.code, byteOf n]
  | _ => [r.code]

def Direction.code : Direction → Byte
  | .transmit => 0
  | .receive => 1

def DiscardReason.code : DiscardReason → Byte
  | .notOpen => 1
  | .full => 2
  | .length => 3

def CmdOutcome.code : CmdOutcome → Byte
  | .done => 1
  | .partially => 2
  | .unconfirmed => 3
  | .restarting => 4
  | .busy => 5
  | .notReady => 6
  | .badArg => 7
  | .notOpen => 8
  | .queueFull => 9
  | .notPresent => 10
  | .noRecord => 11
  | .sinkSilent => 12
  | .declined => 13
  | .noAnswer => 14
  | .noSlots => 15
  | .probeFailed => 16
  | .aborted => 17

/-- Where an ID clash was found, in three bytes (12.3). -/
def ClashPlace.bytes : ClashPlace → List Byte
  | .notice l n => [0, byteOf l.val, byteOf n]
  | .slot a => [1, byteOf a.val, 0xFF]

/-- The body of a report (12.3, R157): the kind code, then the fields in the order of their rule; the widths that 12.3
does not give are those of log entry 20. -/
def Report.body : Report → List Byte
  | .ready id mask role num => [1, id.setWidth 8, mask.setWidth 8, role.code] ++ wordOfNumber num
  | .startFailed reason => 2 :: reason.bytes
  | .idClash p pad => 3 :: (p.bytes ++ wordOf pad)
  | .timingRole left entered pacer num => [4, left.code, entered.code, byteOfId pacer] ++ wordOfNumber num
  | .laneState l left entered lag => [5, byteOf l.val, left.code, entered.code, byteOfLag lag]
  | .laneRenumbered l expected adopted lag => [6, byteOf l.val, expected, adopted, byteOfLag lag]
  | .peerJoined id by_ => [7, id.setWidth 8, HeardBy.code (some by_)]
  | .peerLeft id => [8, id.setWidth 8]
  | .trunkArrived r source tag => [9, byteOf r.val, source.setWidth 8, tag.setWidth 8]
  | .trunkGone dir r tag station reason =>
    [10, dir.code, byteOf r.val, tag.setWidth 8, station.setWidth 8, reason.code]
  | .memberFault t slot seq epoch => [11, byteOf t.val, byteOf slot.val, byteOf seq, epoch.setWidth 8]
  | .memberRestored t slot seq epoch => [12, byteOf t.val, byteOf slot.val, byteOf seq, epoch.setWidth 8]
  | .widthChanged r before after epoch => [13, byteOf r.val, before.setWidth 8, after.setWidth 8, epoch.setWidth 8]
  | .realigned r l lag => [14, byteOf r.val, byteOf l.val, byteOfLag lag]
  | .sinkSilent t sink age => [15, byteOf t.val, sink.setWidth 8] ++ wordOf age
  | .sinkHeard t sink => [16, byteOf t.val, sink.setWidth 8]
  | .slotSeized t slot seq role seizedBy epoch =>
    [17, byteOf t.val, byteOf slot.val, byteOf seq, role.code, if seizedBy.isSome then 0 else 1, byteOfId seizedBy,
     epoch.setWidth 8]
  | .discard index reason len total => [18, index.setWidth 8, reason.code] ++ wordOf len ++ wordOf (min total 65535)
  | .reportsLost count => [19, if count ≤ 255 then byteOf count else Config.lostCountByte count]

/-- The body of a response (12.3, R154). -/
def Response.body (r : Response) : List Byte := [r.code, r.tag, r.outcome.code] ++ r.result

/-- A client frame header (12.3, R145). -/
def frameHeader (kind : BitVec 4) (index : BitVec 4) (cls : Byte) (len : Nat) : List Byte :=
  [kind ++ index, cls] ++ bytes16 (BitVec.ofNat 16 len)

/-- The bytes of a response frame on client output (R145). -/
def Response.frame (r : Response) : List Byte := frameHeader 3 0 0 r.body.length ++ r.body

/-- The bytes of a report frame on client output (R145). -/
def Report.frame (r : Report) : List Byte := frameHeader 4 0 0 r.body.length ++ r.body

/-- The bytes of a data frame on client output (R145). -/
def dataFrame (r : RecIx) (cls : Byte) (payload : List Byte) : List Byte :=
  frameHeader 1 (BitVec.ofNat 4 r.val) cls payload.length ++ payload

end Sys2Proof.Machine
end

