-- ==== Sys2Proof/Machine/Operands.lean ====
section
/-! DEFINITION. What a command's operand bits say: marks and windows (R10, R18), notices (R11, R54, R172), slot headers
(R13), the outcome of what this station sent (R6, R7), and the start-up record (R166). -/

namespace Sys2Proof.Machine

/-! ### Marks -/

/-- The fields of a valid mark that its receivers use (R10). -/
structure MarkFields where
  pacer : StationId
  number : CycleNo
  fresh : Bool
  deriving DecidableEq, Repr

/-- The mark in 64 bits of lane l, if they pass every validity test of R10. -/
def readMark (l : LaneNo) (w : BitVec 64) : Option MarkFields :=
  if field w 0 16 = 0xE2D4#16 ∧ crc16 (bitsOf (field w 16 24)) = field w 40 16 ∧ (field w 22 2).toNat = l.val ∧
      field w 33 7 = 0#7 ∧ field w 56 8 = 0xFF#8 then
    some { pacer := field w 16 6, number := field w 24 8, fresh := field w 32 1 == 1#1 }
  else none

/-- The verdict on an expected position (R18). -/
inductive Verdict where
  | valid (m : MarkFields) (offset : Int) (word : BitVec 64)
  | bad
  | missing
  deriving DecidableEq, Repr

/-- The verdict on what a lane's window held (R18): the first sync pattern in the window is the mark; with none, all
bits recessive at the expected position is a missing mark and any dominant bit a bad one. -/
def verdictOf (l : LaneNo) : Window → Verdict
  | .sync offset word =>
    match readMark l word with
    | some m => .valid m offset word
    | none => .bad
  | .noSync word => if word = BitVec.allOnes 64 then .missing else .bad

/-! ### Outcomes of what this station sent -/

/-- The five outcomes (R7); LOST AFTER FIELD with the check result of the field as read. -/
inductive SendOutcome where
  | won
  | lostBefore
  | lostIn
  | lostAfter (checkOk : Bool)
  | abandoned
  deriving DecidableEq, Repr

/-- The first driven bit that read back other than sent (R6). -/
def firstMismatch {n : Nat} (driven : Nat) (sent read : BitVec n) : Option Nat :=
  (List.range driven).find? (fun i => sent.getMsbD i != read.getMsbD i)

/-- The outcome (R7): where the first mismatch falls against the contended field, bits `lo` to `hi`. -/
def outcomeOf {n : Nat} (lo hi driven : Nat) (checkOk : BitVec n → Bool) (sent : BitVec n) : ReadBack n → SendOutcome
  | .abandoned => .abandoned
  | .ended read =>
    match firstMismatch driven sent read with
    | none => .won
    | some i => if i < lo then .lostBefore else if i ≤ hi then .lostIn else .lostAfter (checkOk read)

/-- The mark check of 64 bits is correct (R171). -/
def markCheckOk (w : BitVec 64) : Bool := crc16 (bitsOf (field w 16 24)) == field w 40 16

/-- The outcome of a mark: the pacer ID is the contended field, the guard is not driven (R6, R7, R10). -/
def markOutcomeOf (sent : BitVec 64) (r : ReadBack 64) : SendOutcome := outcomeOf 16 21 56 markCheckOk sent r

/-- The notice check of 112 bits is correct (R171). -/
def noticeCheckOk (w : BitVec 112) : Bool := crc16 (bitsOf (field w 0 90)) == field w 90 16

/-- The outcome of a notice: class and sender are the contended field, the guard is not driven (R6, R7, R11). -/
def noticeOutcomeOf (sent : BitVec 112) (r : ReadBack 112) : SendOutcome := outcomeOf 0 7 106 noticeCheckOk sent r

/-- The outcome of a slot header: the owner ID is the contended field (R6, R7, R13). -/
def headerOutcomeOf (sent : BitVec 40) (r : ReadBack 40) : SendOutcome := outcomeOf 0 5 40 headerCheckOk sent r

/-- The bits the lane carried, where the part was not abandoned (R7). -/
def ReadBack.word {n : Nat} : ReadBack n → BitVec n
  | .ended w => w
  | .abandoned => 0

/-! ### Notices -/

/-- What a lane unit and the notice unit find in a notice position (R11, R54, R172). -/
inductive NoticeRead where
  | empty
  | checkFailure
  /-- Unknown kind, mismatched class, naming no station, or failing the body test. -/
  | unknown
  | received (sender dest : StationId) (body : NoticeBody)
  deriving DecidableEq, Repr

/-- Read the 112 bits of a notice position (R11, R54, R172). -/
def readNotice (w : BitVec 112) : NoticeRead :=
  let cls : BitVec 2 := field w 0 2
  let sender : StationId := field w 2 6
  let kind : BitVec 4 := field w 8 4
  let dest : StationId := field w 12 6
  if cls = 3#2 ∧ sender = nobody then .empty
  else if noticeCheckOk w = false ∨ field w 106 6 ≠ 0x3F#6 then .checkFailure
  else if kindClass kind ≠ some cls then .unknown
  else if sender = 0#6 ∨ sender = nobody ∨ dest = 0#6 then .unknown
  else
    match decodeBody kind (field w 18 72) with
    | some b => .received sender dest b
    | none => .unknown

/-! ### Slot headers -/

/-- What a lane unit finds in a slot header (R13). -/
inductive HeaderRead where
  | free
  | valid (h : Header)
  | fault
  deriving DecidableEq, Repr

/-- Read the 40 bits of a slot header (R13): a width above 16 makes a fault of a SPARE header too (log entry 53). -/
def readHeader (x : BitVec 40) : HeaderRead :=
  if field x 0 6 = nobody then .free
  else if headerCheckOk x ∧ (field x 27 5).toNat ≤ 16 then .valid (headerFields x)
  else .fault

/-! ### The start-up record -/

/-- One byte of the start-up record. -/
def recByte (r : Vector Byte 32) (i : Nat) : Byte := (vlist r).getD i 0xFF

/-- Two bytes of the start-up record, most significant first. -/
def recWord (r : Vector Byte 32) (i : Nat) : Nat := (recByte r i).toNat * 256 + (recByte r (i + 1)).toNat

/-- A number lies in a range. -/
def inRange (n lo hi : Nat) : Bool := decide (lo ≤ n) && decide (n ≤ hi)

/-- The accept list entries that count (12.4). -/
def recAccept (r : Vector Byte 32) : List Nat :=
  (List.range (recByte r 13).toNat).map (fun i => (recByte r (14 + i)).toNat)

/-- The sixth test of R166: the first other field out of range, numbered from 1 in its order (12.3). -/
def firstFieldOut (r : Vector Byte 32) : Option Nat :=
  if !inRange (recByte r 5).toNat 2 16 then some 1
  else if !inRange (recByte r 6).toNat 8 64 then some 2
  else if !inRange (recByte r 7).toNat 0 6 then some 3
  else if !inRange (recByte r 8).toNat 1 48 then some 4
  else if !inRange (recWord r 9) 16 256 then some 5
  else if !inRange (recWord r 11) 16 256 then some 6
  else if !inRange (recByte r 13).toNat 0 8 then some 7
  else if !(recAccept r).all (fun n => inRange n 1 62) then some 8
  else none

/-- The fields of a record (12.4). -/
def recFields (r : Vector Byte 32) : StartRecord where
  id := (recByte r 3).setWidth 6
  mask := (recByte r 4).setWidth 4
  electBase := (recByte r 5).toNat
  tallyPeriod := (recByte r 6).toNat
  skewLimit := (recByte r 7).toNat
  maxOwned := (recByte r 8).toNat
  txQuota := recWord r 9
  rxQuota := recWord r 11
  accept := (recAccept r).map (BitVec.ofNat 6)

/-- Validation of the 32 bytes, in R166's order: the loaded record, or the failure reason. -/
def validate (r : Vector Byte 32) : Except FailReason StartRecord :=
  if recWord r 0 ≠ 0x71C3 then .error .marker
  else if recByte r 2 ≠ 1 then .error .version
  else if (crc16 (((vlist r).take 30).flatMap bitsOf)).toNat ≠ recWord r 30 then .error .check
  else if !inRange (recByte r 3).toNat 1 62 then .error .stationId
  else if !inRange (recByte r 4).toNat 1 15 then .error .laneMask
  else
    match firstFieldOut r with
    | some n => .error (.field n)
    | none => .ok (recFields r)

/-! ### Client frame headers -/

/-- The kind of a client frame header's first byte (12.3). -/
def frameKind (b : Byte) : BitVec 4 := field b 0 4

/-- The trunk index of a client frame header's first byte (12.3). -/
def frameIndex (b : Byte) : BitVec 4 := field b 4 4

end Sys2Proof.Machine
end

