-- ==== Sys2Proof/Machine/Flags.lean ====
section
/-! DEFINITION. The conditions blocks read from one another's state: whether the station runs, whether a lane's cycle
may be driven (R8), the client-input hold (R147), widths, skews and the views that are not stored twice. -/

namespace Sys2Proof.Machine

/-- The record in force where none is loaded: no rule reads it then. -/
def noRecord : StartRecord where
  id := 0
  mask := 0
  electBase := 0
  tallyPeriod := 0
  skewLimit := 0
  maxOwned := 0
  txQuota := 0
  rxQuota := 0
  accept := []

/-- The start-up record in force (R168). -/
def cfg (s : State) : StartRecord := s.loader.record.getD noRecord

/-- This station's ID (R168). -/
def ownId (s : State) : StationId := (cfg s).id

/-- The lanes are received: the loader is LISTENING or ATTACHED (R163, R167). -/
def running (s : State) : Bool :=
  match s.loader.state with
  | .listening => true
  | .attached => true
  | .loading => false
  | .failed => false

/-- The loader is ATTACHED (R169). -/
def attached (s : State) : Bool :=
  match s.loader.state with
  | .attached => true
  | _ => false

/-- A lane. -/
def laneAt (s : State) (l : LaneNo) : Lane := vget s.lanes l

/-- A lane is LOCKED. -/
def isLocked (s : State) (l : LaneNo) : Bool := (laneAt s l).state == .locked

/-- A lane is LOCKED or COAST. -/
def lockedOrCoast (s : State) (l : LaneNo) : Bool := (laneAt s l).state == .locked || (laneAt s l).state == .coast

/-- The timing unit is FOLLOWING or PACING (R8). -/
def roleDrives (s : State) : Bool := s.timing.role == .following || s.timing.role == .pacing

/-- The number c is the one a part that passes on lane l now takes (R5): the lane's expected number while its position
has not been judged, and the number before the expected one after (log entry 11). -/
def ofLane (s : State) (l : LaneNo) (c : CycleNo) : Bool :=
  (laneAt s l).expNum == some c || (laneAt s l).expNum == some (nextCycle c)

/-- The number c is that of the lane's cycle before its present one: the mark of the present one was judged early (R18),
while the last slot of the cycle before was still passing. The cycle before the one that locked the lane is not among
these (R23). -/
def justPast (s : State) (l : LaneNo) (c : CycleNo) : Bool :=
  match (laneAt s l).expNum with
  | some e => decide (1 ≤ (laneAt s l).lockAge) && (laneAt s l).former.getD (e - 1) == nextCycle c
  | none => false

/-- The number c is one that a slot which now ends takes (R5, R15): as `ofLane`; for slot 15, which may end after the
next mark's verdict, also the number before. -/
def slotOfLane (s : State) (a : SlotAddr) (c : CycleNo) : Bool :=
  ofLane s (laneOf a) c || ((slotIx a).val == 15 && justPast s (laneOf a) c)

/-- The cycles of a lane of which slot a may be under way now (R3, R18): that of the mark last judged; for slot 0, which
begins before a missing mark is judged, the next one too; for slot 15, which ends after an early mark is judged, the one
before too. -/
def cyclesUnderWay (s : State) (a : SlotAddr) : List CycleNo :=
  match (laneAt s (laneOf a)).expNum with
  | none => []
  | some e =>
    let last := if (slotIx a).val = 15 then [(laneAt s (laneOf a)).former.getD (e - 1) - 1] else []
    if (slotIx a).val = 0 then [e - 1, e] else (e - 1) :: last

/-- The number x of a part that began on lane l and the number c of the lane's present cycle name the same cycle: they
are equal, or the lane has adopted c in the cycle it numbered x (R26). -/
def sameCycle (s : State) (l : LaneNo) (x c : CycleNo) : Bool :=
  x == c || ((laneAt s l).former == some x && (laneAt s l).expNum == some (nextCycle c))

/-- The expected mark position of cycle c of lane l found the conditions of R8 failing. -/
def failedR8 (s : State) (l : LaneNo) (c : CycleNo) : Bool := (laneAt s l).r8Failed.any (sameCycle s l c)

/-- The notices and slots of cycle c of lane l may be driven now (R8): the conditions hold, and they held at the
lane's expected mark position of that cycle. -/
def drives (s : State) (l : LaneNo) (c : CycleNo) : Bool := isLocked s l && roleDrives s && !failedR8 s l c

/-- The client-input hold is asserted (R147): the outstanding count has reached 24. -/
def inputHold (s : State) : Bool := decide (24 ≤ s.port.outstanding)

/-- The flywheel number, none while unphased (R46, R169). -/
def numberIfPhased (s : State) : Option CycleNo := if s.timing.phased then some s.timing.number else none

/-- The pacing flag of a station's roster entry (R57). -/
def pacingFlag (s : State) (id : StationId) : Bool := s.timing.pacer == some id

/-- The timing unit has no phase yet (R33). -/
def noPhase (s : State) : Bool := !s.timing.phased || s.timing.rephase

/-- The lags of a list of lanes, leaving out lanes that hold none (R17). -/
def lagsOf (s : State) (ls : List LaneNo) : List Int := ls.filterMap (fun l => (laneAt s l).lag)

/-- Highest minus lowest of a list of lags; 0 for one (R69, R117), and for none, the model's choice (log entry 88). -/
def spread : List Int → Nat
  | [] => 0
  | x :: xs => (xs.foldl max x - xs.foldl min x).toNat

/-- SKEW_LIMIT in slot times (R69, R117). -/
def skewSlots (s : State) : Nat := (cfg s).skewLimit * 16

/-! ### Slot unit -/

/-- A slot record. -/
def slotAt (s : State) (a : SlotAddr) : SlotRec := vget s.slots.recs a

/-- The number of slot records in a state. -/
def slotCount (s : State) (p : SlotState → Bool) : Nat := (vlist s.slots.recs).countP (fun r => p r.state)

/-- The number of slot records CLAIMING or MINE (R69). -/
def claimingOrMine (s : State) : Nat := slotCount s (fun x => x == .claiming || x == .mine)

/-- The claim request in service (R68). -/
def inService (s : State) : Option ClaimReq := s.slots.queue.find? (fun q => q.phase == .inService)

/-! ### Transmit engine -/

/-- A transmit record. -/
def txAt (s : State) (t : RecIx) : TxRec := vget s.tx t

/-- The width: the number of members in DATA role (R77, R82). -/
def widthOf (ms : List Member) : Nat := ms.countP (fun m => m.role == .data)

/-- The width of a transmit record (R77). -/
def TxRec.width (r : TxRec) : Nat := widthOf r.members

/-- The good map shows a sequence good (R90, R120). -/
def goodAt (good : BitVec 16) (seq : Nat) : Bool := good.getMsbD seq

/-- The transmit record a notice from a station with a tag is for (R81, R90, R97): it is not VACANT. -/
def txMatch (s : State) (sender : StationId) (tag : Tag) : Option RecIx :=
  allRecs.find? (fun t => (txAt s t).state != .vacant && (txAt s t).sink == some sender && (txAt s t).tag == tag)

/-- The number of transmit records not VACANT (R60). -/
def txOpen (s : State) : Nat := (vlist s.tx).countP (fun r => r.state != .vacant)

/-! ### Receive engine -/

/-- A receive record. -/
def rxAt (s : State) (r : RecIx) : RxRec := vget s.rx.recs r

/-- The number of receive records not VACANT (R60). -/
def rxOpen (s : State) : Nat := (vlist s.rx.recs).countP (fun r => r.state != .vacant)

/-- The receive record outside VACANT that holds a source and tag (R107). -/
def rxMatch (s : State) (source : StationId) (tag : Tag) : Option RecIx :=
  allRecs.find? (fun r => (rxAt s r).state != .vacant && (rxAt s r).source == some source && (rxAt s r).tag == some tag)

/-- A view entry's slot is in view. -/
def inView (v : List ViewEntry) (a : SlotAddr) : Bool := v.any (fun e => e.slot == a)

/-- The lane holds a slot of the view. -/
def laneInView (v : List ViewEntry) (l : LaneNo) : Bool := v.any (fun e => laneOf e.slot == l)

/-- The trunk skew of a view (R117): the spread of the lags of the LOCKED lanes that hold its entries, 0 where none of
its lanes is LOCKED (log entry 88). -/
def viewSkew (s : State) (v : List ViewEntry) : Nat :=
  spread (lagsOf s (allLanes.filter (fun l => laneInView v l && isLocked s l)))

/-- The body of a PRESENCE, from the station's own counts (R60). -/
def ownPresence (s : State) : PresenceBody where
  owned := BitVec.ofNat 7 (slotCount s (fun x => x == .mine))
  tx := BitVec.ofNat 4 (txOpen s)
  rx := BitVec.ofNat 4 (rxOpen s)

end Sys2Proof.Machine
end

