-- ==== Sys2Proof/Machine/Ops.lean ====
section
/-! DEFINITION. The operations that every block uses: changes of one record, posting reports and responses (R154,
R155), the client-output arbiter (R158), the roster's refresh (R58), the notice queue (R47 to R51), reset (R163, R164)
and entry to FAILED (R161, R167). -/

namespace Sys2Proof.Machine

/-! ### Changes of one record -/

def State.modLane (s : State) (l : LaneNo) (f : Lane → Lane) : State := { s with lanes := vmod s.lanes l f }

def State.modTiming (s : State) (f : Timing → Timing) : State := { s with timing := f s.timing }

def State.modNotice (s : State) (f : NoticeUnit → NoticeUnit) : State := { s with notice := f s.notice }

def State.modRoster (s : State) (i : Fin 62) (f : RosterEntry → RosterEntry) : State :=
  { s with roster := vmod s.roster i f }

def State.modSlots (s : State) (f : SlotUnit → SlotUnit) : State := { s with slots := f s.slots }

def State.modSlot (s : State) (a : SlotAddr) (f : SlotRec → SlotRec) : State :=
  { s with slots := { s.slots with recs := vmod s.slots.recs a f } }

def State.modTx (s : State) (t : RecIx) (f : TxRec → TxRec) : State := { s with tx := vmod s.tx t f }

def State.modRx (s : State) (r : RecIx) (f : RxRec → RxRec) : State :=
  { s with rx := { s.rx with recs := vmod s.rx.recs r f } }

def State.modBuf (s : State) (f : Buffers → Buffers) : State := { s with buf := f s.buf }

def State.modPort (s : State) (f : Port → Port) : State := { s with port := f s.port }

def State.modLoader (s : State) (f : Loader → Loader) : State := { s with loader := f s.loader }

/-! ### Reports (R155) -/

/-- The report of the reserved entry. -/
def Report.isLost : Report → Bool
  | .reportsLost _ => true
  | _ => false

/-- The ordinary entries in use (R155). -/
def ordinaryCount (rs : List Report) : Nat := rs.countP (fun r => !r.isLost)

/-- One more report is counted in the reserved entry (R155). -/
def Report.countLost : Report → Report
  | .reportsLost n => .reportsLost (n + 1)
  | r => r

/-- Post a report (R155), and say whether it was taken. -/
def Port.post (p : Port) (rep : Report) : Port × Bool :=
  if ordinaryCount p.reports < 31 then ({ p with reports := p.reports ++ [rep] }, true)
  else if p.reports.any Report.isLost then
    ({ p with reports := p.reports.map Report.countLost, reportsLost := bump p.reportsLost }, false)
  else ({ p with reports := p.reports ++ [.reportsLost 1], reportsLost := bump p.reportsLost }, false)

/-- A block posts a report and does not act on whether it was taken (R155). -/
def report (rep : Report) (s : State) : State := { s with port := (s.port.post rep).1 }

/-! ### Responses and the in-flight list (R149, R154) -/

/-- Queue a response (R154). -/
def respond (r : Response) (s : State) : State :=
  { s with port := { s.port with responses := s.port.responses ++ [r] } }

/-- An engine accepts a command without answering it (R149). -/
def putInFlight (e : InFlight) (s : State) : State :=
  { s with port := { s.port with inFlight := s.port.inFlight ++ [e] } }

/-- The four result bytes of a trunk command (12.3). -/
def resultBytes (record tag count decline : Byte) : List Byte := [record, tag, count, decline]

/-- The response to an in-flight command (R150): only OPEN carries the trunk's tag. -/
def inFlightResponse (e : InFlight) (outcome : CmdOutcome) (record tag count decline : Byte) : Response where
  code := e.code
  tag := e.tag
  outcome := outcome
  result := resultBytes record (if e.code = 1 then tag else 0xFF) count decline

/-- An engine answers the command in flight for a record, which leaves the in-flight list (R149). -/
def answer (record : CmdRecord) (outcome : CmdOutcome) (ix tag count decline : Byte) (s : State) : State :=
  match s.port.inFlight.find? (fun e => e.record == record) with
  | none => s
  | some e =>
    respond (inFlightResponse e outcome ix tag count decline)
      { s with port := { s.port with inFlight := s.port.inFlight.erase e } }

/-- The transmit engine answers the command of a record (R150). The open command tag goes with its OPEN (R77). -/
def answerTx (t : RecIx) (outcome : CmdOutcome) (count : Nat) (decline : Byte) (s : State) : State :=
  (answer (.tx t) outcome (byteOf t.val) ((txAt s t).tag.setWidth 8) (byteOf count) decline s).modTx t
    (fun r => { r with openCmd := none })

/-- The receive engine answers the DISMISS of a record (R124, R150). -/
def answerRx (r : RecIx) (outcome : CmdOutcome) (s : State) : State :=
  answer (.rx r) outcome (byteOf r.val) 0xFF 0 0 s

/-! ### The client-output arbiter (R158) -/

/-- The order in which the arbiter tests the receive queues (R158). -/
def arbOrder (arb : RecIx) : List RecIx := (List.range 8).map (fun i => Fin.ofNat 8 (arb.val + i))

/-- The oldest response enters the output stage. -/
def takeResponse (s : State) : Option State :=
  match s.port.responses with
  | [] => none
  | r :: rest =>
    some { s with port := { s.port with responses := rest, stage := .sending (.response r) r.frame.length } }

/-- The oldest report enters the output stage, and its entry is freed (R156). -/
def takeReport (s : State) : Option State :=
  match s.port.reports with
  | [] => none
  | r :: rest =>
    some { s with port := { s.port with reports := rest, stage := .sending (.report r) r.frame.length } }

/-- The head frame of the first receive queue that holds one enters the output stage (R158). -/
def takeData (s : State) : Option State :=
  match (arbOrder s.port.arb).find? (fun r => !(vget s.buf.rxQueue r).isEmpty) with
  | none => none
  | some r =>
    match vget s.buf.rxQueue r with
    | [] => none
    | f :: _ =>
      some { s with port := { s.port with
        arb := Fin.ofNat 8 (r.val + 1)
        stage := .sending (.data r f.cls f.data.length) (f.data.length + 4) } }

/-- The output stage is IDLE and the client-output hold released (R158). -/
def mayChoose (s : State) : Bool := s.port.stage == .idle && !s.pins.outHold

/-- The arbiter's choice, the response before the report (R158). -/
def choose (s : State) : State :=
  if mayChoose s then (takeResponse s <|> takeReport s <|> takeData s).getD s else s

/-- The arbiter's choice with the report before the response (R158). -/
def chooseReport (s : State) : State := if mayChoose s then (takeReport s).getD s else s

/-- The choice made when something has become ready to send while the stage is IDLE and the hold released (R158). A
response and a report that became ready together may be taken in either order: a free value; a receive frame that became
ready in the same event comes after them (log entry 9). -/
def settle (s : State) : State :=
  if mayChoose s && !s.port.responses.isEmpty && !s.port.reports.isEmpty then
    let s' := { s with free := s.free + 1 }
    if Config.reportFirst s.free then chooseReport s' else choose s'
  else choose s

/-- A step of a block outside reset: its effect, then the arbiter's choice. Nothing happens while the reset pin is
asserted (R163). -/
def run (f : State → State) (s : State) : Host.Outcome State Fault Refusal :=
  if s.pins.resetAsserted then .next s else .next (settle (f s))

/-! ### The roster (R58) -/

/-- A station was heard (R58): its entry's age returns to 0, and an ABSENT entry becomes PRESENT with PEER_JOINED. This
station's own entry is left as it is. -/
def refresh (id : StationId) (by_ : HeardBy) (s : State) : State :=
  if id = ownId s then s
  else
    match rosterIx id with
    | none => s
    | some i =>
      let s' := s.modRoster i (fun e => { e with present := true, age := 0, heardBy := some by_ })
      if (vget s.roster i).present then s' else report (.peerJoined id by_) s'

/-! ### The notice queue (R47 to R51) -/

/-- The entry an owner entry holds (R47). -/
def queued (s : State) (o : OwnerEntry) : Option QueuedNotice := s.notice.queue.find? (fun e => e.owner == o)

/-- The entry is in flight (R47, R52): from the start of the position it is offered in until that offer's outcome is
handed, also where its notice has been withdrawn since. -/
def inFlight (s : State) (o : OwnerEntry) : Bool :=
  (vlist s.notice.offers).any (fun x => x.any (fun f => f.owner == o))

/-- The queue order (R48): by class, then by age. -/
def queueOrder (q : List QueuedNotice) : List QueuedNotice :=
  [0#2, 1#2, 2#2, 3#2].flatMap (fun c => q.filter (fun e => e.body.cls == c))

/-- The offers of an owner entry in progress are marked as replaced (R49). -/
def markReplaced (o : OwnerEntry) (n : NoticeUnit) : NoticeUnit :=
  { n with offers := vmap (fun x => x.map (fun f => if f.owner == o then { f with replaced := true } else f)) n.offers }

/-- The offers of an owner entry in progress are marked as withdrawn (R50). -/
def markWithdrawn (o : OwnerEntry) (n : NoticeUnit) : NoticeUnit :=
  { n with offers := vmap (fun x => x.map (fun f => if f.owner == o then { f with withdrawn := true } else f)) n.offers }

/-- Post a notice into an owner entry (R48, R49). -/
def postNotice (o : OwnerEntry) (dest : StationId) (body : NoticeBody) (s : State) : State :=
  let new : QueuedNotice := { owner := o, dest := dest, body := body, expiry := 0 }
  match queued s o with
  | none => s.modNotice (fun n => { n with queue := n.queue ++ [new] })
  | some e =>
    s.modNotice (fun n => markReplaced o { n with
      queue := if e.body.kind = body.kind then n.queue.map (fun x => if x.owner == o then new else x)
               else n.queue.filter (fun x => x.owner != o) ++ [new] })

/-- Withdraw the notice of an owner entry (R50); withdrawing an empty entry has no effect. -/
def withdraw (o : OwnerEntry) (s : State) : State :=
  match queued s o with
  | none => s
  | some _ => s.modNotice (fun n => markWithdrawn o { n with queue := n.queue.filter (fun x => x.owner != o) })

/-- The four decline entries (R47). -/
def declineEntries : List OwnerEntry := [.decline 0, .decline 1, .decline 2, .decline 3]

/-- The decline entry that takes a request (R51): one already queued with the same kind, destination and tag, else the
lowest-numbered empty one. -/
def declineSlot (s : State) (dest : StationId) (body : NoticeBody) : Option OwnerEntry :=
  let same := declineEntries.find? (fun o => (queued s o).any (fun e =>
    e.dest == dest && e.body.kind == body.kind && e.body.tag? == body.tag?))
  same <|> declineEntries.find? (fun o => (queued s o).isNone)

/-- A decline request (R51), and whether it was placed. -/
def requestDecline (dest : StationId) (body : NoticeBody) (s : State) : State × Bool :=
  match declineSlot s dest body with
  | some o => (postNotice o dest body s, true)
  | none => (s.modNotice (fun n => { n with declineFull := bump n.declineFull }), false)

/-! ### Reset, RESTART and FAILED -/

/-- What a client-input frame that straddles a clearing of the pools leaves (R137, R146): its bytes are dropped. -/
def Parse.dropFrame : Parse → Parse
  | .data left _ => .data left none
  | p => p

/-- Every block takes its reset values (R163, R164); the pins, the free values and the waiting commands are not the
part's. -/
def resetAll (parse : Parse) (reading : Bool) (s : State) : State :=
  { State.reset with
    loader := .reset reading
    port := .reset parse
    pins := s.pins
    free := s.free
    pending := s.pending }

/-- A lane unit on entry to FAILED (R17). -/
def Lane.clear (l : Lane) : Lane :=
  { Lane.reset with badMarks := l.badMarks, headerErrors := l.headerErrors, noticeErrors := l.noticeErrors,
                    lagOutOfRange := l.lagOutOfRange }

/-- The notice unit on entry to FAILED (R47, R60, R61). -/
def NoticeUnit.clear (n : NoticeUnit) : NoticeUnit :=
  { NoticeUnit.reset with unknownKind := n.unknownKind, declineFull := n.declineFull,
                          declineExpired := n.declineExpired }

/-- The slot unit on entry to FAILED (R62, R76). -/
def SlotUnit.clear (u : SlotUnit) : SlotUnit :=
  { SlotUnit.reset with won := u.won, lost := u.lost, abandoned := u.abandoned, seizures := u.seizures,
                        laneLosses := u.laneLosses }

/-- A transmit record that takes its reset values but for its tag and its counters (R77). -/
def TxRec.clear (tag : Tag) (r : TxRec) : TxRec :=
  { TxRec.reset tag with framesSent := r.framesSent, discNotOpen := r.discNotOpen, discFull := r.discFull,
                         discLength := r.discLength, epochs := r.epochs, shuns := r.shuns, restores := r.restores }

/-- The transmit records on entry to FAILED (R77). -/
def txClear (v : Vector TxRec 8) : Vector TxRec 8 :=
  allRecs.foldl (fun w t => vmod w t (TxRec.clear (vget txReset t).tag)) v

/-- A receive record that takes its reset values but for its counters (R105). -/
def RxRec.clear (r : RxRec) : RxRec :=
  { RxRec.reset with consistent := r.consistent, faults := r.faults, realigns := r.realigns,
                     badChecks := r.badChecks, delivered := r.delivered, dropped := r.dropped }

/-- The receive engine on entry to FAILED (R105, R126). -/
def RxEngine.clear (e : RxEngine) : RxEngine where
  recs := vmap RxRec.clear e.recs
  strays := []
  straysDismissed := e.straysDismissed
  straysIgnored := e.straysIgnored

/-- The buffer manager on entry to FAILED (R137). -/
def Buffers.clear (b : Buffers) : Buffers := { Buffers.reset with unnamed := b.unnamed, flushed := b.flushed }

/-- The output padding (R161): the bytes still due of a DATA frame. -/
def outputPadding : Stage → Nat
  | .sending (.data _ _ _) left => left
  | _ => 0

/-- A DATA frame being sent is ended with zero bytes (R161). -/
def Stage.pad : Stage → Stage
  | .sending (.data _ _ _) left => .sending .padding left
  | x => x

/-- The count a change's response carries (12.3, log entry 34): members added, or selected. -/
def Change.resultCount (c : Change) : Nat :=
  match c.kind with
  | .grow => c.added
  | .shrink => c.arg
  | .drop => 1
  | .closeAbort => 0

/-- The answer to an in-flight command on entry to FAILED (R161), with the result fields of R150 as its record held them
(log entry 19). -/
def abortedAnswer (s : State) (e : InFlight) : Response :=
  match e.record with
  | .tx t =>
    let count := ((txAt s t).change.map Change.resultCount).getD 0
    inFlightResponse e .aborted (byteOf t.val) ((txAt s t).tag.setWidth 8) (byteOf count) 0
  | .rx r => inFlightResponse e .aborted (byteOf r.val) 0xFF 0 0

/-- The client port on entry to FAILED, steps 1 and 2 of R161, with the answers to the commands in flight. -/
def Port.fail (answers : List Response) (p : Port) : Port :=
  { p with
    responses := p.responses ++ answers
    inFlight := []
    stage := p.stage.pad
    parse := p.parse.dropFrame }

/-- Entry to FAILED (R167), with the report of step 4 given the output padding. -/
def enterFailed (reason : FailReason) (rep : Nat → Report) (s : State) : State :=
  report (rep (outputPadding s.port.stage))
    { s with
      lanes := vmap Lane.clear s.lanes
      timing := .reset
      notice := s.notice.clear
      roster := Vector.replicate 62 RosterEntry.reset
      slots := s.slots.clear
      tx := txClear s.tx
      rx := s.rx.clear
      buf := s.buf.clear
      port := s.port.fail (s.port.inFlight.map (abortedAnswer s))
      loader := { s.loader with state := .failed, reading := false, record := none, reason := reason } }

/-- An ID clash handed to the loader (R170): it has no effect in LOADING and FAILED. -/
def idClash (place : ClashPlace) (s : State) : State :=
  if running s then enterFailed .idClash (fun pad => .idClash place pad) s else s

end Sys2Proof.Machine
end

