-- ==== Sys2Proof/Machine/Buffers.lean ====
section
/-! DEFINITION. The buffer manager (chapter 9): admission of client data frames, the discard flags, the blocks of the
transmit pool, and the queues' ends. -/

namespace Sys2Proof.Machine

/-- The trunk record an index names (R139, R149). -/
def recOf (n : Nat) : Option RecIx := if h : n < 8 then some ⟨n, h⟩ else none

/-! ### The transmit pool -/

/-- Blocks of a transmit record return to the pool (R137). -/
def returnTx (t : RecIx) (n : Nat) (s : State) : State :=
  s.modBuf (fun b => { b with txFree := b.txFree + n, txUse := vmod b.txUse t (fun u => u - n) })

/-- Blocks of a receive record return to the pool (R137). -/
def returnRx (r : RecIx) (n : Nat) (s : State) : State :=
  s.modBuf (fun b => { b with rxFree := b.rxFree + n, rxUse := vmod b.rxUse r (fun u => u - n) })

/-- The blocks the frame of a parcel still holds after a number of bytes of the parcel have been given (R129). -/
def encoderBlocks : Encoder → Nat
  | .between => 0
  | .fill _ => 0
  | .frame f given _ =>
    let payload := min (given - 4) f.len
    if payload = f.len then 0 else blocksFor f.len - payload / Config.blockBytes

/-- The encoder abandons its parcel (R131). -/
def abandonParcel (t : RecIx) (s : State) : State :=
  (returnTx t (encoderBlocks (txAt s t).enc) s).modTx t (fun r => { r with enc := .between })

/-- Raise a counter a number of times. -/
def bumpBy {w : Nat} (c : BitVec w) : Nat → BitVec w
  | 0 => c
  | n + 1 => bumpBy (bump c) n

/-- A frame in progress on client input whose record's queue is flushed: its bytes are dropped from then on (R141). -/
def Parse.cancel (t : RecIx) : Parse → Parse
  | .data left dest => .data left (if dest = some t then none else dest)
  | p => p

/-- The frames queued for a record that returns to VACANT are discarded (R141). -/
def flushTx (t : RecIx) (s : State) : State :=
  let q := vget s.buf.txQueue t
  let blocks := (q.map (fun f => blocksFor f.len)).sum
  ((returnTx t blocks s).modBuf (fun b =>
    { b with txQueue := vset b.txQueue t [], flushed := bumpBy b.flushed q.length })).modPort
    (fun p => { p with parse := p.parse.cancel t })

/-! ### Admission (R139, R140) -/

/-- The first admission test that fails, if any (R139). -/
def admissionFault (ix len : Nat) (s : State) : Option DiscardReason :=
  if !inRange len 1 1536 then some .length
  else
    match recOf ix with
    | none => some .notOpen
    | some t =>
      if (txAt s t).state ≠ .opened then some .notOpen
      else if s.buf.txFree < blocksFor len ∨ (cfg s).txQuota < vget s.buf.txUse t + blocksFor len then some .full
      else none

/-- The discard counter of a record rises (R103). -/
def TxRec.countDiscard (reason : DiscardReason) (r : TxRec) : TxRec :=
  match reason with
  | .notOpen => { r with discNotOpen := bump r.discNotOpen }
  | .full => { r with discFull := bump r.discFull }
  | .length => { r with discLength := bump r.discLength }

/-- A discard is counted on its record, or as unnamed (R139). -/
def countDiscard (ix : Nat) (reason : DiscardReason) (s : State) : State :=
  match recOf ix with
  | some t => s.modTx t (TxRec.countDiscard reason)
  | none => s.modBuf (fun b => { b with unnamed := bump b.unnamed })

/-- The discard total a DISCARD report carries (R140). -/
def discardTotal (ix : Nat) (s : State) : Nat :=
  match recOf ix with
  | some t => (txAt s t).discNotOpen.toNat + (txAt s t).discFull.toNat + (txAt s t).discLength.toNat
  | none => s.buf.unnamed.toNat

/-- The discard flag of an index: records 0 to 7, then all other indices (R140). -/
def flagIx (ix : Nat) : Fin 9 := if h : ix < 8 then ⟨ix, by omega⟩ else 8

/-- A discard at admission (R139, R140). -/
def discardFrame (ix len : Nat) (reason : DiscardReason) (s : State) : State :=
  let s1 := countDiscard ix reason s
  if vget s1.buf.flags (flagIx ix) then s1
  else
    let posted := s1.port.post (.discard (BitVec.ofNat 4 ix) reason len (discardTotal ix s1))
    { s1 with port := posted.1, buf := { s1.buf with flags := vset s1.buf.flags (flagIx ix) posted.2 } }

/-- An admitted frame claims its blocks and joins the end of its record's queue, FILLING (R138, R139). -/
def admitFrame (t : RecIx) (len : Nat) (cls : Byte) (s : State) : State :=
  let need := blocksFor len
  s.modBuf (fun b => { b with
    txFree := b.txFree - need
    txUse := vmod b.txUse t (fun u => u + need)
    txQueue := vmod b.txQueue t (fun q => q ++ [{ len := len, cls := cls, data := [], complete := false }]) })

/-- Admission of a client data frame (R139), and the record whose newest frame its bytes fill. -/
def admitData (ix len : Nat) (cls : Byte) (s : State) : State × Option RecIx :=
  match admissionFault ix len s with
  | some reason => (discardFrame ix len reason s, none)
  | none =>
    match recOf ix with
    | some t => (admitFrame t len cls s, some t)
    | none => (s, none)

/-- A payload byte is written into the newest frame of a queue, which becomes COMPLETE at its last byte (R138). -/
def fillNewest (b : Byte) (last : Bool) (q : List TxFrame) : List TxFrame :=
  match q.getLast? with
  | none => q
  | some f => q.dropLast ++ [{ f with data := f.data ++ [b], complete := last }]

/-- A payload byte of a client data frame: written into its frame, or dropped (R146). -/
def payloadByte (dest : Option RecIx) (b : Byte) (last : Bool) (s : State) : State :=
  match dest with
  | none => s
  | some t => s.modBuf (fun x => { x with txQueue := vmod x.txQueue t (fillNewest b last) })

/-! ### Client output (R143) -/

/-- A receive block whose last byte has left client output returns to the pool (R143). -/
def blockSent (r : RecIx) (s : State) : State := returnRx r 1 s

/-- The discard flag of an index is cleared when its DISCARD report has left (R140, R156). -/
def clearFlag (ix : BitVec 4) (s : State) : State :=
  s.modBuf (fun b => { b with flags := vset b.flags (flagIx ix.toNat) false })

/-- The blocks of a frame whose last byte lies among its last bytes still due: those not yet returned (R143). -/
def blocksLeft (len left : Nat) : Nat := if left = 0 then 0 else blocksFor len - (len - min left len) / Config.blockBytes

end Sys2Proof.Machine
end

