-- ==== Sys2Proof/Machine/Parcels.lean ====
section
/-! DEFINITION. The parcel encoder and the delineator (chapter 8). -/

namespace Sys2Proof.Machine

/-! ### The encoder (R129, R130) -/

/-- What the encoder of one record reads and writes while it gives bytes: its place, its queue, the blocks it has
handed back and the frames-sent counter. -/
structure EncCtx where
  enc : Encoder
  queue : List TxFrame
  returned : Nat
  sent : Counter
  deriving DecidableEq, Repr

/-- The n-th byte of a fill (R128). -/
def fillByte (n : Nat) : Byte := (parcelHeader 0 0).getD n 0

/-- One byte of a fill (R129). -/
def encodeFill (given : Nat) (x : EncCtx) : EncCtx × Byte :=
  ({ x with enc := if given + 1 = 4 then .between else .fill (given + 1) }, fillByte given)

/-- One byte of a frame parcel (R128, R129): header, payload with its CRC-32 and block returns, frame check. -/
def encodeFrame (f : TxFrame) (given : Nat) (crc : BitVec 32) (x : EncCtx) : EncCtx × Byte :=
  if given < 4 then ({ x with enc := .frame f (given + 1) crc }, (parcelHeader f.len f.cls).getD given 0)
  else if given < f.len + 4 then
    let b := f.data.getD (given - 4) 0
    let taken := given - 3
    let back := if taken % Config.blockBytes = 0 ∨ taken = f.len then 1 else 0
    ({ x with enc := .frame f (given + 1) (crc32Byte crc b), returned := x.returned + back }, b)
  else
    let b := (bytes32 (crc32Final crc)).getD (given - 4 - f.len) 0
    if given + 1 = f.len + 8 then ({ x with enc := .between, sent := bump x.sent }, b)
    else ({ x with enc := .frame f (given + 1) crc }, b)

/-- The encoder gives one byte (R129): at a parcel boundary it takes the frame at the head, or begins a fill. -/
def encodeByte (x : EncCtx) : EncCtx × Byte :=
  match x.enc with
  | .fill given => encodeFill given x
  | .frame f given crc => encodeFrame f given crc x
  | .between =>
    match x.queue with
    | [] => encodeFill 0 x
    | f :: rest => if f.complete then encodeFrame f 0 crc32Init { x with queue := rest } else encodeFill 0 x

/-- The encoder gives exactly n bytes, in stream order (R129). -/
def encodeBytes : Nat → EncCtx → EncCtx × List Byte
  | 0, x => (x, [])
  | n + 1, x =>
    let y := encodeByte x
    let z := encodeBytes n y.1
    (z.1, y.2 :: z.2)

/-- The encoder of a transmit record gives n bytes (R129). -/
def encode (t : RecIx) (n : Nat) (s : State) : State × List Byte :=
  let out := encodeBytes n { enc := (txAt s t).enc, queue := vget s.buf.txQueue t, returned := 0,
                             sent := (txAt s t).framesSent }
  let x := out.1
  (((returnTx t x.returned s).modBuf (fun b => { b with txQueue := vset b.txQueue t x.queue })).modTx t
    (fun r => { r with enc := x.enc, framesSent := x.sent }), out.2)

/-! ### The delineator (R132 to R136) -/

/-- What a search of stored and new bytes comes to (R133, R134). -/
inductive Hunted where
  | hunt (store : List Byte)
  | verify (store : List Byte) (cand : Nat × Byte)
  /-- LOCKED at the successor header, with the bytes after it. -/
  | locked (header : Nat × Byte) (rest : List Byte)
  deriving DecidableEq, Repr

/-- The search of HUNT and VERIFY over the bytes not yet ruled out (R133, R134): the first offset whose four bytes are
a valid header is the candidate; its successor header decides; where that fails the search resumes one byte on. -/
def hunt : List Byte → Hunted
  | [] => .hunt []
  | b :: rest =>
    if rest.length < 3 then .hunt (b :: rest)
    else
      match readParcelHeader ((b :: rest).take 4) with
      | none => hunt rest
      | some cand =>
        let next := (b :: rest).drop (parcelSize cand.1)
        if next.length < 4 then .verify (b :: rest) cand
        else
          match readParcelHeader (next.take 4) with
          | some header => .locked header (next.drop 4)
          | none => hunt rest

/-- What the delineator of one record reads and writes: itself, the receive pool, its record's use and queue, and two
counters. -/
structure DelCtx where
  d : Delin
  free : Nat
  use : Nat
  quota : Nat
  queue : List RxFrame
  badChecks : Counter
  dropped : Counter
  deriving DecidableEq, Repr

/-- A parcel begins after a valid header in LOCKED (R134, R135). -/
def beginParcel (header : Nat × Byte) (x : DelCtx) : DelCtx :=
  let place : Place := if header.1 = 0 then .header [] else .payload 0
  let frame : Option RxProgress :=
    if header.1 = 0 then none
    else some { len := header.1, cls := header.2, data := [], blocks := 0, crc := crc32Init }
  { x with d := { state := .locked, store := [], cand := none, place := place, frame := frame } }

/-- A request for one receive block is granted (R142). -/
def blockGranted (x : DelCtx) : Bool := decide (1 ≤ x.free) && decide (x.use < x.quota)

/-- A payload byte is taken into the frame in progress (R135). -/
def takePayload (taken : Nat) (f : RxProgress) (b : Byte) (x : DelCtx) : DelCtx :=
  { x with d := { x.d with
      place := if taken + 1 = f.len then .check [] else .payload (taken + 1)
      frame := some { f with data := f.data ++ [b], crc := crc32Byte f.crc b } } }

/-- The frame in progress is dropped for lack of a block (R135, R142). -/
def dropFrame (taken : Nat) (f : RxProgress) (x : DelCtx) : DelCtx :=
  { x with free := x.free + f.blocks, use := x.use - f.blocks, dropped := bump x.dropped,
           d := { x.d with place := .skip (f.len - taken - 1 + 4), frame := none } }

/-- A payload byte in LOCKED, with a block asked for where it begins one (R135, R142). -/
def payloadPlace (taken : Nat) (f : RxProgress) (b : Byte) (x : DelCtx) : DelCtx :=
  if taken % Config.blockBytes = 0 then
    if blockGranted x then
      takePayload taken { f with blocks := f.blocks + 1 } b { x with free := x.free - 1, use := x.use + 1 }
    else dropFrame taken f x
  else takePayload taken f b x

/-- The fourth check byte in LOCKED (R135): the frame is complete, or discarded with its blocks. -/
def checkPlace (check : List Byte) (f : RxProgress) (x : DelCtx) : DelCtx :=
  let y := { x with d := { x.d with place := .header [], frame := none } }
  if check = bytes32 (crc32Final f.crc) then { y with queue := y.queue ++ [{ cls := f.cls, data := f.data }] }
  else { y with free := y.free + f.blocks, use := y.use - f.blocks, badChecks := bump y.badChecks }

/-- The fourth header byte in LOCKED (R135). -/
def headerPlace (four : List Byte) (x : DelCtx) : DelCtx :=
  match readParcelHeader four with
  | some header => beginParcel header x
  | none =>
    { x with d := { state := .hunt, store := four.drop 1, cand := none, place := .header [], frame := none } }

/-- One byte in LOCKED (R135). -/
def lockedByte (b : Byte) (x : DelCtx) : DelCtx :=
  match x.d.place, x.d.frame with
  | .header held, _ =>
    if held.length < 3 then { x with d := { x.d with place := .header (held ++ [b]) } }
    else headerPlace (held ++ [b]) x
  | .skip left, _ =>
    { x with d := { x.d with place := if left ≤ 1 then .header [] else .skip (left - 1) } }
  | .payload taken, some f => payloadPlace taken f b x
  | .check held, some f =>
    if held.length < 3 then { x with d := { x.d with place := .check (held ++ [b]) } }
    else checkPlace (held ++ [b]) f x
  | .payload _, none => x
  | .check _, none => x

/-- The delineator takes bytes in stream order: stored bytes after the header that a search locks on are taken at once
(R134, log entry 60). The first argument bounds the turns between searching and LOCKED. -/
def feed : Nat → List Byte → DelCtx → DelCtx
  | 0, _, x => x
  | n + 1, bytes, x =>
    match x.d.state with
    | .locked =>
      match bytes with
      | [] => x
      | b :: rest => feed n rest (lockedByte b x)
    | _ =>
      match hunt (x.d.store ++ bytes) with
      | .hunt store => { x with d := { state := .hunt, store := store, cand := none, place := .header [], frame := none } }
      | .verify store cand =>
        { x with d := { state := .verify, store := store, cand := some cand, place := .header [], frame := none } }
      | .locked header rest => feed n rest (beginParcel header x)

/-- Turns enough for any bytes: between two bytes ruled out, at most four bytes of a header are held. -/
def feedFuel (d : Delin) (bytes : List Byte) : Nat := 5 * (d.store.length + bytes.length + 4)

/-- What the delineator of a receive record works on. -/
def delCtx (r : RecIx) (s : State) : DelCtx where
  d := (rxAt s r).delin
  free := s.buf.rxFree
  use := vget s.buf.rxUse r
  quota := (cfg s).rxQuota
  queue := vget s.buf.rxQueue r
  badChecks := (rxAt s r).badChecks
  dropped := (rxAt s r).dropped

/-- What the delineator of a receive record left. -/
def putDelCtx (r : RecIx) (x : DelCtx) (s : State) : State :=
  (s.modBuf (fun b => { b with
    rxFree := x.free
    rxUse := vset b.rxUse r x.use
    rxQueue := vset b.rxQueue r x.queue })).modRx r
    (fun e => { e with delin := x.d, badChecks := x.badChecks, dropped := x.dropped })

/-- The delineator of a receive record takes the bytes of a CONSISTENT cycle (R132). -/
def delineate (r : RecIx) (bytes : List Byte) (s : State) : State :=
  if bytes.isEmpty then s
  else
    let x := delCtx r s
    putDelCtx r (feed (feedFuel x.d bytes) bytes x) s

/-- The blocks of the frame in progress (R136). -/
def Delin.blocks (d : Delin) : Nat :=
  match d.frame with
  | some f => f.blocks
  | none => 0

/-- A reset event of the delineator (R132, R136). -/
def resetDelin (r : RecIx) (s : State) : State :=
  (returnRx r (rxAt s r).delin.blocks s).modRx r (fun e => { e with delin := .reset })

end Sys2Proof.Machine
end

