-- ==== Sys2Proof/Machine/Layout.lean ====
section
/-! DEFINITION. What the slot unit and the transmit engine hand one another: releases and assignments (R65, R73), layout
edits (R82), the phases of a change (R84 to R89), and members lost (R94). -/

namespace Sys2Proof.Machine

/-! ### The slot unit's part -/

/-- A record that ends as a release (R65). -/
def SlotRec.barred (r : SlotRec) : SlotRec :=
  { r with state := .barred, owner := none, claim := 0, quiet := 0, assign := .none, handed := false
           bar := Config.barTime, underWay := [] }

/-- A record that becomes UNSEEN with its lane (R63): every count but the header error count is cleared. -/
def SlotRec.unsee (r : SlotRec) : SlotRec := { SlotRec.reset with headerErrors := r.headerErrors }

/-- A record that becomes THEIRS (R64, R66, R74). -/
def SlotRec.giveTo (x : StationId) (r : SlotRec) : SlotRec :=
  { r with state := .theirs, owner := some x, claim := 0, quiet := 0, assign := .none, handed := false }

/-- The staging and alignment entry of a cycle: its number modulo 8 (R101, R111). -/
def entryIx (c : CycleNo) : Fin 8 := Fin.ofNat 8 c.toNat

/-- What a staged cycle lists for a slot (R102): nothing once an election has begun since (R101, log entry 51). -/
def StagedCycle.lists (a : SlotAddr) (e : StagedCycle) : Option StagedSlot :=
  if e.stale then none else e.slots.find? (fun x => x.slot == a)

/-- What a trunk's staging lists for a slot, cycle by cycle (R102). -/
def stagedFor (r : TxRec) (a : SlotAddr) : List (CycleNo × StagedSlot) :=
  (vlist r.staging).filterMap (fun x => x.bind (fun e => (e.lists a).map (fun y => (e.cycle, y))))

/-- What a slot's record may have begun a cycle with (R65): what it keeps, then what its trunk's staging lists. -/
def mayHaveBegun (s : State) (a : SlotAddr) : List (CycleNo × StagedSlot) :=
  match (vget s.slots.recs a).assign with
  | .member t _ => (vget s.slots.recs a).began ++ stagedFor (vget s.tx t) a
  | .spare _ => (vget s.slots.recs a).began
  | .none => (vget s.slots.recs a).began

/-- The transmit engine releases a slot (R65): a cycle of it that is being driven runs to its end with the header and
payload it began with, and no later one is driven. The release of a slot that is not MINE has no effect. -/
def releaseSlot (a : SlotAddr) (s : State) : State :=
  let began := mayHaveBegun s a
  let underWay := cyclesUnderWay s a
  s.modSlot a (fun r => if r.state = .mine then { r.barred with began := began, underWay := underWay } else r)

/-- The transmit engine assigns a slot to a member (R73); an assignment of a slot that is not MINE is discarded. -/
def assignSlot (t : RecIx) (seq : Nat) (a : SlotAddr) (s : State) : State :=
  s.modSlot a (fun r => if r.state = .mine then { r with assign := .member t seq } else r)

/-- The transmit engine hands the slot unit the sequences of a record's members (R73, R82). -/
def syncAssign (t : RecIx) (s : State) : State :=
  (txAt s t).members.zipIdx.foldl (fun x p => assignSlot t p.2 p.1.slot x) s

/-! ### Layout edits (R82) -/

/-- The epoch's advance with a layout edit (R82). -/
def TxRec.advance (r : TxRec) : TxRec :=
  if r.due then r else { r with epoch := r.epoch + 1, epochs := bump r.epochs, due := true }

/-- The members change and the slot unit is handed the new sequences; no layout edit (R82). -/
def setMembers (t : RecIx) (ms : List Member) (s : State) : State :=
  syncAssign t (s.modTx t (fun r => { r with members := ms }))

/-- A layout edit (R82). -/
def editMembers (t : RecIx) (ms : List Member) (s : State) : State :=
  syncAssign t (s.modTx t (fun r => TxRec.advance { r with members := ms }))

/-- The slots of the members a test picks are released (R65). -/
def releaseMembers (ms : List Member) (s : State) : State := ms.foldl (fun x m => releaseSlot m.slot x) s

/-- The members a test picks are released and leave the list; no layout edit (R82, R89, R95). -/
def dropMembers (t : RecIx) (p : Member → Bool) (s : State) : State :=
  let ms := (txAt s t).members
  setMembers t (ms.filter (fun m => !p m)) (releaseMembers (ms.filter p) s)

/-! ### The pending change -/

def setChange (t : RecIx) (c : Option Change) (s : State) : State := s.modTx t (fun r => { r with change := c })

/-- Restores are deferred (R92): a voluntary change is in SWITCH-WAIT or CONFIRM, a GROW started by OPEN among them
(log entry 83). -/
def TxRec.deferring (r : TxRec) : Bool :=
  match r.change with
  | some c => c.kind != .closeAbort && (c.phase == .switchWait || c.phase == .confirm)
  | none => false

/-- A member is a SHUNNED one whose restore count has reached 3 (R92). -/
def Member.ready (m : Member) : Bool := m.role == .shunned && m.restore == 3

/-- A restored member (R92). -/
def Member.restored (m : Member) : Member := { m with role := .data, restore := 0 }

/-- One report for each member a test picks, in sequence order, with the epoch as it now stands (R104). -/
def reportMembers (t : RecIx) (ms : List (Member × Nat)) (rep : SlotAddr → Nat → Epoch → Report) (s : State) : State :=
  ms.foldl (fun x p => report (rep p.1.slot p.2 (txAt x t).epoch) x) s

/-- The deferred restores at a change's end, in one edit (R92). -/
def restoreDeferred (t : RecIx) (s : State) : State :=
  let ms := (txAt s t).members
  let back := ms.zipIdx.filter (fun p => p.1.ready)
  if back.isEmpty then s
  else
    let s1 := editMembers t (ms.map (fun m => if m.ready then m.restored else m)) s
    reportMembers t back (fun a seq e => .memberRestored t a seq e)
      (s1.modTx t (fun r => { r with restores := bumpBy r.restores back.length }))

/-- A change ends with a response (R84 to R89), and the restores deferred by it follow (R92). -/
def endChange (t : RecIx) (outcome : CmdOutcome) (s : State) : State :=
  let count := match (txAt s t).change with
    | some c => c.resultCount
    | none => 0
  restoreDeferred t (setChange t none (answerTx t outcome count 0 s))

/-- The probing members of a record (R84). -/
def probing (r : TxRec) : List Member := r.members.filter (fun m => m.role == .probe)

/-- A GROW in PROBE with no probing member and no late claim outstanding ends PROBE_FAILED (R85). -/
def testProbe (t : RecIx) (s : State) : State :=
  match (txAt s t).change with
  | none => s
  | some c =>
    if c.kind = .grow ∧ c.phase = .probe ∧ c.late = 0 ∧ probing (txAt s t) = [] then endChange t .probeFailed s else s

/-- CONFIRM begins (R87). -/
def Change.confirm (c : Change) : Change := { c with phase := .confirm, deadline := some Config.confirmWait }

/-- A change in SWITCH-WAIT of a record with no members enters CONFIRM at once (R87). -/
def confirmIfEmpty (t : RecIx) (s : State) : State :=
  match (txAt s t).change with
  | none => s
  | some c =>
    if c.phase = .switchWait ∧ (txAt s t).members = [] then setChange t (some c.confirm) s else s

/-- A new PROBE member (R84, R85). -/
def probeMember (a : SlotAddr) : Member where
  slot := a
  role := .probe
  restore := 0
  deadline := Config.probeWait

/-- The latest probe deadline among the probing members (R84, R85). -/
def latestProbe (r : TxRec) : Nat := ((probing r).map (fun m => m.deadline)).foldl max 0

/-- PROBE members join at the top of the sequence order, and the change's deadline follows (R84, R85). -/
def addProbes (t : RecIx) (slots : List SlotAddr) (s : State) : State :=
  let s1 := setMembers t ((txAt s t).members ++ slots.map probeMember) s
  match (txAt s1 t).change with
  | none => s1
  | some c => setChange t (some { c with phase := .probe, deadline := some (latestProbe (txAt s1 t)) }) s1

/-- The result of a claim request is handed (R84). -/
def growResult (t : RecIx) (won : List SlotAddr) (running : Nat) (s : State) : State :=
  match (txAt s t).change with
  | none => releaseMembers (won.map probeMember) s
  | some c =>
    if c.kind = .grow ∧ c.phase = .claim then
      if won.isEmpty then endChange t .noSlots s
      else addProbes t won (setChange t (some { c with late := running }) s)
    else releaseMembers (won.map probeMember) s

/-- A late result lowers the late claims outstanding of a change that is still a GROW (R85): of a newer GROW too, where
the claim ran for an earlier one of the record, and not below 0 (log entry 80). -/
def countLate (t : RecIx) (s : State) : State :=
  s.modTx t (fun r => { r with
    change := r.change.map (fun c => if c.kind = .grow then { c with late := c.late - 1 } else c) })

/-- A late win becomes a PROBE member: the change is a GROW in PROBE with fewer probing members than its count (R85).
-/
def wantsLate (r : TxRec) : Bool :=
  match r.change with
  | some c => c.kind == .grow && c.phase == .probe && decide ((probing r).length < c.arg)
  | none => false

/-- A late result is handed (R85): a late win with its slot, or a late loss. -/
def lateResult (t : RecIx) (win : Option SlotAddr) (s : State) : State :=
  let s1 := match win with
    | none => s
    | some a => if wantsLate (txAt s t) then addProbes t [a] s else releaseSlot a s
  testProbe t (countLate t s1)

/-- A seizure or a slot loss of a member's slot (R94): with its new owner, or none for cause LANE. -/
def memberLost (t : RecIx) (a : SlotAddr) (newOwner : Option StationId) (s : State) : State :=
  let r := txAt s t
  match r.members.zipIdx.find? (fun p => p.1.slot == a) with
  | none => s
  | some p =>
    let rest := r.members.filter (fun m => m.slot != a)
    if r.state = .opened then
      let s1 := editMembers t rest s
      let s2 := report (.slotSeized t a p.2 p.1.role newOwner (txAt s1 t).epoch) s1
      confirmIfEmpty t (testProbe t s2)
    else setMembers t rest s

/-! ### Forming cycles (R99 to R102) -/

/-- The role a member's header carries (R100). -/
def MemberRole.header : MemberRole → HeaderRole
  | .probe => .probe
  | .data => .data
  | .leaving => .hold
  | .shunned => .hold

/-- The header of a member in a formed cycle (R100). -/
def memberHeader (s : State) (r : TxRec) (seq : Nat) (m : Member) : Header where
  owner := ownId s
  sink := r.sink.getD nobody
  tag := r.tag
  seq := BitVec.ofNat 4 seq
  role := m.role.header
  epoch := r.epoch
  width := BitVec.ofNat 5 r.width

/-- The place of a member among the DATA members in sequence order (R100). -/
def dataOrder (ms : List Member) (seq : Nat) : Nat := widthOf (ms.take seq)

/-- The payload of a member in a formed cycle (R100). -/
def memberPayload (s : State) (r : TxRec) (c : CycleNo) (bytes : List Byte) (seq : Nat) (m : Member) : List Byte :=
  match m.role with
  | .data => (bytes.drop (32 * dataOrder r.members seq)).take 32
  | .probe => probePattern c (ownId s) r.tag (BitVec.ofNat 4 seq)
  | .leaving => zeroPayload
  | .shunned => zeroPayload

/-- A slot of the cycle has begun on its lane: one of the first so many (R99). -/
def hasBegun (begun : Vector (Fin 17) 4) (a : SlotAddr) : Bool :=
  decide ((slotIx a).val < (vget begun (laneOf a)).val)

/-- A formed cycle (R99 to R101): one header for every member. -/
def stagedCycle (s : State) (r : TxRec) (c : CycleNo) (bytes : List Byte) : StagedCycle where
  cycle := c
  epoch := r.epoch
  width := r.width
  slots := r.members.zipIdx.map (fun p =>
    { slot := p.1.slot, header := memberHeader s r p.2 p.1, payload := memberPayload s r c bytes p.2 p.1 })
  stale := false

/-- A SPARE slot (R9, R14). -/
def spareSlot (s : State) (a : SlotAddr) : StagedSlot where
  slot := a
  header := spareHeader (ownId s)
  payload := zeroPayload

/-- A slot that began before the formation of its trunk's cycle began with the SPARE header, and keeps it (R102, log
entry 61). -/
def keepSpare (c : CycleNo) (a : SlotAddr) (s : State) : State :=
  let x := spareSlot s a
  s.modSlot a (fun r => { r with began := r.began ++ [(c, x)] })

/-- The slots of a record's members that have begun in a cycle. -/
def begunSlots (r : TxRec) (begun : Vector (Fin 17) 4) : List SlotAddr :=
  (r.members.map (fun m => m.slot)).filter (hasBegun begun)

/-- The staging entry of a cycle, where it holds that cycle (R102); the number alone decides (log entry 51). -/
def stagedAt (r : TxRec) (c : CycleNo) : Option StagedCycle :=
  match vget r.staging (entryIx c) with
  | some e => if e.cycle = c then some e else none
  | none => none

/-- The layout mark becomes FORMED, and a change in SWITCH-WAIT enters CONFIRM (R87, R99). -/
def TxRec.formed (r : TxRec) : TxRec :=
  if r.due then
    { r with due := false
             change := r.change.map (fun c => if c.phase = .switchWait then c.confirm else c) }
  else r

/-- A trunk cycle is formed (R99). -/
def formCycle (t : RecIx) (c : CycleNo) (begun : Vector (Fin 17) 4) (s : State) : State :=
  let out := encode t (32 * (txAt s t).width) s
  (begunSlots (txAt s t) begun).foldl (fun x a => keepSpare c a x) (out.1.modTx t (fun r => TxRec.formed
    { r with staging := vset r.staging (entryIx c) (some (stagedCycle s (txAt s t) c out.2)) }))

/-- A cycle of a record is to be formed (R99, R102): some member slot of it that has not begun is to be driven, and the
staging entry holds another cycle or none. -/
def formable (s : State) (t : RecIx) (c : CycleNo) (begun : Vector (Fin 17) 4) : Bool :=
  (txAt s t).members.any (fun m =>
    ofLane s (laneOf m.slot) c && drives s (laneOf m.slot) c && !hasBegun begun m.slot) &&
    (stagedAt (txAt s t) c).isNone

/-- The header and payload the slot unit supplies for a slot of a cycle that begins now (R9, R73, R102). -/
def memberSlot (s : State) (a : SlotAddr) (c : CycleNo) : StagedSlot :=
  match (slotAt s a).assign with
  | .member t _ => ((stagedAt (txAt s t) c).bind (fun e => e.lists a)).getD (spareSlot s a)
  | .spare _ => spareSlot s a
  | .none => spareSlot s a

/-- What the slot of a cycle began with, where the record keeps that (R65, R102). -/
def SlotRec.beganWith (r : SlotRec) (c : CycleNo) : Option StagedSlot :=
  (r.began.find? (fun p => p.1 == c)).map (fun p => p.2)

/-- The header and payload of a slot of a cycle (R9, R73, R102): none for a slot that is neither CLAIMING nor MINE,
unless it was so when that slot began (BARRED, R65). -/
def slotSupplied (s : State) (a : SlotAddr) (c : CycleNo) : Option StagedSlot :=
  let kept := (slotAt s a).beganWith c
  match (slotAt s a).state with
  | .claiming => some (spareSlot s a)
  | .mine => some (kept.getD (memberSlot s a c))
  | .barred => some (kept.getD (spareSlot s a))
  | .unseen => none
  | .free => none
  | .theirs => none

/-- This station may drive a slot of a cycle as far as its record goes (R9, R65 to R67). Of a cycle that may have been
under way when the record was released or its claim begun, `held` decides: that the record was CLAIMING or MINE when the
slot of that cycle began. Of any other cycle, the record as it is. -/
def mayDrive (s : State) (a : SlotAddr) (c : CycleNo) (held : Bool) : Bool :=
  if (slotAt s a).underWay.any (fun x => sameCycle s (laneOf a) x c) then held
  else (slotAt s a).state == .claiming || (slotAt s a).state == .mine

/-- The header this station drives in a slot of a cycle, until it ends or is lost (R6, R8, R9): a released slot in the
cycle under way at its release only (R65), a claimed one from the first cycle whose slot starts after the claim was
begun (R66). When slots begin is known to the sender of the steps only, which `held` stands for (log entry 70). -/
def headerDriven (s : State) (a : SlotAddr) (c : CycleNo) (held : Bool) : Option Header :=
  if drives s (laneOf a) c && mayDrive s a c held then (slotSupplied s a c).map (fun x => x.header) else none

/-- The payload this station drives in a slot of a cycle: only where its header's outcome was WON (R6, R9), to its end
(R65); the cycle is named as it was when the header began. -/
def payloadDriven (s : State) (a : SlotAddr) (c : CycleNo) : Option (List Byte) :=
  match (slotAt s a).driven with
  | none => none
  | some d =>
    if drives s (laneOf a) c && d.won && sameCycle s (laneOf a) d.cycle c then
      (slotSupplied s a d.cycle).map (fun x => x.payload)
    else none

/-- TRUNK_CYCLE_FORMATION (R99): where no cycle is to be formed, nothing happens. -/
def execTrunkCycleFormation (t : RecIx) (m : FormationMoment) (s : State) : Host.Outcome State Fault Refusal :=
  run (fun s => if running s ∧ formable s t m.cycle m.begun then formCycle t m.cycle m.begun s else s) s

end Sys2Proof.Machine
end

