-- ==== Sys2Proof/Machine/Slots.lean ====
section
/-! DEFINITION. The slot unit (chapter 5): the claim request queue and its arbiter, learning owners from arrivals,
claims, seizures, and what follows a lane's lock state. -/

namespace Sys2Proof.Machine

/-! ### Eligibility and preference (R69, R70) -/

/-- The lanes of the slots counted for a request's trunk (R69): members, won slots and running claims. -/
def trunkLanes (s : State) (q : ClaimReq) : List LaneNo :=
  ((txAt s q.tx).members.map (fun m => m.slot) ++ q.won ++ q.running).map laneOf

/-- The trunk's skew with a slot added (R69). -/
def skewWith (s : State) (q : ClaimReq) (a : SlotAddr) : Nat := spread (lagsOf s (laneOf a :: trunkLanes s q))

/-- A slot is eligible for the request in service (R69). -/
def eligible (s : State) (q : ClaimReq) (a : SlotAddr) : Bool :=
  (slotAt s a).state == .free && isLocked s (laneOf a) && decide (8 ≤ (laneAt s (laneOf a)).lockAge) && roleDrives s &&
    decide (skewWith s q a ≤ skewSlots s) && decide (claimingOrMine s < (cfg s).maxOwned)

/-- The order of R70's first two steps: slots on the trunk's lanes first, then the smaller skew. -/
def preference (s : State) (q : ClaimReq) (a : SlotAddr) : Nat :=
  (if (trunkLanes s q).contains (laneOf a) then 0 else 1024) + skewWith s q a

/-- The first of a list whose preference is least. -/
def leastBy {α : Type} (f : α → Nat) : List α → Option α
  | [] => none
  | a :: rest =>
    match leastBy f rest with
    | none => some a
    | some b => if f a ≤ f b then some a else some b

/-- The best eligible slot (R70): ties go to the lower address. -/
def bestSlot (s : State) (q : ClaimReq) : Option SlotAddr :=
  leastBy (preference s q) (allSlots.filter (eligible s q))

/-! ### The arbiter (R67, R68, R71) -/

/-- The request in service changes. -/
def modService (f : ClaimReq → ClaimReq) (s : State) : State :=
  s.modSlots (fun u => { u with queue := u.queue.map (fun q => if q.phase = .inService then f q else q) })

/-- A claim begins on a slot for the request in service (R66): a cycle of the slot that is under way is not the claim's.
-/
def beginClaim (a : SlotAddr) (s : State) : State :=
  let underWay := cyclesUnderWay s a
  (modService (fun q => { q with running := q.running ++ [a] }) s).modSlot a (fun r =>
    { r with state := .claiming, owner := some (ownId s), claim := 0, quiet := 0, ownRun := 0, driven := none
             began := [], stopped := false, underWay := underWay })

/-- Claims begin on the best eligible slots, up to the number still wanted (R68); at most n. -/
def beginClaims : Nat → State → State
  | 0, s => s
  | n + 1, s =>
    match inService s with
    | none => s
    | some q =>
      if q.running.length + q.won.length < q.count then
        match bestSlot s q with
        | none => s
        | some a => beginClaims n (beginClaim a s)
      else s

/-- The won slots of a request that ends are marked as handed (R71). -/
def markHanded (won : List SlotAddr) (s : State) : State :=
  won.foldl (fun x a => x.modSlot a (fun r => { r with handed := true })) s

/-- ENDED requests without running claims leave the queue (R71, R72). -/
def pruneQueue (s : State) : State :=
  s.modSlots (fun u => { u with queue := u.queue.filter (fun q => !(q.phase == .ended && q.running.isEmpty)) })

/-- The request in service ends and its result is handed (R71); an ENDED request has no wait (log entry 77). -/
def endService (s : State) : State :=
  match inService s with
  | none => s
  | some q =>
    let s1 := modService (fun q => { q with won := [], wait := none, phase := .ended }) (markHanded q.won s)
    growResult q.tx q.won q.running.length (pruneQueue s1)

/-- The head WAITING request enters service (R68). -/
def enterFirst : List ClaimReq → List ClaimReq
  | [] => []
  | q :: rest =>
    if q.phase = .waiting then { q with phase := .inService, wait := some Config.claimWait } :: rest
    else q :: enterFirst rest

/-- After a look, the request in service has ended (R71): its count is reached; or no claim of it runs, none could
begin, and the timing unit is FOLLOWING or PACING. -/
def serviceDone (s : State) (q : ClaimReq) : Bool :=
  decide (q.count ≤ q.won.length) || (roleDrives s && q.running.isEmpty)

/-- The arbiter serves: it looks for claims for the request in service, ends it where R71 says so, and lets the next
WAITING request enter (R68, R71). The first argument bounds the requests taken in one step. -/
def serve : Nat → State → State
  | 0, s => s
  | n + 1, s =>
    match inService s with
    | some _ =>
      let s1 := beginClaims 16 s
      match inService s1 with
      | some q => if serviceDone s1 q then serve n (endService s1) else s1
      | none => s1
    | none =>
      if s.slots.queue.any (fun q => q.phase == .waiting) then
        serve n (s.modSlots (fun u => { u with queue := enterFirst u.queue }))
      else s

/-- The arbiter looks (R68): each request takes at most two turns. -/
def look (s : State) : State := serve (2 * s.slots.queue.length + 1) s

/-- A claim request is posted (R67): refused as zero slots won where eight are queued, else queued; it enters service
at once where none is in service (R68). -/
def postClaim (t : RecIx) (k : Nat) (s : State) : State :=
  if 8 ≤ s.slots.queue.length then growResult t [] 0 s
  else
    let s1 := s.modSlots (fun u => { u with
      queue := u.queue ++ [{ tx := t, count := k, won := [], running := [], wait := none, phase := .waiting }] })
    if (inService s).isSome then s1 else look s1

/-- A running claim that is stopped ends as a release (R65); a cycle of it that is being driven runs to its end, and its
outcome is discarded (R67). -/
def stopClaim (a : SlotAddr) (s : State) : State :=
  let underWay := cyclesUnderWay s a
  s.modSlot a (fun r => if r.state = .claiming then { r.barred with stopped := true, underWay := underWay } else r)

/-- The arbiter looks where a rule calls for it (R68). -/
def lookIf (b : Bool) (s : State) : State := if b then look s else s

/-- Every request of a transmit record is withdrawn, an ENDED one too (R67, log entry 57). -/
def withdrawClaims (t : RecIx) (s : State) : State :=
  let mine := s.slots.queue.filter (fun q => q.tx == t)
  if mine.isEmpty then s
  else
    let s1 := (mine.flatMap (fun q => q.running)).foldl (fun x a => stopClaim a x) s
    let s2 := (mine.flatMap (fun q => q.won)).foldl (fun x a => releaseSlot a x) s1
    let s3 := s2.modSlots (fun u => { u with queue := u.queue.filter (fun q => q.tx != t) })
    lookIf (mine.any (fun q => q.phase == .inService)) s3

/-! ### The end of a claim (R66, R68, R72) -/

/-- The request a running claim belongs to. -/
def requestOf (s : State) (a : SlotAddr) : Option ClaimReq := s.slots.queue.find? (fun q => q.running.contains a)

/-- The claim running on a slot is one of the request in service, so that its end calls for a look (R68). -/
def claimInService (s : State) (a : SlotAddr) : Bool := (inService s).any (fun q => q.running.contains a)

/-- A claim leaves the running claims of its request; a win of the request in service joins the won list (R68). -/
def dropRunning (a : SlotAddr) (won : Bool) (s : State) : State :=
  s.modSlots (fun u => { u with queue := u.queue.map (fun q =>
    if q.running.contains a then
      { q with running := q.running.erase a,
               won := if won && q.phase == .inService then q.won ++ [a] else q.won }
    else q) })

/-- The end of a claim is handed to the arbiter (R66, R72): a late result goes to the transmit engine, and an ENDED
request without running claims leaves the queue. -/
def handEnd (a : SlotAddr) (won : Bool) (s : State) : State :=
  match requestOf s a with
  | none => s
  | some q =>
    let s1 := pruneQueue (dropRunning a won s)
    if q.phase = .ended then lateResult q.tx (if won then some a else none) s1 else s1

/-- A claim is abandoned (R66): counted, its record as given, and handed as a loss. -/
def abandonClaim (a : SlotAddr) (f : SlotRec → SlotRec) (s : State) : State :=
  handEnd a false ((s.modSlots (fun u => { u with abandoned := bump u.abandoned })).modSlot a f)

/-- A claim is lost to a station (R66), whose ID is the owner field as read, 63 and 0 too (log entry 58). -/
def loseClaim (a : SlotAddr) (x : StationId) (s : State) : State :=
  handEnd a false ((s.modSlots (fun u => { u with lost := bump u.lost })).modSlot a (SlotRec.giveTo x))

/-- A claim is won (R66, R72). -/
def winClaim (a : SlotAddr) (s : State) : State :=
  match requestOf s a with
  | none => s
  | some q =>
    handEnd a true ((s.modSlots (fun u => { u with won := bump u.won })).modSlot a (fun r =>
      { r with state := .mine, claim := 0, assign := .spare q.tx, handed := q.phase == .ended }))

/-! ### Seizure and loss of a MINE slot (R63, R71, R74) -/

/-- A MINE slot is gone: a handed one is handed to the transmit engine, another leaves the won list of its request. -/
def mineLost (a : SlotAddr) (old : SlotRec) (newOwner : Option StationId) (s : State) : State :=
  if old.handed then
    match old.assign with
    | .member t _ => memberLost t a newOwner s
    | .spare _ => s
    | .none => s
  else s.modSlots (fun u => { u with queue := u.queue.map (fun q => { q with won := q.won.erase a }) })

/-- A seizure (R74) by the station whose ID is the owner field as read, 63 and 0 too (log entry 58). -/
def seize (a : SlotAddr) (x : StationId) (s : State) : State :=
  let old := slotAt s a
  let s1 := mineLost a old (some x)
    ((s.modSlots (fun u => { u with seizures := bump u.seizures })).modSlot a (SlotRec.giveTo x))
  lookIf (!old.handed) s1

/-! ### Learning from arrivals (R64, R75) -/

/-- A free arrival (R64). -/
def SlotRec.seenFree (r : SlotRec) : SlotRec :=
  let r := { r with ownRun := 0 }
  let q := min 2 (r.quiet + 1)
  match r.state with
  | .unseen => if q = 2 then { r with state := .free, quiet := q } else { r with quiet := q }
  | .theirs => if q = 2 then { r with state := .free, owner := none, quiet := q } else { r with quiet := q }
  | .barred => if q = 2 then { r with owner := none, quiet := q } else { r with quiet := q }
  | .free => r
  | .mine => r
  | .claiming => r

/-- A header fault (R64): the header error count rises, unless the outcome of this header has already raised it. -/
def SlotRec.seenFault (counted : Bool) (r : SlotRec) : SlotRec :=
  let r := { r with ownRun := 0, headerErrors := if counted then r.headerErrors else bump r.headerErrors }
  match r.state with
  | .unseen => { r with quiet := 0 }
  | .theirs => { r with quiet := 0 }
  | .barred => { r with quiet := 0 }
  | .free => r
  | .mine => r
  | .claiming => r

/-- A valid header of another station on a record that is neither CLAIMING nor MINE (R64). -/
def SlotRec.seenOwner (x : StationId) (r : SlotRec) : SlotRec :=
  let r := { r with ownRun := 0 }
  match r.state with
  | .barred => { r with owner := some x, quiet := 0 }
  | .unseen => r.giveTo x
  | .free => r.giveTo x
  | .theirs => r.giveTo x
  | .mine => r
  | .claiming => r

/-- A header under this station's ID that it did not send (R75): an own-ID run of 2 is an ID clash. -/
def ownHeader (a : SlotAddr) (s : State) : State :=
  if (slotAt s a).ownRun = 0 then s.modSlot a (fun r => { r with ownRun := 1 }) else idClash (.slot a) s

/-- A valid header of another station (R64): the roster's refresh, then the record. An owner ID of 0 is taken as read
(log entry 58). -/
def foreignHeader (a : SlotAddr) (drivenNow : Bool) (x : StationId) (s : State) : State :=
  let s1 := (refresh x .header s).modSlot a (fun r => { r with ownRun := 0 })
  match (slotAt s1 a).state with
  | .claiming => if drivenNow then s1 else lookIf (claimInService s1 a) (loseClaim a x s1)
  | .mine => if drivenNow then s1 else seize a x s1
  | .unseen => s1.modSlot a (SlotRec.seenOwner x)
  | .free => s1.modSlot a (SlotRec.seenOwner x)
  | .theirs => s1.modSlot a (SlotRec.seenOwner x)
  | .barred => s1.modSlot a (SlotRec.seenOwner x)

/-- The slot unit takes a slot arrival (R64, R75). That of a header this station itself drove in the cycle leaves the
own-ID run as its outcome left it (log entry 82). -/
def learn (a : SlotAddr) (c : CycleNo) (h : HeaderRead) (s : State) : State :=
  let d := (slotAt s a).driven
  let drivenNow := d.any (fun x => sameCycle s (laneOf a) x.cycle c)
  let counted := d.any (fun x => sameCycle s (laneOf a) x.cycle c && x.counted)
  let s0 := s.modSlot a (fun r => { r with driven := none, began := [], stopped := false, underWay := [] })
  match h with
  | .free => s0.modSlot a SlotRec.seenFree
  | .fault => s0.modSlot a (SlotRec.seenFault counted)
  | .valid hd =>
    if hd.owner = ownId s then (if drivenNow then s0 else ownHeader a s0) else foreignHeader a drivenNow hd.owner s0

/-! ### The outcome of a header (R66, R74, R75) -/

/-- The 40 bits of the header this station sent in a slot of a cycle (R73, R100). -/
def sentHeader (s : State) (a : SlotAddr) (c : CycleNo) : BitVec 40 :=
  encodeHeader ((slotSupplied s a c).getD (spareSlot s a)).header

/-- A LOST AFTER FIELD outcome is taken by the ID clash rule where the header as read has a correct check; else it is
a corruption on the lane (R75). -/
def lostAfterHeader (a : SlotAddr) (checkOk : Bool) (s : State) : State :=
  if checkOk then ownHeader a s
  else s.modSlot a (fun r => { r with
    ownRun := 0
    headerErrors := bump r.headerErrors
    driven := r.driven.map (fun d => { d with counted := true }) })

/-- An outcome other than LOST AFTER FIELD clears the own-ID run (R75). -/
def clearOwnRun (a : SlotAddr) (s : State) : State := s.modSlot a (fun r => { r with ownRun := 0 })

/-- The outcome of a claim cycle (R66). -/
def claimOutcome (a : SlotAddr) (o : SendOutcome) (read : StationId) (s : State) : State :=
  let looks := claimInService s a
  match o with
  | .won =>
    if (slotAt s a).claim < 2 then (clearOwnRun a s).modSlot a (fun r => { r with claim := r.claim + 1 })
    else lookIf looks (winClaim a (clearOwnRun a s))
  | .lostIn => lookIf looks (loseClaim a read (clearOwnRun a s))
  | .lostAfter ok => lostAfterHeader a ok (lookIf looks (abandonClaim a SlotRec.barred s))
  | .lostBefore => lookIf looks (abandonClaim a SlotRec.barred (clearOwnRun a s))
  | .abandoned => lookIf looks (abandonClaim a SlotRec.barred (clearOwnRun a s))

/-- The outcome of a header driven for a MINE record (R74). -/
def mineOutcome (a : SlotAddr) (o : SendOutcome) (read : StationId) (s : State) : State :=
  match o with
  | .won => clearOwnRun a s
  | .lostIn => seize a read (clearOwnRun a s)
  | .lostAfter ok => lostAfterHeader a ok s
  | .lostBefore => clearOwnRun a s
  | .abandoned => clearOwnRun a s

/-- The outcome of a header whose slot was released while it was driven (R65): only the ID clash rule takes it (R75). -/
def releasedOutcome (a : SlotAddr) (o : SendOutcome) (s : State) : State :=
  match o with
  | .lostAfter ok => lostAfterHeader a ok s
  | .won => clearOwnRun a s
  | .lostIn => clearOwnRun a s
  | .lostBefore => clearOwnRun a s
  | .abandoned => clearOwnRun a s

/-- The outcome of a slot header (R7, R8): ABANDONED where the conditions of R8 no longer hold for its cycle, since it
was then cut off where it stood or never driven (log entry 62). -/
def slotOutcome (s : State) (a : SlotAddr) (c : CycleNo) (result : ReadBack 40) : SendOutcome :=
  if drives s (laneOf a) c then headerOutcomeOf (sentHeader s a c) result else .abandoned

/-- The mark that this station drove a slot's header in a cycle, with whether it was WON; none is made in a cycle whose
expected mark position found the conditions of R8 failing. -/
def markDriven (a : SlotAddr) (c : CycleNo) (o : SendOutcome) (s : State) : State :=
  if failedR8 s (laneOf a) c then s
  else s.modSlot a (fun r => { r with driven := some { cycle := c, won := o == .won, counted := false } })

/-- The number c is one a header on lane l can have begun with: that of the lane's present cycle, or the one it had
before an adoption (R5, R26). -/
def beganAs (s : State) (l : LaneNo) (c : CycleNo) : Bool := ofLane s l c || (laneAt s l).former == some c

/-- The lane unit hands the outcome of a slot header (R66, R74). Of a slot released while it was driven, only the ID
clash rule takes it (R65, R75), and of a withdrawn claim nothing does (R67); it is discarded for every other record. -/
def headerOutcome (a : SlotAddr) (c : CycleNo) (result : ReadBack 40) (s : State) : State :=
  let o := slotOutcome s a c result
  let read : StationId := field (ReadBack.word result) 0 6
  let s0 := markDriven a c o s
  match (slotAt s a).state with
  | .claiming => claimOutcome a o read s0
  | .mine => mineOutcome a o read s0
  | .unseen => s
  | .free => s
  | .theirs => s
  | .barred => if (slotAt s a).stopped then s0 else releasedOutcome a o s0

/-- SLOT_HEADER_OUTCOME (R66). -/
def execSlotHeaderOutcome (a : SlotAddr) (c : CycleNo) (result : ReadBack 40) (s : State) :
    Host.Outcome State Fault Refusal :=
  run (fun s => if running s ∧ beganAs s (laneOf a) c then headerOutcome a c result s else s) s

/-- CLAIM_CYCLE_NOT_DRIVEN (R66): the conditions of R8 failed for a claim's cycle. -/
def execClaimCycleNotDriven (a : SlotAddr) (c : CycleNo) (s : State) : Host.Outcome State Fault Refusal :=
  run (fun s =>
    if running s ∧ (slotAt s a).state = .claiming ∧ ofLane s (laneOf a) c ∧ drives s (laneOf a) c = false then
      lookIf (claimInService s a) (abandonClaim a SlotRec.barred s)
    else s) s

/-! ### The bar and the waits -/

/-- A BARRED record is judged again (R65); of one that becomes FREE the quiet count stays (log entry 86). -/
def SlotRec.judgeBar (r : SlotRec) : SlotRec :=
  match r.owner with
  | none => { r with state := .free }
  | some _ => { r with state := .theirs }

/-- BAR_COUNTDOWN_EXPIRY (R65), after the look of the same flywheel cycle start (log entry 87). -/
def execBarCountdownExpiry (a : SlotAddr) (s : State) : Host.Outcome State Fault Refusal :=
  run (fun s =>
    if running s ∧ (slotAt s a).state = .barred ∧ (slotAt s a).bar = 0 then s.modSlot a SlotRec.judgeBar else s) s

/-- CLAIM_WAIT_EXPIRY (R71): the request in service ends, and the next enters. -/
def execClaimWaitExpiry (s : State) : Host.Outcome State Fault Refusal :=
  run (fun s =>
    if running s ∧ (inService s).any (fun q => q.wait == some 0) then look (endService s) else s) s

/-! ### The lock state of a lane (R63) -/

/-- A lane enters LOCKED (R63): its UNSEEN records are learned afresh. -/
def slotsLocked (l : LaneNo) (s : State) : State :=
  (laneSlots l).foldl (fun x a => x.modSlot a (fun r =>
    if r.state = .unseen then { r with quiet := 0, ownRun := 0 } else r)) s

/-- One record of a lane that leaves LOCKED for COAST (R63). A MINE record keeps its own-ID run (log entry 78). -/
def slotCoasts (a : SlotAddr) (s : State) : State :=
  match (slotAt s a).state with
  | .claiming => abandonClaim a SlotRec.unsee s
  | .mine => s.modSlot a (fun r => { r with driven := none, began := [], underWay := [] })
  | .unseen => s.modSlot a SlotRec.unsee
  | .free => s.modSlot a SlotRec.unsee
  | .theirs => s.modSlot a SlotRec.unsee
  | .barred => s.modSlot a SlotRec.unsee

/-- One record of a lane that has lost its place (R63). -/
def slotLost (a : SlotAddr) (s : State) : State :=
  match (slotAt s a).state with
  | .claiming => abandonClaim a SlotRec.unsee s
  | .mine =>
    mineLost a (slotAt s a) none
      ((s.modSlots (fun u => { u with laneLosses := bump u.laneLosses })).modSlot a SlotRec.unsee)
  | .unseen => s.modSlot a SlotRec.unsee
  | .free => s.modSlot a SlotRec.unsee
  | .theirs => s.modSlot a SlotRec.unsee
  | .barred => s.modSlot a SlotRec.unsee

/-- A slot of the request in service lies on a lane, among its running claims or its won slots. -/
def serviceOn (s : State) (l : LaneNo) : Bool :=
  (inService s).any (fun q => (q.running ++ q.won).any (fun a => laneOf a == l))

/-- A lane leaves LOCKED for COAST (R63): its records, then one look (log entry 12). -/
def slotsCoast (l : LaneNo) (s : State) : State :=
  lookIf (serviceOn s l) ((laneSlots l).foldl (fun x a => slotCoasts a x) s)

/-- A lane has lost its place (R63): its records, then one look (log entry 12). -/
def slotsLost (l : LaneNo) (s : State) : State :=
  lookIf (serviceOn s l) ((laneSlots l).foldl (fun x a => slotLost a x) s)

end Sys2Proof.Machine
end

