-- ==== Sys2Proof/Machine/Transmit.lean ====
section
/-! DEFINITION. The transmit engine (chapter 6): opening, resizing, tallies, member repair, closing and teardown. -/

namespace Sys2Proof.Machine

/-! ### The return to VACANT (R98) -/

/-- What a return does before the record's fields take their reset values (R98). -/
def vacateOwned (t : RecIx) (s : State) : State :=
  let s1 := withdrawClaims t s
  flushTx t (abandonParcel t (releaseMembers (txAt s1 t).members s1))

/-- The record returns to VACANT (R98), keeping its tag and counters (R77). -/
def returnVacant (t : RecIx) (s : State) : State :=
  (vacateOwned t s).modTx t (fun r => r.clear r.tag)

/-- TRUNK_GONE of a transmit record (R104). -/
def txGone (t : RecIx) (tag : Tag) (sink : Option StationId) (reason : GoneReason) (s : State) : State :=
  report (.trunkGone .transmit t tag (sink.getD nobody) reason) s

/-! ### Closing (R95 to R97) -/

/-- Step 1 of a close (R95): the pending change is aborted. Every claim request of the record is withdrawn, an ENDED one
of an earlier GROW too where the change is a SHRINK or a DROP (log entry 57). -/
def abortChange (t : RecIx) (s : State) : State :=
  match (txAt s t).change with
  | none => s
  | some c =>
    if c.kind = .closeAbort then s
    else
      let s1 := dropMembers t (fun m => m.role == .probe || m.role == .leaving) (withdrawClaims t s)
      setChange t none (answerTx t .aborted c.resultCount 0 s1)

/-- An OFFERING record's OPEN is answered ABORTED (R95, R97). -/
def abortOffer (t : RecIx) (s : State) : State :=
  if (txAt s t).state = .offering then answerTx t .aborted 0 0 s else s

/-- Step 3 of a close (R95, R131): every member holds, as one layout edit, and the encoder abandons its parcel. -/
def holdAll (t : RecIx) (s : State) : State :=
  let ms := (txAt s t).members
  abandonParcel t (if ms.isEmpty then s else editMembers t (ms.map (fun m => { m with role := .leaving })) s)

/-- The change record of a close (R95). -/
def closeChange (cmd : Option Byte) (reason : GoneReason) : Change where
  kind := .closeAbort
  arg := 0
  phase := .confirm
  deadline := some Config.closeWait
  cmd := cmd
  late := 0
  added := 0
  reason := some reason

/-- A close begins (R95). -/
def closeTrunk (t : RecIx) (cmd : Option Byte) (reason : GoneReason) (s : State) : State :=
  let s1 := holdAll t (abortOffer t (abortChange t s))
  let s2 := postNotice (.tx t) ((txAt s1 t).sink.getD nobody) (.close (txAt s1 t).tag) s1
  s2.modTx t (fun r => { r with state := .closing, change := some (closeChange cmd reason) })

/-- A close ends (R96): the CLOSE entry is withdrawn if still queued, the record returns to VACANT, the CLOSE command is
answered, and TRUNK_GONE follows. -/
def endClose (t : RecIx) (s : State) : State :=
  let r := txAt s t
  match r.change with
  | none => s
  | some c =>
    let s1 := returnVacant t (withdraw (.tx t) s)
    let s2 := if c.cmd.isSome then answerTx t .done 0 0 s1 else s1
    txGone t r.tag r.sink (c.reason.getD .closed) s2

/-- A teardown without a CLOSE notice (R97). -/
def teardown (t : RecIx) (reason : GoneReason) (s : State) : State :=
  let r := txAt s t
  txGone t r.tag r.sink reason (returnVacant t (withdraw (.tx t) (abortOffer t (abortChange t s))))

/-- A DISMISS or an absence ends a record (R96, R97). -/
def txEnd (t : RecIx) (reason : GoneReason) (s : State) : State :=
  match (txAt s t).state with
  | .vacant => s
  | .offering => teardown t reason s
  | .opened => teardown t reason s
  | .closing => endClose t s

/-- The notice unit hands the transmit engine an absence (R97): the records to that sink, in index order. -/
def txAbsence (id : StationId) (s : State) : State :=
  allRecs.foldl (fun x t => if (txAt x t).sink = some id then txEnd t .peerAbsent x else x) s

/-! ### Opening (R79 to R81, R84) -/

/-- The GROW of a count begins (R84). -/
def startGrow (t : RecIx) (k : Nat) (cmd : Option Byte) (s : State) : State :=
  postClaim t k (setChange t (some { kind := .grow, arg := k, phase := .claim, deadline := none, cmd := cmd, late := 0,
                                     added := 0, reason := none }) s)

/-- The sink has accepted (R81); the offer attempt and the initial width stay (log entry 86). -/
def acceptTrunk (t : RecIx) (s : State) : State :=
  let s1 := (withdraw (.tx t) s).modTx t (fun r => { r with
    state := .opened, epoch := 0, due := false, lastEcho := some 0, offerWait := none
    lastTally := some { age := 0, info := none } })
  let r := txAt s1 t
  if r.initWidth = 0 then answerTx t .done 0 0 s1 else startGrow t r.initWidth r.openCmd s1

/-- The code of a decline reason (12.1, 12.3). -/
def DeclineReason.code : DeclineReason → Byte
  | .notListed => 1
  | .noRoom => 2

/-- The sink has declined (R81). -/
def declineTrunk (t : RecIx) (reason : DeclineReason) (s : State) : State :=
  returnVacant t (answerTx t .declined 0 reason.code (withdraw (.tx t) s))

/-- OFFER_WAIT has ended (R80). -/
def offerExpired (t : RecIx) (s : State) : State :=
  let r := txAt s t
  if r.attempt < 3 then
    postNotice (.tx t) (r.sink.getD nobody) (.offer r.tag (BitVec.ofNat 4 (r.attempt + 1)))
      (s.modTx t (fun r => { r with attempt := r.attempt + 1, offerWait := none }))
  else returnVacant t (answerTx t .noAnswer 0 0 s)

/-! ### The switch and the end of a change (R86, R87, R89) -/

/-- A probing member is shown good (R86). -/
def probeGood (good : BitVec 16) (p : Member × Nat) : Bool := p.1.role == .probe && goodAt good p.2

/-- The members after a switch (R86): good probing members become DATA, with no deadline and no restore count left (log
entry 77), the others leave. -/
def switched (good : BitVec 16) (ms : List Member) : List Member :=
  (ms.zipIdx.filter (fun p => p.1.role != .probe || goodAt good p.2)).map (fun p =>
    if p.1.role = .probe then { p.1 with role := .data, restore := 0, deadline := 0 } else p.1)

/-- The switch of a GROW (R86). The change has no deadline in SWITCH-WAIT (log entry 64). -/
def switchGrow (t : RecIx) (good : BitVec 16) (s : State) : State :=
  let ms := (txAt s t).members
  let added := ms.zipIdx.countP (probeGood good)
  let bad := (ms.zipIdx.filter (fun p => p.1.role == .probe && !goodAt good p.2)).map (fun p => p.1)
  let s1 := editMembers t (switched good ms) (releaseMembers bad s)
  confirmIfEmpty t (s1.modTx t (fun r => { r with change := r.change.map (fun c =>
    { c with phase := .switchWait, deadline := none, added := added }) }))

/-- A full tally (R86): every probing member is shown good, and there is one: with none, late claims being outstanding,
a tally does not switch (log entry 63). -/
def fullTally (good : BitVec 16) (r : TxRec) : Bool :=
  !(probing r).isEmpty && r.members.zipIdx.all (fun p => p.1.role != .probe || goodAt good p.2)

/-- A change in CONFIRM ends (R87, R89): the LEAVING members are released and leave the list. -/
def finishChange (t : RecIx) (outcome : CmdOutcome) (s : State) : State :=
  endChange t outcome (dropMembers t (fun m => m.role == .leaving) s)

/-- The outcome of a confirmed change (R87, R89). -/
def Change.confirmed (c : Change) : CmdOutcome :=
  if c.kind = .grow ∧ c.added ≠ c.arg then .partially else .done

/-- A GROW's probe deadline has ended (R86): the members the last tally showed good are switched in, or the GROW ends
PROBE_FAILED. -/
def probeExpired (t : RecIx) (s : State) : State :=
  let r := txAt s t
  let good : BitVec 16 := match r.lastTally with
    | some { info := some i, .. } => if i.echo = r.epoch then i.good else 0
    | some { info := none, .. } => 0
    | none => 0
  if r.members.zipIdx.any (probeGood good) then switchGrow t good s
  else endChange t .probeFailed (dropMembers t (fun m => m.role == .probe) s)

/-! ### Tallies (R90 to R92) -/

/-- Liveness (R90, step 2). -/
def tallyHeard (t : RecIx) (b : TallyBody) (s : State) : State :=
  let r := txAt s t
  let s1 := s.modTx t (fun r => { r with
    lastEcho := some b.echo
    silent := false
    lastTally := some { age := 0, info := some { echo := b.echo, good := b.good, skew := b.skew,
                                                 delinLocked := b.delinLocked, width := b.width } } })
  if r.silent then report (.sinkHeard t (r.sink.getD nobody)) s1 else s1

/-- The change (R90, step 3). -/
def tallyChange (t : RecIx) (b : TallyBody) (s : State) : State :=
  let r := txAt s t
  match r.change with
  | none => s
  | some c =>
    if r.epoch ≠ b.echo then s
    else
      match c.phase with
      | .confirm => finishChange t c.confirmed s
      | .probe => if fullTally b.good r then switchGrow t b.good s else s
      | .claim => s
      | .switchWait => s

/-- What a tally echoing the epoch makes of one member (R91, R92), with restores deferred or not. -/
def judgeMember (deferred : Bool) (good : Bool) (m : Member) : Member :=
  match m.role with
  | .data => if good then m else { m with role := .shunned, restore := 0 }
  | .shunned =>
    if good then
      let n := min 3 (m.restore + 1)
      if n = 3 && !deferred then m.restored else { m with restore := n }
    else { m with restore := 0 }
  | .probe => m
  | .leaving => m

/-- The report a judged member gives rise to (R91, R92, R104). -/
def memberReport (t : RecIx) (e : Epoch) (seq : Nat) (old new : Member) : Option Report :=
  if old.role = .data ∧ new.role = .shunned then some (.memberFault t old.slot seq e)
  else if old.role = .shunned ∧ new.role = .data then some (.memberRestored t old.slot seq e)
  else none

/-- Health (R90, step 4; R91, R92): the members shunned and restored make one edit, reported in sequence order. -/
def tallyHealth (t : RecIx) (good : BitVec 16) (s : State) : State :=
  let r := txAt s t
  let judged := r.members.zipIdx.map (fun p => judgeMember r.deferring (goodAt good p.2) p.1)
  let pairs := r.members.zip judged
  let shuns := pairs.countP (fun p => p.1.role == .data && p.2.role == .shunned)
  let restores := pairs.countP (fun p => p.1.role == .shunned && p.2.role == .data)
  let s1 := if shuns + restores = 0 then setMembers t judged s else editMembers t judged s
  let s2 := s1.modTx t (fun r => { r with shuns := bumpBy r.shuns shuns, restores := bumpBy r.restores restores })
  (pairs.zipIdx.filterMap (fun p => memberReport t (txAt s2 t).epoch p.2 p.1.1 p.1.2)).foldl
    (fun x rep => report rep x) s2

/-- A matched TALLY (R90): at a CLOSING record it is heard too, SINK_HEARD included (R93, log entry 59). -/
def takeTally (t : RecIx) (b : TallyBody) (s : State) : State :=
  let s1 := if (txAt s t).state = .offering then acceptTrunk t s else s
  let s2 := tallyHeard t b s1
  if (txAt s2 t).state = .opened then
    let s3 := tallyChange t b s2
    if (txAt s3 t).epoch = b.echo then tallyHealth t b.good s3 else s3
  else s2

/-! ### Notices (R81, R90, R96, R97) -/

/-- A notice dispatched to the transmit engine (R56). -/
def txNotice (sender : StationId) (b : NoticeBody) (s : State) : State :=
  match b.tag?.bind (txMatch s sender) with
  | none => s
  | some t =>
    match b with
    | .accept _ => if (txAt s t).state = .offering then acceptTrunk t s else s
    | .decline _ reason => if (txAt s t).state = .offering then declineTrunk t reason s else s
    | .tally body => takeTally t body s
    | .dismiss _ _ => txEnd t .dismissed s
    | .close _ => s
    | .offer _ _ => s
    | .presence _ => s

/-- The notice unit tells the transmit engine that its notice was sent (R53, R80, R96). -/
def txSent (t : RecIx) (b : NoticeBody) (s : State) : State :=
  match b, (txAt s t).state with
  | .offer _ _, .offering => s.modTx t (fun r => { r with offerWait := some Config.offerWait })
  | .close _, .closing => endClose t s
  | _, _ => s

/-! ### Timers -/

/-- A live cycle in a transmit record (R77, R93): its waits and deadlines fall, and the last tally's age rises. -/
def TxRec.liveTick (r : TxRec) : TxRec :=
  { r with
    offerWait := r.offerWait.map (fun n => n - 1)
    change := r.change.map (fun c => { c with deadline := c.deadline.map (fun n => n - 1) })
    members := r.members.map (fun m => { m with deadline := m.deadline - 1 })
    lastTally := if r.state = .opened then r.lastTally.map (fun x => { x with age := min Config.sinkLoss (x.age + 1) })
                 else r.lastTally }

/-- The last tally of an OPEN record has reached an age (R93). -/
def tallyAged (r : TxRec) (age : Nat) : Bool := r.state == .opened && r.lastTally.any (fun x => decide (age ≤ x.age))

/-- The pending change of a record stands in a phase with its deadline ended. -/
def changeExpired (r : TxRec) (p : ChangePhase) : Bool :=
  r.change.any (fun c => c.phase == p && c.deadline == some 0 && c.kind != .closeAbort)

/-- OFFER_WAIT_EXPIRY (R80). -/
def execOfferWaitExpiry (t : RecIx) (s : State) : Host.Outcome State Fault Refusal :=
  run (fun s =>
    if running s ∧ (txAt s t).state = .offering ∧ (txAt s t).offerWait = some 0 then offerExpired t s else s) s

/-- PROBE_WAIT_EXPIRY (R86). -/
def execProbeWaitExpiry (t : RecIx) (s : State) : Host.Outcome State Fault Refusal :=
  run (fun s => if running s ∧ changeExpired (txAt s t) .probe then probeExpired t s else s) s

/-- CONFIRM_WAIT_EXPIRY (R87, R89). -/
def execConfirmWaitExpiry (t : RecIx) (s : State) : Host.Outcome State Fault Refusal :=
  run (fun s => if running s ∧ changeExpired (txAt s t) .confirm then finishChange t .unconfirmed s else s) s

/-- CLOSE_WAIT_EXPIRY (R96). -/
def execCloseWaitExpiry (t : RecIx) (s : State) : Host.Outcome State Fault Refusal :=
  run (fun s =>
    if running s ∧ (txAt s t).state = .closing ∧ (txAt s t).change.any (fun c => c.deadline == some 0) then
      endClose t s
    else s) s

/-- The sink is silent (R93). -/
def sinkSilenced (t : RecIx) (s : State) : State :=
  let r := txAt s t
  let age := match r.lastTally with
    | some x => x.age
    | none => 0
  report (.sinkSilent t (r.sink.getD nobody) age) (s.modTx t (fun r => { r with silent := true }))

/-- SINK_SILENCE_EXPIRY (R93). -/
def execSinkSilenceExpiry (t : RecIx) (s : State) : Host.Outcome State Fault Refusal :=
  run (fun s =>
    if running s ∧ (txAt s t).silent = false ∧ tallyAged (txAt s t) (8 * (cfg s).tallyPeriod) then sinkSilenced t s
    else s) s

/-- SINK_LOSS_EXPIRY (R93). -/
def execSinkLossExpiry (t : RecIx) (s : State) : Host.Outcome State Fault Refusal :=
  run (fun s =>
    if running s ∧ tallyAged (txAt s t) Config.sinkLoss then closeTrunk t none .sinkLost s else s) s

/-! ### Commands (R79, R83, R88, R95) -/

/-- A response without result fields (12.3). -/
def plainResponse (code tag : Byte) (outcome : CmdOutcome) : Response where
  code := code
  tag := tag
  outcome := outcome
  result := []

/-- The sink of an OPEN is a station other than this one, and its initial width at most 16 (R79). -/
def openArgsOk (s : State) (sink width : Byte) : Bool :=
  inRange sink.toNat 1 62 && sink != (ownId s).setWidth 8 && decide (width.toNat ≤ 16)

/-- A station's roster entry is PRESENT (R57). -/
def present (s : State) (id : StationId) : Bool :=
  match rosterIx id with
  | some i => (vget s.roster i).present
  | none => false

/-- The lowest-numbered VACANT transmit record (R79). -/
def vacantTx (s : State) : Option RecIx := allRecs.find? (fun t => (txAt s t).state == .vacant)

/-- A VACANT record is taken by an OPEN (R78, R79). -/
def TxRec.opening (sink : StationId) (width : Nat) (cmd : Byte) (r : TxRec) : TxRec :=
  { r with state := .offering, tag := r.tag ^^^ 8, sink := some sink, openCmd := some cmd, initWidth := width,
           epoch := 0, attempt := 1, offerWait := none }

/-- The OPEN command (R79). -/
def cmdOpen (cmd sink width : Byte) (s : State) : State :=
  let id : StationId := sink.setWidth 6
  if !openArgsOk s sink width then respond (plainResponse 1 cmd .badArg) s
  else if !present s id then respond (plainResponse 1 cmd .notPresent) s
  else
    match vacantTx s with
    | none => respond (plainResponse 1 cmd .noRecord) s
    | some t =>
      let s1 := s.modTx t (TxRec.opening id width.toNat cmd)
      putInFlight { code := 1, tag := cmd, record := .tx t } (postNotice (.tx t) id (.offer (txAt s1 t).tag 1) s1)

/-- The tests of a voluntary change but its argument (R83): the record it concerns, or the refusal. -/
def voluntary (s : State) (ix : Byte) : Except CmdOutcome RecIx :=
  match recOf ix.toNat with
  | none => .error .badArg
  | some t =>
    let r := txAt s t
    if r.state ≠ .opened then .error .notOpen
    else if r.change.isSome then .error .busy
    else if r.silent then .error .sinkSilent
    else if r.lastEcho ≠ some r.epoch then .error .busy
    else .ok t

/-- The GROW command (R83, R84). -/
def cmdGrow (cmd ix k : Byte) (s : State) : State :=
  match voluntary s ix with
  | .error o => respond (plainResponse 2 cmd o) s
  | .ok t =>
    if !inRange k.toNat 1 (16 - (txAt s t).members.length) then respond (plainResponse 2 cmd .badArg) s
    else startGrow t k.toNat (some cmd) (putInFlight { code := 2, tag := cmd, record := .tx t } s)

/-- The sequences of a record's members in a role, highest first. -/
def seqsOf (ms : List Member) (role : MemberRole) : List Nat :=
  (((ms.zipIdx.filter (fun p => p.1.role == role)).map (fun p => p.2))).reverse

/-- The members a SHRINK selects (R88): SHUNNED ones, then DATA ones, each from the highest sequence down. -/
def shrinkSelect (ms : List Member) (k : Nat) : List Nat := (seqsOf ms .shunned ++ seqsOf ms .data).take k

/-- The members after a marking (R88): those selected become LEAVING and take the sequences above the others. -/
def marked (sel : List Nat) (ms : List Member) : List Member :=
  (ms.zipIdx.filter (fun p => !sel.contains p.2)).map (fun p => p.1) ++
    (ms.zipIdx.filter (fun p => sel.contains p.2)).map (fun p => { p.1 with role := .leaving })

/-- The marking of a SHRINK or DROP (R88). -/
def markLeaving (t : RecIx) (kind : ChangeKind) (arg : Nat) (cmd : Byte) (sel : List Nat) (s : State) : State :=
  let s1 := setChange t (some { kind := kind, arg := arg, phase := .switchWait, deadline := none, cmd := some cmd,
                                late := 0, added := 0, reason := none }) s
  confirmIfEmpty t (editMembers t (marked sel (txAt s1 t).members) s1)

/-- The SHRINK command (R83, R88). -/
def cmdShrink (cmd ix k : Byte) (s : State) : State :=
  match voluntary s ix with
  | .error o => respond (plainResponse 3 cmd o) s
  | .ok t =>
    let ms := (txAt s t).members
    if !inRange k.toNat 1 ms.length then respond (plainResponse 3 cmd .badArg) s
    else markLeaving t .shrink k.toNat cmd (shrinkSelect ms k.toNat)
      (putInFlight { code := 3, tag := cmd, record := .tx t } s)

/-- The DROP command (R83, R88). -/
def cmdDrop (cmd ix seq : Byte) (s : State) : State :=
  match voluntary s ix with
  | .error o => respond (plainResponse 4 cmd o) s
  | .ok t =>
    if (txAt s t).members.length ≤ seq.toNat then respond (plainResponse 4 cmd .badArg) s
    else markLeaving t .drop seq.toNat cmd [seq.toNat] (putInFlight { code := 4, tag := cmd, record := .tx t } s)

/-- The CLOSE command (R95). -/
def cmdClose (cmd ix : Byte) (s : State) : State :=
  match recOf ix.toNat with
  | none => respond (plainResponse 5 cmd .badArg) s
  | some t =>
    match (txAt s t).state with
    | .vacant => respond (plainResponse 5 cmd .notOpen) s
    | .closing => respond (plainResponse 5 cmd .busy) s
    | .offering => putInFlight { code := 5, tag := cmd, record := .tx t } (closeTrunk t (some cmd) .closed s)
    | .opened => putInFlight { code := 5, tag := cmd, record := .tx t } (closeTrunk t (some cmd) .closed s)

end Sys2Proof.Machine
end

