-- ==== Sys2Proof/Machine/Receive.lean ====
section
/-! DEFINITION. The receive engine (chapter 7): offers, alignment and completion of cycles, member health, tallies,
strays, realignment and draining; and the slot arrival it shares with the slot unit (R15). -/

namespace Sys2Proof.Machine

/-! ### Notices of a record (R108, R119, R120) -/

/-- The kind of notice a receive-record entry holds (R108). -/
def rxEntryKind (s : State) (r : RecIx) : Option (BitVec 4) := (queued s (.rx r)).map (fun e => e.body.kind)

/-- Post an ACCEPT (R108): not over a TALLY or a DISMISS. -/
def postAccept (r : RecIx) (s : State) : State :=
  let e := rxAt s r
  let body : NoticeBody := .accept (e.tag.getD 0)
  match rxEntryKind s r with
  | none => postNotice (.rx r) (e.source.getD nobody) body s
  | some k => if k = body.kind then postNotice (.rx r) (e.source.getD nobody) body s else s

/-- A sequence is good (R120): an entry with it as last sequence is not BAD. -/
def seqGood (v : List ViewEntry) (seq : Nat) : Bool := v.any (fun e => e.seq.toNat == seq && e.health != .bad)

/-- The good map (R120): the most significant bit is sequence 0. -/
def goodMap (v : List ViewEntry) : BitVec 16 :=
  (List.range 16).foldl (fun m i => if seqGood v i then m ||| (0x8000#16 >>> i) else m) 0

/-- The body of a TALLY (R120). -/
def tallyBody (s : State) (r : RecIx) : TallyBody where
  tag := (rxAt s r).tag.getD 0
  echo := (rxAt s r).epochSeen
  good := goodMap (rxAt s r).view
  skew := decide (skewSlots s < (rxAt s r).skew)
  delinLocked := (rxAt s r).delin.state == .locked
  width := (rxAt s r).widthSeen

/-- Post a TALLY (R108, R119): not over a DISMISS. -/
def postTally (r : RecIx) (s : State) : State :=
  let body : NoticeBody := .tally (tallyBody s r)
  if rxEntryKind s r = some 2#4 then s else postNotice (.rx r) ((rxAt s r).source.getD nobody) body s

/-! ### Draining (R123 to R125) -/

/-- A DRAINING record with an empty receive queue and no dismiss pending becomes VACANT (R125). -/
def testVacant (r : RecIx) (s : State) : State :=
  if (rxAt s r).state = .draining ∧ (rxAt s r).dismiss = none ∧ (vget s.buf.rxQueue r).isEmpty then
    s.modRx r RxRec.clear
  else s

/-- What entry to DRAINING clears (R123); the skew of an empty view is 0 (log entry 45), and the fields R123 does not name
stay (log entry 86). -/
def RxRec.drain (e : RxRec) : RxRec :=
  { e with state := .draining, view := [], skew := 0, align := Vector.replicate 8 none, next := none,
           lanePos := Vector.replicate 4 none, tally := none }

/-- An ACCEPTED record enters DRAINING (R123); a client DISMISS has already replaced its answer. -/
def drain (r : RecIx) (reason : GoneReason) (keepEntry : Bool) (s : State) : State :=
  let e := rxAt s r
  let s1 := if keepEntry then s else withdraw (.rx r) s
  let s2 := (resetDelin r s1).modRx r RxRec.drain
  testVacant r (report (.trunkGone .receive r (e.tag.getD 0) (e.source.getD nobody) reason) s2)

/-- A dismiss pending ends (R124): the DISMISS is answered DONE. -/
def endDismiss (r : RecIx) (s : State) : State :=
  testVacant r ((answerRx r .done s).modRx r (fun e => { e with dismiss := none }))

/-- The notice unit tells the receive engine that its notice was sent (R108, R124). -/
def rxSent (r : RecIx) (b : NoticeBody) (s : State) : State :=
  match b with
  | .dismiss _ _ => if (rxAt s r).dismiss.isSome then endDismiss r s else s
  | _ => s

/-- The notice unit hands the receive engine an absence (R123): its records in index order, then its strays. -/
def rxAbsence (id : StationId) (s : State) : State :=
  let s1 := allRecs.foldl (fun x r =>
    if (rxAt x r).source = some id then
      match (rxAt x r).state with
      | .accepted => drain r .peerAbsent false x
      | .draining => if (rxAt x r).dismiss.isSome then endDismiss r (withdraw (.rx r) x) else x
      | .vacant => x
    else x) s
  { s1 with rx := { s1.rx with strays := s1.rx.strays.filter (fun y => y.owner != id) } }

/-! ### Offers (R107) -/

/-- The record in a state that holds a source and tag. -/
def rxFind (s : State) (st : RxState) (source : StationId) (tag : Tag) : Option RecIx :=
  allRecs.find? (fun r => (rxAt s r).state == st && (rxAt s r).source == some source && (rxAt s r).tag == some tag)

/-- The lowest-numbered VACANT receive record (R107). -/
def vacantRx (s : State) : Option RecIx := allRecs.find? (fun r => (rxAt s r).state == .vacant)

/-- A record is taken by an accepted OFFER (R107). -/
def RxRec.accept (source : StationId) (tag : Tag) (period : Nat) (e : RxRec) : RxRec :=
  { e with state := .accepted, source := some source, tag := some tag, epochSeen := 0, widthSeen := 0,
           tally := some period, aligned := Vector.replicate 4 none, next := none, delin := .reset }

/-- An OFFER is accepted into a record (R107, step 6). -/
def acceptOffer (r : RecIx) (source : StationId) (tag : Tag) (s : State) : State :=
  let s1 := s.modRx r (RxRec.accept source tag (cfg s).tallyPeriod)
  let s2 := report (.trunkArrived r source tag) (postAccept r s1)
  { s2 with rx := { s2.rx with strays := s2.rx.strays.filter (fun y => !(y.owner == source && y.tag == tag)) } }

/-- A DECLINE is requested (R107). -/
def decline (source : StationId) (tag : Tag) (reason : DeclineReason) (s : State) : State :=
  (requestDecline source (.decline tag reason) s).1

/-- An OFFER is handled (R107). -/
def takeOffer (source : StationId) (tag : Tag) (s : State) : State :=
  let s1 := match rxFind s .accepted source (tag ^^^ 8) with
    | some r => drain r .superseded false s
    | none => s
  match rxFind s1 .accepted source tag with
  | some r => postAccept r s1
  | none =>
    if (rxFind s1 .draining source tag).isSome then decline source tag .noRoom s1
    else if !(cfg s1).accept.isEmpty && !(cfg s1).accept.contains source then decline source tag .notListed s1
    else
      match vacantRx s1 with
      | none => decline source tag .noRoom s1
      | some r => acceptOffer r source tag s1

/-- A notice dispatched to the receive engine (R107, R123): OFFER and CLOSE addressed to 63 are ignored. -/
def rxNotice (sender dest : StationId) (b : NoticeBody) (s : State) : State :=
  if dest ≠ ownId s then s
  else
    match b with
    | .offer tag _ => takeOffer sender tag s
    | .close tag =>
      match rxFind s .accepted sender tag with
      | some r => drain r .closed false s
      | none => s
    | _ => s

/-! ### Judging a cycle (R113 to R116) -/

/-- The item of a slot in a cycle's entry (R111). An item of a slot that has left the view is kept, and read again if
the slot returns while its cycle is open (log entry 66). -/
def itemAt (items : List (SlotAddr × Item)) (a : SlotAddr) : Option Item :=
  (items.find? (fun p => p.1 == a)).map (fun p => p.2)

/-- The trunk headers among a cycle's items: sequence, role, epoch, width, payload. -/
def headersOf (items : List (Option Item)) : List (BitVec 4 × HeaderRole × Epoch × BitVec 5 × List Byte) :=
  items.filterMap (fun x =>
    match x with
    | some (.header seq role epoch width payload) => some (seq, role, epoch, width, payload)
    | _ => none)

/-- How a completed cycle is judged (R113); CONSISTENT with its reference and bytes. -/
inductive CycleKind where
  | blank
  | consistent (epoch : Epoch) (width : BitVec 5) (bytes : List Byte)
  | empty
  | faulty
  deriving DecidableEq, Repr

/-- A list holds no value twice. -/
def distinct {α : Type} [BEq α] : List α → Bool
  | [] => true
  | a :: rest => !rest.contains a && distinct rest

/-- The reference of the headers of a cycle, where they are consistent (R113). -/
def reference (hs : List (BitVec 4 × HeaderRole × Epoch × BitVec 5 × List Byte)) : Option (Epoch × BitVec 5) :=
  let data := hs.filter (fun h => h.2.1 == .data)
  match data with
  | d :: _ =>
    let e := d.2.2.1
    let w := d.2.2.2.1
    if data.all (fun h => h.2.2.1 == e && h.2.2.2.1 == w) && data.length == w.toNat &&
        distinct (data.map (fun h => h.1)) then some (e, w) else none
  | [] =>
    match hs with
    | [] => none
    | h :: _ =>
      let e := h.2.2.1
      if hs.all (fun x => x.2.2.1 == e && x.2.2.2.1 == 0) then some (e, 0) else none

/-- The DATA payloads of a cycle in sequence order (R113). -/
def cycleBytes (hs : List (BitVec 4 × HeaderRole × Epoch × BitVec 5 × List Byte)) : List Byte :=
  (List.range 16).flatMap (fun i =>
    (hs.filter (fun h => h.2.1 == .data && h.1.toNat == i)).flatMap (fun h => h.2.2.2.2))

/-- The kind of a completed cycle, from the items of the view's slots (R113). -/
def cycleKind (items : List (Option Item)) : CycleKind :=
  let hs := headersOf items
  if items.all Option.isNone then .blank
  else
    match reference hs with
    | some ref => .consistent ref.1 ref.2 (cycleBytes hs)
    | none => if hs.isEmpty && items.all (fun x => x.isSome && x != some .faulty) then .empty else .faulty

/-- The smallest lag among the lanes that hold entries whose last role is DATA (R115). -/
def smallestDataLag (s : State) (v : List ViewEntry) : Option Int :=
  match lagsOf s ((v.filter (fun e => e.role == .data)).map (fun e => laneOf e.slot)) with
  | [] => none
  | x :: xs => some (xs.foldl min x)

/-- A slot's lane lags too far behind the DATA members (R115, SKEW); none does where no lane of theirs holds a lag (log
entry 88). -/
def tooLate (s : State) (v : List ViewEntry) (a : SlotAddr) : Bool :=
  match smallestDataLag s v, (laneAt s (laneOf a)).lag with
  | some lo, some l => decide ((skewSlots s : Int) < l - lo)
  | _, _ => false

/-- A PROBE payload is the probe pattern for its cycle (R14, R115). -/
def probeOk (e : RxRec) (n : CycleNo) (seq : BitVec 4) (payload : List Byte) : Bool :=
  payload == probePattern n (e.source.getD nobody) (e.tag.getD 0) seq

/-- Why a slot is unclean in a cycle, or none where it is clean (R115). -/
def uncleanReason (s : State) (e : RxRec) (n : CycleNo) (kind : CycleKind) (a : SlotAddr) (item : Option Item) :
    Option UncleanReason :=
  let skewed : Option UncleanReason := if tooLate s e.view a then some .skew else none
  if !isLocked s (laneOf a) then some .lane
  else
    match item with
    | none => some .late
    | some .faulty => some .header
    | some (.foreign owner) => if some owner ≠ e.source then some .owner else some .absent
    | some .free => some .absent
    | some (.header seq role epoch width payload) =>
      let disagrees := match kind with
        | .consistent re rw _ => epoch != re || width != rw
        | .blank => false
        | .empty => false
        | .faulty => false
      if disagrees then some .header
      else if role = .probe ∧ probeOk e n seq payload = false then some .probe
      else skewed

/-- The reasons that make a member BAD at once (R116). -/
def UncleanReason.severe : UncleanReason → Bool
  | .lane => true
  | .owner => true
  | .skew => true
  | .header => false
  | .absent => false
  | .probe => false
  | .late => false

/-- One judgement moves an entry's health (R116). -/
def ViewEntry.judge (verdict : Option UncleanReason) (e : ViewEntry) : ViewEntry :=
  match verdict with
  | none =>
    match e.health with
    | .good => { e with clean := min 8 (e.clean + 1) }
    | .suspect => { e with health := .good, unclean := 0, clean := 1 }
    | .bad =>
      if Config.healCount ≤ e.clean + 1 then { e with health := .good, unclean := 0, clean := Config.healCount }
      else { e with clean := e.clean + 1 }
  | some why =>
    let e := { e with reason := some why, clean := 0 }
    match e.health with
    | .good =>
      if why.severe then { e with health := .bad, unclean := 1 } else { e with health := .suspect, unclean := 1 }
    | .suspect =>
      if why.severe then { e with health := .bad }
      else { e with unclean := e.unclean + 1, health := if 3 ≤ e.unclean + 1 then .bad else .suspect }
    | .bad => if why.severe then e else { e with unclean := min 3 (e.unclean + 1) }

/-- An item is a trunk header. -/
def Item.isHeader : Item → Bool
  | .header _ _ _ _ _ => true
  | _ => false

/-- The absent run of an entry after a cycle (R110). -/
def ViewEntry.countAbsent (item : Option Item) (e : ViewEntry) : ViewEntry :=
  { e with absent := if item.any Item.isHeader then 0 else e.absent + 1 }

/-- The trunk skew is recomputed (R117). -/
def recomputeSkew (r : RecIx) (s : State) : State := s.modRx r (fun e => { e with skew := viewSkew s e.view })

/-- The members of a completed cycle are judged, and those absent for 16 cycles leave the view (R110, R115, R116); the
skew is recomputed where one leaves (R117). -/
def judgeView (r : RecIx) (n : CycleNo) (kind : CycleKind) (items : List (SlotAddr × Item)) (s : State) : State :=
  let e := rxAt s r
  let v := e.view.map (fun x =>
    (x.judge (uncleanReason s e n kind x.slot (itemAt items x.slot))).countAbsent (itemAt items x.slot))
  let s1 := s.modRx r (fun e => { e with view := v.filter (fun x => decide (x.absent < 16)) })
  if v.all (fun x => decide (x.absent < 16)) then s1 else recomputeSkew r s1

/-- Some entry's health changed into or out of BAD (R116, R119). -/
def healthTurned (before after : List ViewEntry) : Bool :=
  before.any (fun x => after.any (fun y => y.slot == x.slot && (x.health == .bad) != (y.health == .bad)))

/-- The effect of a cycle's kind on the stream, the counters and what was last seen (R113, R114). -/
def takeCycle (r : RecIx) (kind : CycleKind) (s : State) : State :=
  let fault := fun (s : State) => (resetDelin r s).modRx r (fun e => { e with faults := bump e.faults })
  match kind with
  | .blank => fault s
  | .faulty => fault s
  | .empty => s
  | .consistent epoch width bytes =>
    let before := (rxAt s r).widthSeen
    let s1 := (delineate r bytes s).modRx r (fun e => { e with
      consistent := bump e.consistent, epochSeen := epoch, widthSeen := width })
    if before = width then s1 else report (.widthChanged r before width epoch) s1

/-- The alignment entry of a cycle, where it holds that cycle (R111). -/
def alignAt (e : RxRec) (n : CycleNo) : List (SlotAddr × Item) :=
  match vget e.align (entryIx n) with
  | some x => if x.cycle = n then x.items else []
  | none => []

/-- After a completion (R110, R112): the entry is emptied and the next cycle follows; with the view empty the record
holds no open cycle. -/
def RxRec.completed (n : CycleNo) (e : RxRec) : RxRec :=
  if e.view.isEmpty then { e with align := Vector.replicate 8 none, next := none }
  else { e with align := vset e.align (entryIx n) none, next := some (nextCycle n) }

/-- The next cycle to complete completes (R112 to R116, R119). -/
def completeNext (r : RecIx) (s : State) : State :=
  match (rxAt s r).next with
  | none => s
  | some n =>
    let e := rxAt s r
    let items := alignAt e n
    let kind := cycleKind (e.view.map (fun x => itemAt items x.slot))
    let s1 := takeCycle r kind s
    let s2 := if kind = .blank then s1 else judgeView r n kind items s1
    let judged := (rxAt s1 r).view.map (fun x =>
      x.judge (uncleanReason s1 (rxAt s1 r) n kind x.slot (itemAt items x.slot)))
    let tally := decide ((rxAt s1 r).epochSeen ≠ e.epochSeen) || (kind != .blank && healthTurned e.view judged)
    let s3 := s2.modRx r (RxRec.completed n)
    if tally then postTally r s3 else s3

/-! ### Arrivals (R109 to R112) -/

/-- The last slot of a lane in the view. -/
def lastSlot (v : List ViewEntry) (l : LaneNo) : Nat :=
  ((v.filter (fun e => laneOf e.slot == l)).map (fun e => (slotIx e.slot).val)).foldl max 0

/-- A lane has passed a slot index of a cycle (R112). -/
def passed (pos : Option (CycleNo × Fin 16)) (n : CycleNo) (ix : Nat) : Bool :=
  match pos with
  | none => false
  | some p => decide (0 < cycleDiff p.1 n) || (p.1 == n && decide (ix ≤ p.2.val))

/-- All lanes are done with a cycle (R112). -/
def allDone (s : State) (e : RxRec) (n : CycleNo) : Bool :=
  allLanes.all (fun l =>
    !laneInView e.view l || (isLocked s l && passed (vget e.lanePos l) n (lastSlot e.view l)))

/-- Complete every cycle whose deadline an arrival of cycle c has brought (R111, R112); at most k. -/
def completeDue (r : RecIx) (c : CycleNo) : Nat → State → State
  | 0, s => s
  | k + 1, s =>
    match (rxAt s r).next with
    | none => s
    | some n =>
      if ((cfg s).skewLimit + 1 : Int) ≤ cycleDiff c n then completeDue r c k (completeNext r s) else s

/-- Complete every cycle all lanes are done with (R112); at most k. -/
def completeDone (r : RecIx) : Nat → State → State
  | 0, s => s
  | k + 1, s =>
    match (rxAt s r).next with
    | none => s
    | some n => if allDone s (rxAt s r) n then completeDone r k (completeNext r s) else s

/-- What an arrival is to one record (R109). -/
inductive Taken where
  | trunk (seq : BitVec 4) (role : HeaderRole) (epoch : Epoch) (width : BitVec 5) (payload : List Byte)
  | other (item : Item)
  deriving DecidableEq, Repr

/-- The entry a full view gives up (R110): the largest absent run, the lowest address among equals, if any is above 0.
-/
def evicted (v : List ViewEntry) : Option SlotAddr :=
  (leastBy (fun a => 1024 - (((v.filter (fun e => e.slot == a)).map (fun e => e.absent)).foldl max 0))
    (allSlots.filter (fun a => v.any (fun e => e.slot == a && decide (0 < e.absent)))))

/-- A new entry of the view (R110). -/
def newEntry (a : SlotAddr) (seq : BitVec 4) (role : HeaderRole) : ViewEntry where
  slot := a
  seq := seq
  role := role
  health := .bad
  reason := some (if role = .probe then .probe else .absent)
  unclean := 0
  clean := 0
  absent := 0

/-- The view with a trunk header's slot in it (R110): none where a full view keeps it out. -/
def enterView (v : List ViewEntry) (a : SlotAddr) (seq : BitVec 4) (role : HeaderRole) : Option (List ViewEntry) :=
  if v.length < 16 then some (v ++ [newEntry a seq role])
  else (evicted v).map (fun b => v.filter (fun e => e.slot != b) ++ [newEntry a seq role])

/-- A new entry appears in the view (R110, R117, R119). -/
def addEntry (r : RecIx) (a : SlotAddr) (v : List ViewEntry) (s : State) : State :=
  let l := laneOf a
  let s1 := s.modRx r (fun e => { e with
    view := v
    aligned := if (vget e.aligned l).isNone then vset e.aligned l (laneAt s l).lag else e.aligned })
  postTally r (recomputeSkew r s1)

/-- A trunk header reaches the view (R110). -/
def seeHeader (r : RecIx) (a : SlotAddr) (seq : BitVec 4) (role : HeaderRole) (s : State) : State :=
  let v := (rxAt s r).view
  if inView v a then
    s.modRx r (fun e => { e with
      view := e.view.map (fun x => if x.slot == a then { x with seq := seq, role := role } else x) })
  else
    match enterView v a seq role with
    | some v' => addEntry r a v' s
    | none => s

/-- An item joins a cycle's entry, which is cleared first if it held another cycle (R111). -/
def RxRec.place (c : CycleNo) (a : SlotAddr) (item : Item) (e : RxRec) : RxRec :=
  let entry : AlignEntry := { cycle := c, items := (alignAt e c).filter (fun p => p.1 != a) ++ [(a, item)] }
  { e with align := vset e.align (entryIx c) (some entry) }

/-- An arrival is stored, where its slot is in the view and its cycle is still open (R111). -/
def store (r : RecIx) (c : CycleNo) (a : SlotAddr) (item : Item) (s : State) : State :=
  let e := rxAt s r
  if !inView e.view a then s
  else
    match e.next with
    | none => s.modRx r (fun e => ({ e with next := some c } : RxRec).place c a item)
    | some n => if cycleDiff c n < 0 then s else s.modRx r (RxRec.place c a item)

/-- The item of an alignment entry (R111): a payload is kept for DATA and PROBE. -/
def Taken.item : Taken → Item
  | .trunk seq role epoch width payload =>
    .header seq role epoch width (if role = .hold then [] else payload)
  | .other i => i

/-- One ACCEPTED record takes an arrival (R110 to R112): the cycles it brings to their deadline complete first, then it
is seen and stored, then the cycles all lanes are done with complete. A header of a cycle already completed is seen and
not stored (log entry 84). -/
def takeArrival (r : RecIx) (a : SlotAddr) (c : CycleNo) (x : Taken) (s : State) : State :=
  let mine := match x with
    | .trunk _ _ _ _ _ => true
    | .other _ => false
  if mine || laneInView (rxAt s r).view (laneOf a) then
    let s1 := completeDue r c 128 s
    let s2 := match x with
      | .trunk seq role _ _ _ => seeHeader r a seq role s1
      | .other _ => s1
    completeDone r 8 (store r c a x.item s2)
  else s

/-- The lane position of every record (R109, R112). -/
def setLanePos (a : SlotAddr) (c : CycleNo) (s : State) : State :=
  { s with rx := { s.rx with recs := vmap (fun e =>
      { e with lanePos := vset e.lanePos (laneOf a) (some (c, slotIx a)) }) s.rx.recs } }

/-! ### Strays (R121, R122) -/

/-- A listed stray takes one more header (R121). -/
def Stray.hear (c : CycleNo) (y : Stray) : Stray :=
  if c = y.last then { y with quiet := 0 }
  else if c = nextCycle y.last then { y with quiet := 0, run := min 16 (y.run + 1), last := c }
  else { y with quiet := 0, run := 1, last := c }

/-- A stray is this one. -/
def Stray.is (y : Stray) (owner : StationId) (tag : Tag) : Bool := y.owner == owner && y.tag == tag

/-- A stray is dismissed where its run is 16 and its spacing 0 (R122). -/
def dismissStray (owner : StationId) (tag : Tag) (s : State) : State :=
  if s.rx.strays.any (fun y => y.is owner tag && y.run == 16 && y.spacing == 0) then
    let out := requestDecline owner (.dismiss tag .noTrunk) s
    if out.2 then
      { out.1 with rx := { out.1.rx with
        strays := out.1.rx.strays.map (fun y => if y.is owner tag then { y with spacing := 256 } else y)
        straysDismissed := bump out.1.rx.straysDismissed } }
    else out.1
  else s

/-- A stray header (R121, R122). -/
def takeStray (owner : StationId) (tag : Tag) (c : CycleNo) (s : State) : State :=
  if s.rx.strays.any (fun y => y.is owner tag) then
    dismissStray owner tag { s with rx := { s.rx with
      strays := s.rx.strays.map (fun y => if y.is owner tag then y.hear c else y) } }
  else if s.rx.strays.length < 4 then
    { s with rx := { s.rx with
      strays := s.rx.strays ++ [{ owner := owner, tag := tag, run := 1, last := c, quiet := 0, spacing := 0 }] } }
  else { s with rx := { s.rx with straysIgnored := bump s.rx.straysIgnored } }

/-- A flywheel cycle start in the stray list (R121). -/
def Stray.tick (y : Stray) : Stray := { y with quiet := min 16 (y.quiet + 1), spacing := y.spacing - 1 }

/-! ### The slot arrival -/

/-- What an arrival is to one record (R109). -/
def takenBy (s : State) (r : RecIx) (h : HeaderRead) (payload : List Byte) : Taken :=
  match h with
  | .free => .other .free
  | .fault => .other .faulty
  | .valid hd =>
    if hd.sink = ownId s ∧ hd.role ≠ .spare ∧ rxMatch s hd.owner hd.tag = some r then
      .trunk hd.seq hd.role hd.epoch hd.width payload
    else .other (.foreign hd.owner)

/-- A header addressed to this station by a trunk it does not hold (R109). -/
def strayHeader (s : State) (h : HeaderRead) : Option (StationId × Tag) :=
  match h with
  | .valid hd =>
    if hd.sink = ownId s ∧ hd.role ≠ .spare ∧ (rxMatch s hd.owner hd.tag).isNone then some (hd.owner, hd.tag) else none
  | .free => none
  | .fault => none

/-- The receive engine takes a slot arrival (R109): each ACCEPTED record, in index order (log entry 65). -/
def rxArrival (a : SlotAddr) (c : CycleNo) (h : HeaderRead) (payload : List Byte) (s : State) : State :=
  let s1 := setLanePos a c s
  let s2 := allRecs.foldl (fun x r =>
    if (rxAt x r).state = .accepted then takeArrival r a c (takenBy s1 r h payload) x else x) s1
  match strayHeader s1 h with
  | some y => takeStray y.1 y.2 c s2
  | none => s2

/-- The lane unit counts a header fault (R28). -/
def countFault (l : LaneNo) (h : HeaderRead) (s : State) : State :=
  if h = .fault then s.modLane l (fun x => { x with headerErrors := bump x.headerErrors }) else s

/-- SLOT_ARRIVAL (R15): the lane unit's count, the slot unit, and from ATTACHED onward the receive engine. That the slot
unit takes the arrival first is the model's choice, R15 giving no order (log entry 69): its reports come first, and
after an ID clash found there the receive engine does not take the arrival. -/
def execSlotArrival (a : SlotAddr) (c : CycleNo) (header : BitVec 40) (payload : Vector Byte 32) (s : State) :
    Host.Outcome State Fault Refusal :=
  run (fun s =>
    if running s ∧ isLocked s (laneOf a) ∧ slotOfLane s a c then
      let h := readHeader header
      let s1 := learn a c h (countFault (laneOf a) h s)
      if attached s1 then rxArrival a c h (vlist payload) s1 else s1
    else s) s

/-! ### Realignment (R118) -/

/-- The present lags of the lanes that hold slots of a view (R118). -/
def presentLags (s : State) (v : List ViewEntry) : Vector (Option Int) 4 :=
  allLanes.foldl (fun x l => if laneInView v l then vset x l (laneAt s l).lag else x) (Vector.replicate 4 none)

/-- The handing lane came from CONFIRM with no other lane of the view LOCKED or COAST (R118). -/
def freshLock (s : State) (v : List ViewEntry) (l : LaneNo) (fromConfirm : Bool) : Bool :=
  fromConfirm && allLanes.all (fun m => m == l || !laneInView v m || !lockedOrCoast s m)

/-- A record realigns on a lane's handing (R118). -/
def realigns (s : State) (e : RxRec) (l : LaneNo) (fromConfirm renumbered : Bool) : Bool :=
  freshLock s e.view l fromConfirm ||
    ((vget e.aligned l).isSome &&
      (renumbered ||
        (allLanes.any (fun m => m != l && laneInView e.view m && (vget e.aligned m).isSome) &&
          vget e.aligned l != (laneAt s l).lag)))

/-- A realignment (R118, R127). -/
def realign (r : RecIx) (l : LaneNo) (s : State) : State :=
  let s1 := (resetDelin r s).modRx r (fun e => { e with
    align := Vector.replicate 8 none, next := none, aligned := presentLags s e.view, realigns := bump e.realigns })
  report (.realigned r l (laneAt s l).lag) s1

/-- One record takes a lane's handing (R117, R118). -/
def rxHanded (r : RecIx) (l : LaneNo) (fromConfirm renumbered : Bool) (s : State) : State :=
  let e := rxAt s r
  if e.state ≠ .accepted then s
  else
    let s1 := recomputeSkew r s
    if !laneInView e.view l then s1
    else if realigns s e l fromConfirm renumbered then realign r l s1
    else s1.modRx r (fun e => { e with aligned := vset e.aligned l (laneAt s l).lag })

/-- A lane hands the receive engine its lag (R23, R26, R118): the records in index order. -/
def rxLagHanded (l : LaneNo) (fromConfirm renumbered : Bool) (s : State) : State :=
  allRecs.foldl (fun x r => rxHanded r l fromConfirm renumbered x) s

/-! ### Timers and the DISMISS command -/

/-- A live cycle in a receive record (R119, R124). -/
def RxRec.liveTick (e : RxRec) : RxRec :=
  { e with
    tally := e.tally.map (fun n => n - 1)
    dismiss := e.dismiss.map (fun d => { d with deadline := d.deadline - 1 }) }

/-- TALLY_TIMER_EXPIRY (R119): a periodic TALLY, and the timer starts again. -/
def execTallyTimerExpiry (r : RecIx) (s : State) : Host.Outcome State Fault Refusal :=
  run (fun s =>
    if running s ∧ (rxAt s r).state = .accepted ∧ (rxAt s r).tally = some 0 then
      (postTally r s).modRx r (fun e => { e with tally := some (cfg s).tallyPeriod })
    else s) s

/-- STRAY_ENTRY_EXPIRY (R121). -/
def execStrayEntryExpiry (owner : StationId) (tag : Tag) (s : State) : Host.Outcome State Fault Refusal :=
  run (fun s =>
    if running s then
      let left := s.rx.strays.filter (fun y => !(y.is owner tag && y.quiet == 16 && y.spacing == 0))
      { s with rx := { s.rx with strays := left } }
    else s) s

/-- DISMISS_DEADLINE_EXPIRY (R124). -/
def execDismissDeadlineExpiry (r : RecIx) (s : State) : Host.Outcome State Fault Refusal :=
  run (fun s =>
    if running s ∧ (rxAt s r).dismiss.any (fun d => d.deadline == 0) then endDismiss r (withdraw (.rx r) s) else s) s

/-- The DISMISS command (R124). -/
def cmdDismiss (cmd ix : Byte) (s : State) : State :=
  match recOf ix.toNat with
  | none => respond (plainResponse 6 cmd .badArg) s
  | some r =>
    let e := rxAt s r
    if e.state ≠ .accepted then respond (plainResponse 6 cmd .notOpen) s
    else
      let s1 := postNotice (.rx r) (e.source.getD nobody) (.dismiss (e.tag.getD 0) .client)
        (putInFlight { code := 6, tag := cmd, record := .rx r } s)
      drain r .dismissed true
        (s1.modRx r (fun e => { e with dismiss := some { tag := cmd, deadline := Config.dismissWait } }))

end Sys2Proof.Machine
end

