-- ==== Sys2Proof/Machine/Notices.lean ====
section
/-! DEFINITION. The notice unit and the roster (chapter 4): offers in notice positions, arrivals and their dispatch,
expiries, and PRESENCE. -/

namespace Sys2Proof.Machine

/-! ### Offering (R52, R53) -/

/-- The content an entry is offered with (R52): a PRESENCE's body is formed at that moment (R60). -/
def offeredBody (s : State) (e : QueuedNotice) : NoticeBody :=
  match e.body with
  | .presence _ => .presence (ownPresence s)
  | b => b

/-- The first entry in the queue order that is not in flight (R52). -/
def firstOffer (s : State) : Option QueuedNotice := (queueOrder s.notice.queue).find? (fun e => !inFlight s e.owner)

/-- An entry's offer in a position (R52). -/
def makeOffer (s : State) (position : Fin 2) (cycle : CycleNo) (e : QueuedNotice) : Offer where
  position := position
  cycle := cycle
  owner := e.owner
  dest := e.dest
  body := offeredBody s e
  word := encodeNotice (ownId s) e.dest (offeredBody s e)
  replaced := false
  withdrawn := false
  cut := false

/-- NOTICE_POSITION_START (R52): where R8 holds and an entry is free, it goes in flight; else the position is left
undriven. -/
def execNoticePositionStart (l : LaneNo) (position : Fin 2) (cycle : CycleNo) (s : State) :
    Host.Outcome State Fault Refusal :=
  run (fun s =>
    if running s ∧ ofLane s l cycle ∧ drives s l cycle ∧ vget s.notice.offers l = none then
      match firstOffer s with
      | none => s
      | some e => s.modNotice (fun n => { n with offers := vset n.offers l (some (makeOffer s position cycle e)) })
    else s) s

/-- The poster is told that its notice was sent (R53). -/
def tellSent (o : OwnerEntry) (b : NoticeBody) (s : State) : State :=
  match o with
  | .tx t => txSent t b s
  | .rx r => rxSent r b s
  | .decline _ => s
  | .presence => s

/-- The outcome of an offer (R53). -/
def offerOutcome (l : LaneNo) (f : Offer) (o : SendOutcome) (s : State) : State :=
  let s1 := s.modNotice (fun n => { n with offers := vset n.offers l none })
  match o with
  | .won =>
    let s2 := s1.modNotice (fun n => { n with won := vset n.won l (some (f.cycle, f.position)) })
    if f.withdrawn then s2
    else
      let s3 := if f.replaced then s2
        else s2.modNotice (fun n => { n with queue := n.queue.filter (fun e => e.owner != f.owner) })
      tellSent f.owner f.body s3
  | .lostBefore => s1
  | .lostIn => s1
  | .lostAfter _ => s1
  | .abandoned => s1

/-- The outcome of an offer (R7): ABANDONED where it was cut short (R8). -/
def Offer.outcome (f : Offer) (result : ReadBack 112) : SendOutcome :=
  if f.cut then .abandoned else noticeOutcomeOf f.word result

/-- NOTICE_OUTCOME (R53): of the offer in progress on a lane. -/
def execNoticeOutcome (l : LaneNo) (result : ReadBack 112) (s : State) : Host.Outcome State Fault Refusal :=
  run (fun s =>
    match vget s.notice.offers l with
    | none => s
    | some f => offerOutcome l f (f.outcome result) s) s

/-! ### Receiving (R54 to R56) -/

/-- A PRESENCE is stored in its sender's entry (R59). -/
def storePresence (sender : StationId) (b : PresenceBody) (s : State) : State :=
  match rosterIx sender with
  | none => s
  | some i => s.modRoster i (fun e => { e with body := some b })

/-- The dispatch of a received notice (R56). -/
def dispatch (sender dest : StationId) (b : NoticeBody) (s : State) : State :=
  if dest ≠ ownId s ∧ dest ≠ nobody then s
  else
    match b with
    | .presence p => storePresence sender p s
    | .offer _ _ => if attached s then rxNotice sender dest b s else s
    | .close _ => if attached s then rxNotice sender dest b s else s
    | .accept _ => if attached s then txNotice sender b s else s
    | .decline _ _ => if attached s then txNotice sender b s else s
    | .tally _ => if attached s then txNotice sender b s else s
    | .dismiss _ _ => if attached s then txNotice sender b s else s

/-- A received notice (R55, R56): under this station's ID it is its own or a clash; else its sender's roster entry is
refreshed and it is dispatched. -/
def received (l : LaneNo) (position : Fin 2) (wonHere : Bool) (sender dest : StationId) (b : NoticeBody) (s : State) :
    State :=
  if sender = ownId s then (if wonHere then s else idClash (.notice l (positionNumber l position)) s)
  else dispatch sender dest b (refresh sender .notice s)

/-- NOTICE_ARRIVAL (R54): what a LOCKED lane's notice position held. -/
def execNoticeArrival (l : LaneNo) (position : Fin 2) (cycle : CycleNo) (word : BitVec 112) (s : State) :
    Host.Outcome State Fault Refusal :=
  run (fun s =>
    if running s ∧ isLocked s l ∧ ofLane s l cycle then
      let wonHere := (vget s.notice.won l).any (fun w => sameCycle s l w.1 cycle && w.2 == position)
      let s1 := s.modNotice (fun n => { n with won := vset n.won l none })
      match readNotice word with
      | .empty => s1
      | .checkFailure => s1.modLane l (fun x => { x with noticeErrors := bump x.noticeErrors })
      | .unknown => s1.modNotice (fun n => { n with unknownKind := vmod n.unknownKind l bump })
      | .received sender dest b => received l position wonHere sender dest b s1
    else s) s

/-! ### Expiries (R51, R59, R60) -/

/-- An owner entry is one of the decline entries (R47). -/
def OwnerEntry.isDecline : OwnerEntry → Bool
  | .decline _ => true
  | _ => false

/-- A live cycle in the notice queue (R51). -/
def NoticeUnit.liveTick (n : NoticeUnit) : NoticeUnit :=
  { n with queue := n.queue.map (fun e =>
      if e.owner.isDecline then { e with expiry := min Config.declineExpiry (e.expiry + 1) } else e) }

/-- DECLINE_ENTRY_EXPIRY (R51). -/
def execDeclineEntryExpiry (d : Fin 4) (s : State) : Host.Outcome State Fault Refusal :=
  run (fun s =>
    if running s ∧ (queued s (.decline d)).any (fun e => e.expiry == Config.declineExpiry) then
      (withdraw (.decline d) s).modNotice (fun n => { n with declineExpired := bump n.declineExpired })
    else s) s

/-- A peer goes ABSENT (R59): PEER_LEFT, then both engines are told. -/
def peerLost (i : Fin 62) (id : StationId) (s : State) : State :=
  let s1 := s.modRoster i (fun e => { e with present := false, body := none })
  rxAbsence id (txAbsence id (report (.peerLeft id) s1))

/-- ROSTER_AGE_EXPIRY (R59). -/
def execRosterAgeExpiry (id : StationId) (s : State) : Host.Outcome State Fault Refusal :=
  run (fun s =>
    match rosterIx id with
    | none => s
    | some i =>
      if running s ∧ id ≠ ownId s ∧ (vget s.roster i).present ∧ (vget s.roster i).age = Config.rosterAge then
        peerLost i id s
      else s) s

/-- PRESENCE_COUNTDOWN_EXPIRY (R60). -/
def execPresenceCountdownExpiry (s : State) : Host.Outcome State Fault Refusal :=
  run (fun s =>
    if attached s ∧ s.notice.countdown = 0 then
      (postNotice .presence nobody (.presence (ownPresence s)) s).modNotice (fun n => { n with countdown := 256 })
    else s) s

end Sys2Proof.Machine
end

