-- ==== Sys2Proof/Machine/Timing.lean ====
section
/-! DEFINITION. The timing unit (chapter 3): moves of the flywheel, live cycles, loss of the pacer, the election, and
pacing. Places are places on the flywheel circle: cycle number × 5120 + bit (log entry 6). -/

namespace Sys2Proof.Machine

/-! ### Moves of the flywheel (R33 to R35, R41) -/

/-- A place shifted by whole cycles. -/
def placeCycles (k : CycleNo) (p : Nat) : Nat := place p (k.toNat * Config.cycleBits : Nat)

/-- The flywheel is renumbered by k without moving its phase (R35): every place is named anew. -/
def renumber (k : CycleNo) (s : State) : State :=
  { s with
    lanes := vmap (fun x => { x with
      expPos := x.expPos.map (placeCycles k)
      emitted := x.emitted.map (fun e => { e with pos := placeCycles k e.pos }) }) s.lanes
    timing := { s.timing with number := s.timing.number + k, live := s.timing.live.map (fun c => c + k) } }

/-- The flywheel's phase moves d bit times later (R17, R33, R41): the expected positions of lanes that hold a lag move
with it, and that of a CONFIRM lane stays where it is in time, so that its place is renamed. -/
def shiftConfirm (d : Int) (s : State) : State :=
  { s with lanes := vmap (fun x =>
      if x.lag.isNone then { x with expPos := x.expPos.map (fun p => place p (-d)) } else x) s.lanes }

/-- The flywheel now stands at a place. -/
def standAt (p : Nat) (t : Timing) : Timing :=
  { t with number := cycleAt p, position := p % Config.cycleBits, slip := 0 }

/-- A lane that locks as the phase reference places the flywheel (R33): a flywheel cycle starts at the first bit of its
mark, at place m, and carries the mark's number. The verdict falls 64 bit times later. The start that is moved to the
mark is the nearest, of two equally near the later, and what is left is done by renumbering: the model's choice, on
which depends how far the lanes that hold a lag are carried (R41, log entry 68). No timer counts a flywheel cycle start
that the move passes over (log entry 56), and what was declared live is renumbered and nothing else (log entry 75). -/
def phaseOn (l : LaneNo) (m : Nat) (num : CycleNo) (s : State) : State :=
  let near := cycleAt (place m 2560)
  let s1 := renumber (num - near) (shiftConfirm (placeDiff m (cycleStart near)) s)
  s1.modTiming (fun t => { t with
    number := num, position := 64, slip := 0, phased := true, rephase := false, trim := some l })

/-- The start of the flywheel cycle of which a lane's expected place lies at its lag and residue (R35). -/
def cycleOfPlace (x : Lane) (e : Nat) : CycleNo :=
  cycleAt (place e (-(x.lag.getD 0 * 320 + (x.residue.getD 0 : Nat))))

/-- A resume or a FRESH adoption from COAST re-phases the flywheel (R41): it is moved so that the lane's expected place
e falls on the mark's first bit m, and renumbered so that that flywheel cycle carries the mark's number. No timer counts
a flywheel cycle start that the move passes over (log entry 56), and what was declared live is renumbered and nothing
else (log entry 75). -/
def rephaseOn (l : LaneNo) (e m : Nat) (num : CycleNo) (s : State) : State :=
  let k := num - cycleOfPlace (laneAt s l) e
  let s1 := renumber k (shiftConfirm (placeDiff m e) s)
  s1.modTiming (fun t => { standAt (placeCycles k (place e 64)) t with rephase := false, trim := some l })

/-- Where the flywheel stands in its cycle, with what trims have moved it past an end of the cycle (R34). -/
def Timing.stands (t : Timing) : Int := (t.position : Int) + t.slip

/-- The flywheel is moved within its cycle (R34): a place before its first or past its last position is kept beside the
position (log entry 7). -/
def Timing.moveTo (p : Int) (t : Timing) : Timing :=
  let position := (min 5119 (max 0 p)).toNat
  { t with position := position, slip := p - (position : Int) }

/-- A trim of the flywheel (R34): by the whole offset; a positive one lengthens the current cycle, and no cycle start is
added or removed. -/
def trimFlywheel (offset : Int) (s : State) : State :=
  (shiftConfirm offset s).modTiming (fun t => t.moveTo (t.stands - offset))

/-! ### Driving (R8) -/

/-- The lane's cycle that is current at a place: the latest whose expected position has come, one that comes at this
very instant included (log entry 54). -/
def currentCycle (x : Lane) (now : Nat) : Option CycleNo :=
  match x.expNum, x.expPos with
  | some n, some p => if 0 ≤ placeDiff now p then some n else some (n - 1)
  | _, _ => none

/-- The timing unit takes a role that may drive: the cycles of LOCKED lanes whose expected position has passed stay
undriven (R8, log entry 5). -/
def latchR8 (now : Nat) (s : State) : State :=
  { s with lanes := vmap (fun x => if x.state = .locked then { x with r8Failed := currentCycle x now } else x) s.lanes }

/-! ### Roles (R38 to R40, R43, R46) -/

/-- TIMING_ROLE (R46): the role left, and the timing record as it now stands, its flywheel number too (log entry 79).
-/
def reportRole (left : Role) (s : State) : State :=
  report (.timingRole left s.timing.role s.timing.pacer (numberIfPhased s)) s

/-- The marks being emitted are cut off where they stand, but on a lane given (R38, R43): their outcome is ABANDONED. -/
def cutMarks (but : Option LaneNo) (s : State) : State :=
  let cut := vmap (fun x => { x with emitted := x.emitted.map (fun e => { e with cut := e.cut || e.awaited }) }) s.lanes
  { s with lanes := match but with
      | none => cut
      | some l => vset cut l (laneAt s l) }

/-- The offer in progress on a lane is cut short (R8). -/
def cutOffer (l : LaneNo) (s : State) : State :=
  s.modNotice (fun n => { n with offers := vmod n.offers l (fun x => x.map (fun f => { f with cut := true })) })

/-- The offers in progress on every lane are cut short (R8, R38). -/
def cutOffers (s : State) : State :=
  s.modNotice (fun n => { n with offers := vmap (fun x => x.map (fun f => { f with cut := true })) n.offers })

/-- A formed cycle that an election has come upon (R101): it is kept, and not sent again. -/
def StagedCycle.elect (e : StagedCycle) : StagedCycle := { e with stale := true }

/-- Every formed cycle is one that an election has come upon (R101, log entry 51). -/
def staleStaging (s : State) : State :=
  { s with tx := vmap (fun r => { r with staging := vmap (Option.map StagedCycle.elect) r.staging }) s.tx }

/-- The timing unit enters ELECTING (R38): what is being driven is cut off, and what was formed is not sent again
(R101). -/
def enterElecting (s : State) : State :=
  let s1 := cutOffers (if s.timing.role = .pacing then cutMarks none s else s)
  reportRole s.timing.role ((staleStaging s1).modTiming (fun t => { t with
    role := .electing, wait := (cfg s).electBase + (ownId s).toNat, silent := Vector.replicate 4 0, quiet := 0
    fresh := 0, trim := none }))

/-- A valid mark ends the election (R39): the timing unit follows its pacer. -/
def endElection (pacer : StationId) (now : Nat) (s : State) : State :=
  latchR8 now (reportRole .electing (s.modTiming (fun t => { t with
    role := .following, wait := 0, pacer := some pacer, rephase := t.phased || t.rephase })))

/-- The timing unit yields to another pacer (R43, R44), whose mark was met on a lane: the marks being emitted on the
others are cut off. -/
def yield_ (l : LaneNo) (pacer : StationId) (s : State) : State :=
  reportRole .pacing ((cutMarks (some l) s).modTiming (fun t => { t with
    role := .following, fresh := 0, rephase := true, pacer := some pacer }))

/-- One mark on every enabled lane (R9, R42): the emission of each lane, and the FRESH countdown's fall. -/
def emitMarks (s : State) : State :=
  let fresh := decide (0 < s.timing.fresh)
  let marks := allLanes.foldl (fun (x : State) l =>
    if (laneAt x l).state = .disabled then x
    else x.modLane l (fun y => { y with emitted := some {
      pos := cycleStart s.timing.number, word := encodeMark (ownId s) l s.timing.number fresh, awaited := true
      cut := false } })) s
  marks.modTiming (fun t => { t with fresh := t.fresh - 1 })

/-- The timing unit enters PACING (R40). -/
def enterPacing (s : State) : State :=
  let s1 := if s.timing.phased then s else renumber (0 - s.timing.number) s
  let s2 := s1.modTiming (fun t => { t with
    role := .pacing, phased := true, fresh := 16, pacer := some (ownId s), rephase := false, wait := 0 })
  emitMarks (latchR8 (cycleStart s2.timing.number) (reportRole .electing s2))

/-- The lowest-numbered lane that is LOCKED (R34). -/
def lowestLocked (s : State) : Option LaneNo := allLanes.find? (isLocked s)

/-- Every LOCKED lane is silent for three verdicts, and one is LOCKED (R37). -/
def allSilent (s : State) : Bool :=
  (lowestLocked s).isSome && allLanes.all (fun l => !isLocked s l || vget s.timing.silent l == 3)

/-- The test for loss of the pacer (R37). -/
def lossTest (s : State) : State :=
  if s.timing.role = .following ∧ s.timing.phased ∧ allSilent s then enterElecting s else s

/-- A lane has left LOCKED (R34, R37): its silent run, the trim lane, and the test for loss. -/
def laneLeft (l : LaneNo) (s : State) : State :=
  let trim := if s.timing.role = .following ∧ s.timing.trim = some l then lowestLocked s else s.timing.trim
  lossTest (s.modTiming (fun t => { t with silent := vset t.silent l 0, trim := trim }))

/-! ### Live cycles (R36) -/

/-- Every live-cycle timer of the part advances by one (R36). -/
def liveTick (s : State) : State :=
  { s with
    notice := s.notice.liveTick
    slots := { s.slots with queue := s.slots.queue.map (fun q => { q with wait := q.wait.map (fun n => n - 1) }) }
    tx := vmap TxRec.liveTick s.tx
    rx := { s.rx with recs := vmap RxRec.liveTick s.rx.recs } }

/-- The flywheel cycle in which a valid mark began is declared live, once (R36). -/
def declareLive (c : CycleNo) (s : State) : State :=
  if s.timing.live.contains c then s else liveTick (s.modTiming (fun t => { t with live := c :: t.live }))

/-! ### Verdicts (R19, R36, R37, R39, R43) -/

/-- A mark is this station's own (R43). -/
def ownMark (x : Lane) (m : Nat) (word : BitVec 64) : Bool := x.emitted.any (fun e => e.pos == m && e.word == word)

/-- A foreign mark is judged by its pacer ID (R43). -/
def foreignMark (l : LaneNo) (pacer : StationId) (s : State) : State :=
  if pacer.toNat < (ownId s).toNat then yield_ l pacer s
  else if pacer = ownId s then enterElecting s
  else s

/-- The timing unit takes a valid mark (R36, R37, R39, R43), found at place m. -/
def timingMark (l : LaneNo) (m : Nat) (word : BitVec 64) (f : MarkFields) (s : State) : State :=
  let s1 := (refresh f.pacer .mark s).modTiming (fun t => { t with quiet := 0, heard := true })
  let s2 := declareLive (cycleAt m) s1
  match s2.timing.role with
  | .electing => endElection f.pacer (place m 64) s2
  | .pacing => if ownMark (laneAt s2 l) m word then s2 else foreignMark l f.pacer s2
  | .following => s2.modTiming (fun t => { t with silent := vset t.silent l 0 })
  | .quiet => s2

/-- The timing unit takes a bad or missing verdict (R37). -/
def timingSilence (l : LaneNo) (s : State) : State :=
  if s.timing.role = .following ∧ isLocked s l then
    lossTest (s.modTiming (fun t => { t with silent := vmod t.silent l (fun n => min 3 (n + 1)) }))
  else s

/-- The timing unit takes the expected mark of a LOCKED lane (R34, R41): it ends a pending re-phase, or trims. -/
def timingExpected (l : LaneNo) (offset : Int) (s : State) : State :=
  if s.timing.role ≠ .following then s
  else if s.timing.rephase then s.modTiming (fun t => { t with rephase := false, trim := some l })
  else if s.timing.trim = some l then trimFlywheel offset s
  else s

/-- The pacer of record follows an adopted mark (R35). It is taken after the renumbering or the move that the adoption
brings, so that TIMING_ROLE carries the flywheel number after it (R46): the model's choice (log entry 79). -/
def adoptPacer (pacer : StationId) (s : State) : State :=
  let s1 := s.modTiming (fun t => { t with pacer := some pacer })
  if s.timing.role = .following ∧ s.timing.pacer ≠ some pacer then reportRole .following s1 else s1

/-! ### The outcome of a mark, and the timers -/

/-- The timing unit takes the outcome of a mark it emitted, while PACING (R44). -/
def markOutcome (l : LaneNo) (o : SendOutcome) (read : StationId) (s : State) : State :=
  if s.timing.role ≠ .pacing then s
  else
    match o with
    | .won => s
    | .lostIn => yield_ l read s
    | .lostAfter _ => enterElecting s
    | .lostBefore => enterElecting s
    | .abandoned => s

/-- The outcome of a mark (R7): ABANDONED where it was cut off (R38, R43). -/
def Emission.outcome (e : Emission) (result : ReadBack 64) : SendOutcome :=
  if e.cut then .abandoned else markOutcomeOf e.word result

/-- MARK_OUTCOME (R44): of the mark last emitted on a lane. -/
def execMarkOutcome (l : LaneNo) (result : ReadBack 64) (s : State) : Host.Outcome State Fault Refusal :=
  run (fun s =>
    match (laneAt s l).emitted with
    | none => s
    | some e =>
      if e.awaited then
        markOutcome l (e.outcome result) (field (ReadBack.word result) 16 6)
          (s.modLane l (fun x => { x with emitted := some { e with awaited := false } }))
      else s) s

/-- ELECTION_WAIT_EXPIRY (R40). -/
def execElectionWaitExpiry (s : State) : Host.Outcome State Fault Refusal :=
  run (fun s => if s.timing.role = .electing ∧ s.timing.wait = 0 then enterPacing s else s) s

/-- QUIET_COUNT_LIMIT (R37): phased, with no lane LOCKED; a count that stood above 3 when FOLLOWING was entered has
reached 3 too (log entry 76). -/
def execQuietCountLimit (s : State) : Host.Outcome State Fault Refusal :=
  run (fun s =>
    if s.timing.role = .following ∧ s.timing.phased ∧ lowestLocked s = none ∧ 3 ≤ s.timing.quiet then enterElecting s
    else s) s

/-- LISTEN_TIME_EXPIRY (R37, R45): unphased. -/
def execListenTimeExpiry (s : State) : Host.Outcome State Fault Refusal :=
  run (fun s =>
    if s.timing.role = .following ∧ s.timing.phased = false ∧ Config.listenTime ≤ s.timing.quiet then enterElecting s
    else s) s

/-! ### The flywheel cycle start (R33) -/

/-- A lane at a flywheel cycle start (R27, log entry 25): a coasting lane's expected mark advances by one cycle; its
lock age does not rise (log entry 71). -/
def Lane.tick (x : Lane) : Lane :=
  if x.state = .coast then
    { x with coast := min Config.coastLimit (x.coast + 1), expNum := x.expNum.map nextCycle
             expPos := x.expPos.map (placeCycles 1) }
  else x

/-- The flywheel past the end of its cycle (R33): at position 0, or as far past it as a trim had moved the flywheel past
the end (R34, log entry 7). -/
def Timing.wrapped (t : Timing) : Timing := t.moveTo (max 0 (t.stands - Config.cycleBits))

/-- The timing record at a flywheel cycle start (R33, R36, R38). -/
def Timing.tick (t : Timing) : Timing :=
  { t.wrapped with
    number := nextCycle t.number
    live := t.live.filter (fun c => let d := cycleDiff c (nextCycle t.number); decide (-1 ≤ d) && decide (d ≤ 1))
    quiet := if t.heard then t.quiet else min 256 (t.quiet + 1)
    heard := false
    wait := if t.role = .electing then t.wait - 1 else t.wait }

/-- The roster at a flywheel cycle start (R59): the age of every PRESENT entry but this station's own. -/
def rosterTick (s : State) : State :=
  let own := rosterIx (ownId s)
  { s with roster := (List.range 62).foldl (fun v i =>
      let j : Fin 62 := Fin.ofNat 62 i
      if some j = own then v
      else vmod v j (fun e => if e.present then { e with age := min Config.rosterAge (e.age + 1) } else e)) s.roster }

/-- A slot record at a flywheel cycle start (R65). -/
def SlotRec.tick (r : SlotRec) : SlotRec := if r.state = .barred then { r with bar := r.bar - 1 } else r

/-- Every flywheel-cycle timer of the part advances by one (R33), and the arbiter looks (R68). The look comes before what
a count ended by this start brings, a bar among them (R65), which is a later step: the model's choice (log entry 87). -/
def flywheelTick (s : State) : State :=
  let s1 := { s with timing := s.timing.tick, lanes := vmap Lane.tick s.lanes }
  let s2 := if s1.timing.role = .pacing then emitMarks s1 else s1
  let s3 := rosterTick s2
  let s4 := { s3 with
    notice := { s3.notice with countdown := s3.notice.countdown - 1 }
    slots := { s3.slots with recs := vmap SlotRec.tick s3.slots.recs }
    rx := { s3.rx with strays := s3.rx.strays.map Stray.tick }
    loader := { s3.loader with listenAge := min Config.listenTime (s3.loader.listenAge + 1) } }
  lookIf (inService s4).isSome s4

/-- FLYWHEEL_CYCLE_START (R33). -/
def execFlywheelCycleStart (s : State) : Host.Outcome State Fault Refusal :=
  run (fun s => if running s then flywheelTick s else s) s

end Sys2Proof.Machine
end

