-- ==== Sys2Proof/Machine/Lanes.lean ====
section
/-! DEFINITION. The lane units (chapter 2): finding, confirming and keeping lock, renumbering and coasting. A lane unit
hands each verdict to the timing unit first, then takes it in its own lock logic (log entry 16). -/

namespace Sys2Proof.Machine

/-! ### Measuring (R22) -/

/-- The offset of a mark from the start of the flywheel cycle of its number, the nearest (R22). -/
def offsetOf (m : Nat) (num : CycleNo) : Int := placeDiff m (cycleStart num)

/-- The lag and residue of an offset, where the lag is in range (R22). -/
def measure (m : Nat) (num : CycleNo) : Option (Int × Nat) :=
  let lag := offsetOf m num / 320
  if -64 ≤ lag ∧ lag ≤ 63 then some (lag, (offsetOf m num % 320).toNat) else none

/-- The place at which the mark after one of number num is expected, at a lag and residue (R22). -/
def nextPlace (num : CycleNo) (lag : Int) (residue : Nat) : Nat :=
  place (cycleStart (nextCycle num)) (lag * 320 + (residue : Int))

/-! ### Reports and handing on (R23, R29 to R31) -/

/-- LANE_STATE (R29): the state left, and the lane as it now stands. -/
def reportLane (l : LaneNo) (left : LockState) (s : State) : State :=
  report (.laneState l left (laneAt s l).state (laneAt s l).lag) s

/-- A lane that has entered LOCKED is handed on (R23, R63, R118). -/
def handLock (l : LaneNo) (fromConfirm renumbered : Bool) (s : State) : State :=
  rxLagHanded l fromConfirm renumbered (slotsLocked l s)

/-- A lane unit that loses its place (R24, R27): its lag, residue, expected number and position are cleared. -/
def Lane.lose (x : Lane) : Lane :=
  { x with state := .hunt, expNum := none, expPos := none, lag := none, residue := none, r8Failed := none
           former := none }

/-- A lane unit entering COAST (R27). -/
def Lane.enterCoast (x : Lane) : Lane :=
  { x with state := .coast, coast := 0, miss := 0, cand := none, r8Failed := none, former := none }

/-- A lane in LOCKED or COAST enters HUNT (R24, R26, R27, R29, R63). -/
def loseLane (l : LaneNo) (s : State) : State :=
  let left := (laneAt s l).state
  laneLeft l (slotsLost l (reportLane l left (cutOffer l (s.modLane l Lane.lose))))

/-- A LOCKED lane enters COAST (R27, R29, R63). -/
def coastLane (l : LaneNo) (s : State) : State :=
  laneLeft l (slotsCoast l (reportLane l .locked (cutOffer l (s.modLane l Lane.enterCoast))))

/-- A LOCKED lane's miss count has reached 4 (R24). -/
def leaveLocked (l : LaneNo) (s : State) : State :=
  if s.timing.role = .electing then coastLane l s else loseLane l s

/-! ### CONFIRM (R20 to R22) -/

/-- CONFIRM with count 1, numbered from a mark at place m (R20, R21, R27). -/
def Lane.confirmFrom (m : Nat) (num : CycleNo) (x : Lane) : Lane :=
  { x with state := .confirm, confirm := 1, expNum := some (nextCycle num), expPos := some (place m 5120)
           lag := none, residue := none }

/-- The next confirming mark (R21): the window is centred again. -/
def Lane.confirmMore (m : Nat) (num : CycleNo) (x : Lane) : Lane :=
  { x with confirm := x.confirm + 1, expNum := some (nextCycle num), expPos := some (place m 5120) }

/-- Back from CONFIRM to HUNT (R21, R22); the expected number and position become none too (log entry 74). -/
def Lane.unconfirm (x : Lane) : Lane := { x with state := .hunt, confirm := 0, expNum := none, expPos := none }

/-- LOCKED on a mark (R22, R27): the mark's own cycle stays undriven (R8, log entry 5), and the coast time becomes 0
(log entry 74). -/
def Lane.lockOn (num : CycleNo) (lag : Int) (residue : Nat) (x : Lane) : Lane :=
  { x with state := .locked, expNum := some (nextCycle num), expPos := some (nextPlace num lag residue)
           lag := some lag, residue := some residue, miss := 0, cand := none, lockAge := 0, coast := 0
           r8Failed := some num, former := none }

/-- The lane is the phase reference (R22, log entry 13). -/
def isReference (l : LaneNo) (s : State) : Bool :=
  s.timing.role == .following && (noPhase s || allLanes.all (fun m => m == l || !lockedOrCoast s m))

/-- A lane locks from CONFIRM at its third confirming mark (R22), or measures out of range. -/
def lockLane (l : LaneNo) (m : Nat) (num : CycleNo) (s : State) : State :=
  if isReference l s then
    handLock l true false (reportLane l .confirm ((phaseOn l m num s).modLane l (Lane.lockOn num 0 0)))
  else
    match measure m num with
    | some x => handLock l true false (reportLane l .confirm (s.modLane l (Lane.lockOn num x.1 x.2)))
    | none => s.modLane l (fun x => { x.unconfirm with lagOutOfRange := bump x.lagOutOfRange })

/-- A valid mark in CONFIRM (R21, R22). -/
def confirmMark (l : LaneNo) (m : Nat) (num : CycleNo) (s : State) : State :=
  if (laneAt s l).expNum ≠ some num then s.modLane l (Lane.confirmFrom m num)
  else
    let s1 := s.modLane l (Lane.confirmMore m num)
    if 3 ≤ (laneAt s1 l).confirm then lockLane l m num s1 else s1

/-! ### LOCKED (R24 to R26) -/

/-- Every expected position of a LOCKED lane (R23, R24): the expected mark advances and the lock age rises. The cycle
whose place failed R8 is kept for as long as its parts may still pass. -/
def Lane.advance (x : Lane) : Lane :=
  { x with expNum := x.expNum.map nextCycle, expPos := x.expPos.map (placeCycles 1)
           lockAge := min 255 (x.lockAge + 1)
           former := none
           r8Failed := x.r8Failed.filter (fun c => x.expNum == some c || x.expNum == some (nextCycle c)) }

/-- A miss of a LOCKED lane (R24, R25): the candidate is set before the effects of a fourth miss, so that a lane
entering COAST by it holds none (log entry 74). -/
def missMark (l : LaneNo) (cand : Option CycleNo) (bad : Bool) (s : State) : State :=
  let s1 := s.modLane l (fun x => { x.advance with
    miss := x.miss + 1, cand := cand, badMarks := if bad then bump x.badMarks else x.badMarks })
  if 4 ≤ (laneAt s1 l).miss then leaveLocked l s1 else s1

/-- The expected mark of a LOCKED lane (R24). -/
def expectedMark (l : LaneNo) (offset : Int) (s : State) : State :=
  (timingExpected l offset s).modLane l (fun x => { x.advance with miss := 0, cand := none })

/-- The lane's fields after it adopts a numbering and stays LOCKED (R26): a failed cycle of R8 is renamed with it. -/
def Lane.adopt (num old : CycleNo) (lag : Int) (residue : Nat) (x : Lane) : Lane :=
  { x with expNum := some (nextCycle num), expPos := some (nextPlace num lag residue), lag := some lag
           residue := some residue, miss := 0, cand := none, lockAge := min 255 (x.lockAge + 1)
           former := some old, r8Failed := x.r8Failed.map (fun c => c + (num - old)) }

/-- An adoption ends a pending re-phase and makes its lane the trim lane while FOLLOWING (R35, R41). -/
def takeTrim (l : LaneNo) (s : State) : State :=
  s.modTiming (fun t => { t with rephase := false, trim := if t.role = .following then some l else t.trim })

/-- The flywheel carries the numbering of a mark expected at place e (R35). -/
def carries (s : State) (l : LaneNo) (e : Nat) (num : CycleNo) : Bool := cycleOfPlace (laneAt s l) e == num

/-- The flywheel takes an adopted numbering of a lane whose expected place is e, with the lag and residue the lane then
has, or none where they measure out of range. With a re-phase pending the lane keeps its lag (R41, log entry 15); the
flywheel is renumbered, and the lag kept, where it does not carry the numbering (R26, R35), but in ELECTING it runs on
as it is (R33) and the lane measures its lag, as it does where the flywheel carries the numbering (R26, log entry 52).
-/
def adoptNumbering (l : LaneNo) (e m : Nat) (num : CycleNo) (s : State) : State × Option (Int × Nat) :=
  let x := laneAt s l
  let held := some (x.lag.getD 0, x.residue.getD 0)
  if carries s l e num then if s.timing.rephase then (takeTrim l s, held) else (s, measure m num)
  else if s.timing.role = .electing then (s, measure m num)
  else (takeTrim l (renumber (num - cycleOfPlace x e) s), held)

/-- LANE_RENUMBERED (R30). -/
def reportRenumbered (l : LaneNo) (old num : CycleNo) (lag : Option Int) (s : State) : State :=
  report (.laneRenumbered l old num lag) s

/-- A lane whose adoption measured out of range leaves for HUNT (R26, R30). -/
def adoptFailed (l : LaneNo) (old num : CycleNo) (s : State) : State :=
  loseLane l (reportRenumbered l old num none
    (s.modLane l (fun x => { x with lagOutOfRange := bump x.lagOutOfRange, miss := 0, cand := none })))

/-- A LOCKED lane adopts a new numbering (R25, R26, R30, R35), from a mark at place m expected at place e. The lock age
rises at this expected position too, whether or not the lane stays LOCKED (R23). -/
def adoptLocked (l : LaneNo) (m : Nat) (f : MarkFields) (s : State) : State :=
  let old := (laneAt s l).expNum.getD 0
  let e := (laneAt s l).expPos.getD 0
  let out := adoptNumbering l e m f.number s
  let s1 := adoptPacer f.pacer out.1
  match out.2 with
  | some x =>
    rxLagHanded l false true (reportRenumbered l old f.number (some x.1)
      (s1.modLane l (Lane.adopt f.number old x.1 x.2)))
  | none => adoptFailed l old f.number (s1.modLane l (fun y => { y with lockAge := min 255 (y.lockAge + 1) }))

/-- A valid in-window mark of a LOCKED lane (R24 to R26). -/
def lockedMark (l : LaneNo) (m : Nat) (offset : Int) (f : MarkFields) (s : State) : State :=
  let x := laneAt s l
  if x.expNum = some f.number then expectedMark l offset s
  else if f.fresh ∨ x.cand.any (fun c => f.number == nextCycle c) then adoptLocked l m f s
  else missMark l (some f.number) true s

/-! ### COAST (R27) -/

/-- How many cycles from a lane's expected place the nearest expected place to a mark lies (R27): of two equally near
the later one (log entry 55). -/
def nearestCycles (m e : Nat) : Int := (placeDiff m e + 2560) / 5120

/-- The expected place nearest a mark (R27). -/
def nearestPlace (x : Lane) (m : Nat) : Nat :=
  let e := x.expPos.getD 0
  place e (nearestCycles m e * 5120)

/-- The reference number of a coasting lane for a mark (R27). -/
def referenceNumber (x : Lane) (m : Nat) : CycleNo :=
  x.expNum.getD 0 + BitVec.ofInt 8 (nearestCycles m (x.expPos.getD 0))

/-- A mark carries the reference number or one either side of it (R27). -/
def nearNumber (reference num : CycleNo) : Bool :=
  num == reference || num == reference + 1 || num + 1 == reference

/-- A coasting lane enters LOCKED (R27, R29): LANE_STATE. -/
def relock (l : LaneNo) (num : CycleNo) (lag : Int) (residue : Nat) (s : State) : State :=
  reportLane l .coast (s.modLane l (Lane.lockOn num lag residue))

/-- A coasting lane resumes (R27, R41): it re-phases the flywheel, or measures its offset. -/
def resumeLane (l : LaneNo) (m : Nat) (num : CycleNo) (s : State) : State :=
  let x := laneAt s l
  if s.timing.rephase ∧ s.timing.role = .following then
    handLock l false false (relock l num (x.lag.getD 0) (x.residue.getD 0) (rephaseOn l (nearestPlace x m) m num s))
  else
    match measure m num with
    | some y => handLock l false false (relock l num y.1 y.2 s)
    | none => loseLane l (s.modLane l (fun x => { x with lagOutOfRange := bump x.lagOutOfRange }))

/-- A coasting lane adopts a new numbering on a FRESH mark (R27, R30, R41); the timing unit takes it as the adoption of a
LOCKED lane (R35, log entry 85). -/
def adoptCoast (l : LaneNo) (m : Nat) (f : MarkFields) (s : State) : State :=
  let x := laneAt s l
  let old := referenceNumber x m
  let e := nearestPlace x m
  let out :=
    if s.timing.rephase ∧ s.timing.role = .following then
      (rephaseOn l e m f.number s, some (x.lag.getD 0, x.residue.getD 0))
    else adoptNumbering l e m f.number s
  let s1 := adoptPacer f.pacer out.1
  match out.2 with
  | some y =>
    handLock l false true (reportRenumbered l old f.number (some y.1) (relock l f.number y.1 y.2 s1))
  | none => adoptFailed l old f.number s1

/-- A coasting lane starts again from a mark of another numbering (R27, R29, R63). -/
def coastToConfirm (l : LaneNo) (m : Nat) (num : CycleNo) (s : State) : State :=
  slotsLost l (reportLane l .coast (s.modLane l (Lane.confirmFrom m num)))

/-- A valid mark found by a coasting lane (R27). -/
def coastMark (l : LaneNo) (m : Nat) (f : MarkFields) (s : State) : State :=
  if nearNumber (referenceNumber (laneAt s l) m) f.number then resumeLane l m f.number s
  else if f.fresh then adoptCoast l m f s
  else coastToConfirm l m f.number s

/-! ### The commands -/

/-- A CONFIRM lane's bad or missing verdict (R19, R21). -/
def confirmFailed (l : LaneNo) (bad : Bool) (s : State) : State :=
  s.modLane l (fun x => { x.unconfirm with badMarks := if bad then bump x.badMarks else x.badMarks })

/-- The place of a mark at an offset from the lane's expected position. -/
def markPlace (x : Lane) (offset : Int) : Nat := place (x.expPos.getD 0) offset

/-- A verdict on an expected position of a CONFIRM lane (R21). -/
def confirmVerdict (l : LaneNo) (v : Verdict) (s : State) : State :=
  match v with
  | .valid f offset word =>
    let m := markPlace (laneAt s l) offset
    confirmMark l m f.number (timingMark l m word f s)
  | .bad => confirmFailed l true (timingSilence l s)
  | .missing => confirmFailed l false (timingSilence l s)

/-- A verdict on an expected position of a LOCKED lane (R24 to R26). -/
def lockedVerdict (l : LaneNo) (v : Verdict) (s : State) : State :=
  match v with
  | .valid f offset word =>
    let m := markPlace (laneAt s l) offset
    lockedMark l m offset f (timingMark l m word f s)
  | .bad => missMark l none true (timingSilence l s)
  | .missing => missMark l none false (timingSilence l s)

/-- MARK_VERDICT (R18): only a CONFIRM or LOCKED lane has expected positions. -/
def execMarkVerdict (l : LaneNo) (w : Window) (s : State) : Host.Outcome State Fault Refusal :=
  run (fun s =>
    match (laneAt s l).state with
    | .confirm => confirmVerdict l (verdictOf l w) s
    | .locked => lockedVerdict l (verdictOf l w) s
    | .disabled => s
    | .hunt => s
    | .coast => s) s

/-- OPEN_SEARCH_MARK_FOUND (R18): a match that fails a test is discarded; only HUNT and COAST search openly. -/
def execOpenSearchMarkFound (l : LaneNo) (cycle : CycleNo) (bit : Nat) (word : BitVec 64) (s : State) :
    Host.Outcome State Fault Refusal :=
  run (fun s =>
    let m := cycleStart cycle + bit
    match (laneAt s l).state, readMark l word with
    | .hunt, some f => (timingMark l m word f s).modLane l (Lane.confirmFrom m f.number)
    | .coast, some f => coastMark l m f (timingMark l m word f s)
    | _, _ => s) s

/-- COAST_TIME_EXPIRY (R27). -/
def execCoastTimeExpiry (l : LaneNo) (s : State) : Host.Outcome State Fault Refusal :=
  run (fun s =>
    if (laneAt s l).state = .coast ∧ (laneAt s l).coast = Config.coastLimit then loseLane l s else s) s

end Sys2Proof.Machine
end

