-- ==== Sys2Proof/Machine/Startup.lean ====
section
/-! DEFINITION. The start-up loader (chapter 11): the reset pin, the record's reading and validation, attachment; and
what the passing of time does while no command waits (log entry 3). -/

namespace Sys2Proof.Machine

/-- The bytes the loader sends to the start-up memory in the read under way, before it takes the record (R165). -/
def Loader.sends (x : Loader) : List Byte := if x.reading then Config.readRequest else []

/-- RESET_PIN_ASSERTED (R163): everything in progress is cut off and every block takes its reset values. -/
def execResetPinAsserted (s : State) : Host.Outcome State Fault Refusal :=
  .next (resetAll .between false { s with pins := { s.pins with resetAsserted := true } })

/-- RESET_PIN_RELEASED (R163): the read of the start-up memory begins, and the client port works. -/
def execResetPinReleased (s : State) : Host.Outcome State Fault Refusal :=
  if s.pins.resetAsserted then
    .next (({ s with pins := { s.pins with resetAsserted := false } } : State).modLoader
      (fun x => { x with reading := true }))
  else .next s

/-- The lanes on entry to LISTENING (R17): those whose mask bit is set hunt. -/
def huntLanes (mask : BitVec 4) (s : State) : State :=
  allLanes.foldl (fun x l => if mask.getLsbD l.val then x.modLane l (fun y => { y with state := .hunt }) else x) s

/-- The roster's own entry becomes PRESENT (R57). -/
def ownPresent (id : StationId) (s : State) : State :=
  match rosterIx id with
  | none => s
  | some i => s.modRoster i (fun e => { e with present := true })

/-- Entry to LISTENING (R168). -/
def enterListening (rec : StartRecord) (s : State) : State :=
  (ownPresent rec.id (huntLanes rec.mask s)).modTiming (fun _ => { Timing.reset with role := .following }) |>.modLoader
    (fun x => { x with state := .listening, record := some rec, listenAge := 0 })

/-- The record is judged (R166): LISTENING, or FAILED with its reason. -/
def judgeRecord (record : Vector Byte 32) (s : State) : State :=
  match validate record with
  | .ok rec => enterListening rec s
  | .error reason => enterFailed reason (fun _ => .startFailed reason) s

/-- START_UP_RECORD_READ (R165): the 32nd byte of the read in progress. The count of bytes read stays 32 once no read is
in progress, until the next reset or RESTART (log entry 81). -/
def execStartUpRecordRead (record : Vector Byte 32) (s : State) : Host.Outcome State Fault Refusal :=
  run (fun s =>
    if s.loader.state = .loading ∧ s.loader.reading then
      judgeRecord record (s.modLoader (fun x => { x with bytesRead := 32, reading := false }))
    else s) s

/-- Attachment's condition (R169): the bus has been heard, or the timing unit paces. -/
def mayAttach (s : State) : Bool :=
  s.loader.state == .listening &&
    (s.timing.role == .pacing ||
      (decide (Config.listenTime ≤ s.loader.listenAge) &&
        allLanes.any (fun l => isLocked s l && decide (8 ≤ (laneAt s l).lockAge))))

/-- Entry to ATTACHED (R60, R169). -/
def attach (s : State) : State :=
  let s1 := report (.ready (ownId s) (cfg s).mask s.timing.role (numberIfPhased s)) s
  (s1.modNotice (fun n => { n with countdown := 4 * (ownId s).toNat })).modLoader
    (fun x => { x with state := .attached })

/-- ATTACHMENT (R169). -/
def execAttachment (s : State) : Host.Outcome State Fault Refusal :=
  run (fun s => if mayAttach s then attach s else s) s

/-! ### The passing of time -/

/-- One more byte of a frame leaves client output, where it is not the last byte of a block or of the frame. -/
def Stage.idle1 : Stage → Stage
  | .idle => .idle
  | .sending f left =>
    let stays := match f with
      | .data _ _ len =>
        let sent := len - min (left - 1) len
        decide (left ≤ 1) || (decide (0 < sent) && decide (sent % Config.blockBytes = 0))
      | _ => decide (left ≤ 1)
    if stays then .sending f left else .sending f (left - 1)

/-- The flywheel runs on by a number of bit times, as far as the end of its cycle (R33). -/
def Timing.pass (n : Nat) (t : Timing) : Timing := t.moveTo (max t.stands (min 5119 (t.stands + (n : Int))))

/-- The passing of time while no command waits (log entry 3): how far the flywheel, the read of the start-up memory and
client output come between two steps are free values. -/
def passTime (s : State) : State :=
  if s.pins.resetAsserted then s
  else
    { s with
      free := s.free + 1
      timing := if s.timing.role = .quiet then s.timing
        else s.timing.pass (Config.idleBits s.free)
      loader := if s.loader.reading ∧ s.loader.bytesRead < 31 ∧ Config.idleRecordByte s.free then
          { s.loader with bytesRead := s.loader.bytesRead + 1 } else s.loader
      port := if Config.idleOutputByte s.free then { s.port with stage := s.port.stage.idle1 } else s.port }

end Sys2Proof.Machine
end

