-- ==== Sys2Proof/Machine/Client.lean ====
section
/-! DEFINITION. The client port (chapter 10): client input, the command unit, the answers formed from the blocks'
state (12.3), and client output. -/

namespace Sys2Proof.Machine

/-! ### Client input (R146 to R148) -/

/-- The code and tag of a command queue entry (R148): none and 0 where the body is shorter than two bytes. -/
def CmdEntry.code (e : CmdEntry) : Byte := if e.len < 2 then 0 else e.bytes.getD 0 0

def CmdEntry.tag (e : CmdEntry) : Byte := if e.len < 2 then 0 else e.bytes.getD 1 0

/-- The first argument byte of a command (12.3). -/
def CmdEntry.arg1 (e : CmdEntry) : Byte := e.bytes.getD 2 0

/-- The second argument byte of a command (12.3). -/
def CmdEntry.arg2 (e : CmdEntry) : Byte := e.bytes.getD 3 0

/-- A command is fully received (R147, R148). -/
def commandReceived (e : CmdEntry) (s : State) : State :=
  let s1 := s.modPort (fun p => { p with outstanding := p.outstanding + 1 })
  if 8 ≤ s1.port.cmdQueue.length then
    respond (plainResponse e.code e.tag .queueFull) (s1.modPort (fun p => { p with queueFull := bump p.queueFull }))
  else s1.modPort (fun p => { p with cmdQueue := p.cmdQueue ++ [e] })

def setParse (x : Parse) (s : State) : State := s.modPort (fun p => { p with parse := x })

/-- The parse state with a number of payload bytes left (R146). -/
def dataParse (left : Nat) (dest : Option RecIx) : Parse := if left = 0 then .between else .data left dest

/-- A complete header of a DATA frame (R139, R146). -/
def dataHeader (ix : BitVec 4) (cls : Byte) (len : Nat) (s : State) : State :=
  let out := admitData ix.toNat len cls s
  setParse (dataParse len out.2) out.1

/-- A complete header of a COMMAND frame (R146). -/
def commandHeader (len : Nat) (s : State) : State :=
  if len = 0 then commandReceived { bytes := [], len := 0 } (setParse .between s) else setParse (.command len len []) s

/-- A complete header of a frame of unknown kind (R146). -/
def unknownHeader (len : Nat) (s : State) : State :=
  setParse (dataParse len none) (s.modPort (fun p => { p with unknownKind := bump p.unknownKind }))

/-- A complete header (R146). -/
def headerComplete (h : List Byte) (s : State) : State :=
  let first := h.getD 0 0
  let len := (h.getD 2 0).toNat * 256 + (h.getD 3 0).toNat
  if frameKind first = 1 then dataHeader (frameIndex first) (h.getD 1 0) len s
  else if frameKind first = 2 then commandHeader len s
  else unknownHeader len s

/-- A byte strobed while the hold is released (R146). -/
def takeByte (b : Byte) (s : State) : State :=
  match s.port.parse with
  | .between => setParse (.header [b]) s
  | .header held => if held.length < 3 then setParse (.header (held ++ [b])) s else headerComplete (held ++ [b]) s
  | .data left dest => setParse (dataParse (left - 1) dest) (payloadByte dest b (decide (left ≤ 1)) s)
  | .command left len kept =>
    let kept := if kept.length < 16 then kept ++ [b] else kept
    if left ≤ 1 then commandReceived { bytes := kept, len := len } (setParse .between s)
    else setParse (.command (left - 1) len kept) s

/-- A byte strobed against the hold (R147). -/
def heldByte (s : State) : State := s.modPort (fun p => { p with heldStrobes := bump p.heldStrobes })

/-- What a byte is, by the parse state it meets (R146). -/
inductive ByteRole where
  | dataFrameHeader | dataFrameLast | unknownKind | commandEnd | plain
  deriving DecidableEq, Repr

/-- What a byte is, by the parse state (R146). -/
def byteRole (s : State) : ByteRole :=
  match s.port.parse with
  | .between => .plain
  | .header held =>
    if held.length < 3 then .plain
    else if frameKind (held.getD 0 0) = 1 then .dataFrameHeader
    else if frameKind (held.getD 0 0) = 2 then .plain
    else .unknownKind
  | .data left _ => if left ≤ 1 then .dataFrameLast else .plain
  | .command left _ _ => if left ≤ 1 then .commandEnd else .plain

/-- A byte strobed on client input (R146, R147). -/
def inputByte (b : Byte) (s : State) : State := if inputHold s then heldByte s else takeByte b s

/-- CLIENT_INPUT_BYTE (R146): any byte (log entry 21). -/
def execClientInputByte (b : Byte) (s : State) : Host.Outcome State Fault Refusal := run (inputByte b) s

/-- A step that stands for one kind of byte: where the byte is not of that kind, nothing happens (log entry 21). -/
def byteAs (role : ByteRole) (b : Byte) (s : State) : State :=
  if byteRole s = role ∧ inputHold s = false then takeByte b s else s

/-- DATA_FRAME_HEADER (R139). -/
def execDataFrameHeader (b : Byte) (s : State) : Host.Outcome State Fault Refusal := run (byteAs .dataFrameHeader b) s

/-- DATA_FRAME_LAST_BYTE (R138). -/
def execDataFrameLastByte (b : Byte) (s : State) : Host.Outcome State Fault Refusal := run (byteAs .dataFrameLast b) s

/-- UNKNOWN_KIND_HEADER (R146). -/
def execUnknownKindHeader (b : Byte) (s : State) : Host.Outcome State Fault Refusal := run (byteAs .unknownKind b) s

/-- The last byte of a command frame: the fourth header byte of an empty one, or the last body byte (R146). -/
def endsCommand (b : Byte) (s : State) : Bool :=
  match s.port.parse with
  | .header held => held.length == 3 && frameKind (held.getD 0 0) == 2 && held.getD 2 0 == 0 && b == 0
  | .command left _ _ => decide (left ≤ 1)
  | .between => false
  | .data _ _ => false

/-- COMMAND_RECEIVED (R148). -/
def execCommandReceived (b : Byte) (s : State) : Host.Outcome State Fault Refusal :=
  run (fun s => if endsCommand b s ∧ inputHold s = false then takeByte b s else s) s

/-- HELD_STROBE (R147). -/
def execHeldStrobe (s : State) : Host.Outcome State Fault Refusal :=
  run (fun s => if inputHold s then heldByte s else s) s

/-! ### The command unit (R149) -/

/-- The number of argument bytes of a command code (12.3); none for an unknown code. -/
def argCount (code : Byte) : Option Nat :=
  match code.toNat with
  | 1 => some 2
  | 2 => some 2
  | 3 => some 2
  | 4 => some 2
  | 5 => some 1
  | 6 => some 1
  | 7 => some 2
  | 8 => some 0
  | 9 => some 0
  | 10 => some 1
  | 11 => some 0
  | _ => none

/-- The form test (R149). -/
def CmdEntry.formOk (e : CmdEntry) : Bool := decide (2 ≤ e.len) && (argCount e.code).any (fun n => e.len == 2 + n)

/-- The head of the command queue, where the command unit may take it (R149, R153). -/
def takeable (s : State) : Option CmdEntry := if s.port.restart then none else s.port.cmdQueue.head?

/-- The head leaves the command queue (R149). -/
def popCommand (s : State) : State := s.modPort (fun p => { p with cmdQueue := p.cmdQueue.drop 1 })

/-- The command unit takes a head of a given code (R149): the state test, then the command's own meaning. -/
def command (code : Byte) (everyState : Bool) (body : CmdEntry → State → State) (s : State) : State :=
  match takeable s with
  | none => s
  | some e =>
    if e.formOk ∧ e.code = code then
      if everyState ∨ attached s then body e (popCommand s)
      else respond (plainResponse code e.tag .notReady) (popCommand s)
    else s

/-- UNKNOWN_COMMAND (R149): a head that fails the form test. -/
def execUnknownCommand (s : State) : Host.Outcome State Fault Refusal :=
  run (fun s =>
    match takeable s with
    | none => s
    | some e => if e.formOk then s else respond (plainResponse e.code e.tag .badArg) (popCommand s)) s

/-- OPEN (R79). -/
def execCmdOpen (s : State) : Host.Outcome State Fault Refusal :=
  run (command 1 false (fun e => cmdOpen e.tag e.arg1 e.arg2)) s

/-- GROW (R84). -/
def execCmdGrow (s : State) : Host.Outcome State Fault Refusal :=
  run (command 2 false (fun e => cmdGrow e.tag e.arg1 e.arg2)) s

/-- SHRINK (R88). -/
def execCmdShrink (s : State) : Host.Outcome State Fault Refusal :=
  run (command 3 false (fun e => cmdShrink e.tag e.arg1 e.arg2)) s

/-- DROP (R88). -/
def execCmdDrop (s : State) : Host.Outcome State Fault Refusal :=
  run (command 4 false (fun e => cmdDrop e.tag e.arg1 e.arg2)) s

/-- CLOSE (R95). -/
def execCmdClose (s : State) : Host.Outcome State Fault Refusal :=
  run (command 5 false (fun e => cmdClose e.tag e.arg1)) s

/-- DISMISS (R124). -/
def execCmdDismiss (s : State) : Host.Outcome State Fault Refusal :=
  run (command 6 false (fun e => cmdDismiss e.tag e.arg1)) s

/-! ### TRUNK_STATUS (R151, 12.3) -/

/-- A count byte and the entries' bytes. -/
def listBytes {α : Type} (xs : List α) (f : α → List Byte) : List Byte := byteOf xs.length :: xs.flatMap f

/-- The pending change, 10 bytes (12.3). A byte that its kind gives no value, and the command tag where there is none,
is 0 (log entry 73). -/
def changeBytes : Option Change → List Byte
  | none => 0xFF :: List.replicate 9 0
  | some c =>
    [c.kind.code, byteOf c.arg, c.phase.code] ++ wordOfWait c.deadline ++
      [byteOfFlag c.cmd.isSome, c.cmd.getD 0, byteOf c.late, byteOf c.added,
       match c.kind, c.reason with
       | .closeAbort, some r => r.code
       | _, _ => 0]

/-- The last tally, 8 bytes (12.3). The skew and delineator LOCKED flags of one that is absent, or that has taken no TALLY
yet, are 0: the model's choice (log entry 89). -/
def tallyBytes : Option LastTally → List Byte
  | none => [0xFF, 0xFF, 0xFF, 0, 0, 0, 0, 0xFF]
  | some t =>
    match t.info with
    | none => wordOf t.age ++ [0xFF, 0, 0, 0, 0, 0xFF]
    | some i =>
      wordOf t.age ++ [i.echo.setWidth 8] ++ bytes16 i.good ++
        [byteOfFlag i.skew, byteOfFlag i.delinLocked, i.width.setWidth 8]

/-- An epoch that may be none, in one byte (12.3). -/
def byteOfEpoch (e : Option Epoch) : Byte :=
  match e with
  | some x => x.setWidth 8
  | none => 0xFF

/-- The newest frame of a transmit queue is FILLING (R144). -/
def filling (q : List TxFrame) : Bool := q.getLast?.any (fun f => !f.complete)

/-- The fields of a transmit record (12.3). -/
def txStatus (t : RecIx) (s : State) : List Byte :=
  let r := txAt s t
  [r.state.code, r.tag.setWidth 8, byteOfId r.sink, r.epoch.setWidth 8, byteOfFlag r.due, byteOfEpoch r.lastEcho,
   byteOf r.width, byteOf r.initWidth, byteOf r.attempt] ++ wordOfWait r.offerWait ++ [byteOfFlag r.silent] ++
    listBytes r.members.zipIdx (fun p => [byteOf p.1.slot.val, byteOf p.2, p.1.role.code, byteOf p.1.restore]) ++
    changeBytes r.change ++ tallyBytes r.lastTally ++ wordOf (vget s.buf.txUse t) ++
    wordOf (vget s.buf.txQueue t).length ++ [byteOfFlag (filling (vget s.buf.txQueue t))]

/-- The dismiss pending, 4 bytes (12.3). -/
def dismissBytes : Option DismissPending → List Byte
  | none => [0, 0, 0, 0]
  | some d => [1, d.tag] ++ wordOf d.deadline

/-- A tag that may be none, in one byte (12.3). -/
def byteOfTag (t : Option Tag) : Byte :=
  match t with
  | some x => x.setWidth 8
  | none => 0xFF

/-- The fields of a receive record (12.3); the trunk skew in one byte (log entry 20). -/
def rxStatus (r : RecIx) (s : State) : List Byte :=
  let e := rxAt s r
  [e.state.code, byteOfId e.source, byteOfTag e.tag, e.epochSeen.setWidth 8, e.widthSeen.setWidth 8, byteOf e.skew] ++
    listBytes e.view (fun x =>
      [byteOf x.slot.val, x.seq.setWidth 8, x.role.code.setWidth 8, x.health.code, UncleanReason.code x.reason]) ++
    [e.delin.state.code] ++ dismissBytes e.dismiss ++ wordOf (vget s.buf.rxUse r) ++
    wordOf (vget s.buf.rxQueue r).length

/-- A DONE response with its result bytes (R154). -/
def doneResponse (code tag : Byte) (result : List Byte) : Response where
  code := code
  tag := tag
  outcome := .done
  result := result

/-- The TRUNK_STATUS command (R151). -/
def cmdTrunkStatus (cmd dir ix : Byte) (s : State) : State :=
  let head := [s.loader.state.code, s.loader.reason.code, s.loader.reason.fieldNumber, dir, ix]
  match recOf ix.toNat with
  | none => respond (plainResponse 7 cmd .badArg) s
  | some r =>
    if dir = 0 then respond (doneResponse 7 cmd (head ++ txStatus r s)) s
    else if dir = 1 then respond (doneResponse 7 cmd (head ++ rxStatus r s)) s
    else respond (plainResponse 7 cmd .badArg) s

/-- TRUNK_STATUS (R151). -/
def execCmdTrunkStatus (s : State) : Host.Outcome State Fault Refusal :=
  run (command 7 true (fun e => cmdTrunkStatus e.tag e.arg1 e.arg2)) s

/-! ### ROSTER and SLOTS (R151) -/

/-- A PRESENCE body, FFh each where there is none (12.3). -/
def presenceBytes : Option PresenceBody → List Byte
  | some b => [b.owned.setWidth 8, b.tx.setWidth 8, b.rx.setWidth 8]
  | none => [0xFF, 0xFF, 0xFF]

/-- One item of the ROSTER response (12.3): this station's own body is formed from its own counts (R57). -/
def rosterItem (s : State) (id : Nat) (e : RosterEntry) : List Byte :=
  let station : StationId := BitVec.ofNat 6 id
  [byteOfFlag e.present] ++ wordOf e.age ++ [HeardBy.code e.heardBy, byteOfFlag (pacingFlag s station)] ++
    presenceBytes (if station = ownId s then some (ownPresence s) else e.body)

/-- The result of ROSTER (R151). -/
def rosterBytes (s : State) : List Byte := (vlist s.roster).zipIdx.flatMap (fun p => rosterItem s (p.2 + 1) p.1)

/-- ROSTER (R151). -/
def execCmdRoster (s : State) : Host.Outcome State Fault Refusal :=
  run (command 8 false (fun e s => respond (doneResponse 8 e.tag (rosterBytes s)) s)) s

/-- An assignment's record index and sequence (12.3). -/
def assignBytes : Assignment → List Byte
  | .none => [0xFF, 0xFF]
  | .spare t => [byteOf t.val, 0xFF]
  | .member t seq => [byteOf t.val, byteOf seq]

/-- One item of the SLOTS response (12.3). -/
def slotItem (r : SlotRec) : List Byte :=
  [r.state.code, byteOfId r.owner] ++ assignBytes r.assign ++ [r.headerErrors]

/-- The result of SLOTS (R151). -/
def slotsBytes (s : State) : List Byte := (vlist s.slots.recs).flatMap slotItem

/-- SLOTS (R151). -/
def execCmdSlots (s : State) : Host.Outcome State Fault Refusal :=
  run (command 9 false (fun e s => respond (doneResponse 9 e.tag (slotsBytes s)) s)) s

/-! ### COUNTERS (R152) -/

def laneCounters (x : Lane) : List Byte :=
  [x.state.code, byteOfLag x.lag] ++ bytes16 x.badMarks ++ bytes16 x.headerErrors ++ bytes16 x.noticeErrors ++
    bytes16 x.lagOutOfRange

def noticeCounters (n : NoticeUnit) : List Byte :=
  (vlist n.unknownKind).flatMap bytes16 ++ bytes16 n.declineFull ++ bytes16 n.declineExpired

def slotCounters (u : SlotUnit) : List Byte :=
  bytes16 u.won ++ bytes16 u.lost ++ bytes16 u.abandoned ++ bytes16 u.seizures ++ bytes16 u.laneLosses

def txCounters (r : TxRec) : List Byte :=
  bytes16 r.framesSent ++ bytes16 r.discNotOpen ++ bytes16 r.discFull ++ bytes16 r.discLength ++ bytes16 r.epochs ++
    bytes16 r.shuns ++ bytes16 r.restores

def rxCounters (e : RxRec) : List Byte :=
  bytes16 e.consistent ++ bytes16 e.faults ++ bytes16 e.realigns ++ bytes16 e.badChecks ++ bytes16 e.delivered ++
    bytes16 e.dropped

def bufCounters (b : Buffers) : List Byte :=
  bytes16 b.unnamed ++ bytes16 b.flushed ++ wordOf b.txFree ++ wordOf b.rxFree

def portCounters (p : Port) : List Byte :=
  bytes16 p.unknownKind ++ bytes16 p.heldStrobes ++ bytes16 p.queueFull ++ bytes16 p.reportsLost

/-- The result of COUNTERS, in the order of R152. -/
def countersBytes (s : State) : List Byte :=
  (vlist s.lanes).flatMap laneCounters ++ noticeCounters s.notice ++ slotCounters s.slots ++
    (vlist s.tx).flatMap txCounters ++ (vlist s.rx.recs).flatMap rxCounters ++ bytes16 s.rx.straysDismissed ++
    bytes16 s.rx.straysIgnored ++ bufCounters s.buf ++ portCounters s.port ++ [s.loader.state.code] ++
    s.loader.reason.bytes

/-- Every counter listed in R152 is set to 0, with the header error count of every slot record. -/
def clearCounters (s : State) : State :=
  { s with
    lanes := vmap (fun x => { x with badMarks := 0, headerErrors := 0, noticeErrors := 0, lagOutOfRange := 0 }) s.lanes
    notice := { s.notice with unknownKind := Vector.replicate 4 0, declineFull := 0, declineExpired := 0 }
    slots := { s.slots with recs := vmap (fun r => { r with headerErrors := 0 }) s.slots.recs
                            won := 0, lost := 0, abandoned := 0, seizures := 0, laneLosses := 0 }
    tx := vmap (fun r => { r with framesSent := 0, discNotOpen := 0, discFull := 0, discLength := 0, epochs := 0
                                  shuns := 0, restores := 0 }) s.tx
    rx := { s.rx with recs := vmap (fun e => { e with consistent := 0, faults := 0, realigns := 0, badChecks := 0
                                                      delivered := 0, dropped := 0 }) s.rx.recs
                      straysDismissed := 0, straysIgnored := 0 }
    buf := { s.buf with unnamed := 0, flushed := 0 }
    port := { s.port with unknownKind := 0, heldStrobes := 0, queueFull := 0, reportsLost := 0 } }

/-- The COUNTERS command (R152): the response holds the counts up to the moment of clearing. -/
def cmdCounters (cmd clear : Byte) (s : State) : State :=
  if clear = 0 then respond (doneResponse 10 cmd (countersBytes s)) s
  else if clear = 1 then respond (doneResponse 10 cmd (countersBytes s)) (clearCounters s)
  else respond (plainResponse 10 cmd .badArg) s

/-- COUNTERS (R152). -/
def execCmdCounters (s : State) : Host.Outcome State Fault Refusal :=
  run (command 10 true (fun e => cmdCounters e.tag e.arg1)) s

/-- RESTART (R153). -/
def execCmdRestart (s : State) : Host.Outcome State Fault Refusal :=
  run (command 11 true (fun e s =>
    respond (plainResponse 11 e.tag .restarting) (s.modPort (fun p => { p with restart := true })))) s

/-! ### Client output (R158, R159) -/

/-- CLIENT_OUTPUT_HOLD_RELEASED (R158). -/
def execClientOutputHoldReleased (s : State) : Host.Outcome State Fault Refusal :=
  .next (choose { s with pins := { s.pins with outHold := false } })

/-- CLIENT_OUTPUT_HOLD_ASSERTED (R158): a frame being sent goes on to its end. -/
def execClientOutputHoldAsserted (s : State) : Host.Outcome State Fault Refusal :=
  .next { s with pins := { s.pins with outHold := true } }

/-- The output stage becomes IDLE at a frame's end (R159). -/
def stageIdle (s : State) : State := s.modPort (fun p => { p with stage := .idle })

/-- A RESTART takes effect (R153, R164): the client-input parse state is left as it is (R146). -/
def restart (s : State) : State := resetAll s.port.parse.dropFrame true s

/-- The last byte of a response leaves (R147, R159): the outstanding count falls; RESTARTING takes effect. -/
def responseSent (r : Response) (s : State) : State :=
  if r.outcome = .restarting then restart s
  else choose ((stageIdle s).modPort (fun p => { p with outstanding := p.outstanding - 1 }))

/-- RESPONSE_SENT (R159). -/
def execResponseSent (s : State) : Host.Outcome State Fault Refusal :=
  run (fun s =>
    match s.port.stage with
    | .sending (.response r) _ => responseSent r s
    | _ => s) s

/-- The last byte of a report leaves (R156): for DISCARD the index's flag is cleared. -/
def reportSent (r : Report) (s : State) : State :=
  let s1 := match r with
    | .discard ix _ _ _ => clearFlag ix s
    | _ => s
  choose (stageIdle s1)

/-- REPORT_SENT (R156). -/
def execReportSent (s : State) : Host.Outcome State Fault Refusal :=
  run (fun s =>
    match s.port.stage with
    | .sending (.report r) _ => reportSent r s
    | _ => s) s

/-- The payload bytes of a frame of which so many bytes are due that have left once its current block has (R143). -/
def blockEnd (len left : Nat) : Nat :=
  min len (((len - min left len) / Config.blockBytes + 1) * Config.blockBytes)

/-- RECEIVE_BLOCK_SENT (R143). -/
def execReceiveBlockSent (s : State) : Host.Outcome State Fault Refusal :=
  run (fun s =>
    match s.port.stage with
    | .sending (.data r cls len) left =>
      if left = 0 then s
      else (blockSent r s).modPort (fun p => { p with stage := .sending (.data r cls len) (len - blockEnd len left) })
    | _ => s) s

/-- The last byte of a receive frame leaves (R125, R143, R159); a block of it not yet returned returns (log entry 22).
-/
def dataSent (r : RecIx) (len left : Nat) (s : State) : State :=
  let s1 := (returnRx r (blocksLeft len left) s).modBuf (fun b =>
    { b with rxQueue := vmod b.rxQueue r (fun q => q.drop 1) })
  let s2 := s1.modRx r (fun e => { e with delivered := bump e.delivered })
  choose (stageIdle (testVacant r s2))

/-- DATA_FRAME_SENT (R143); a frame ended with padding is not counted (R161). -/
def execDataFrameSent (s : State) : Host.Outcome State Fault Refusal :=
  run (fun s =>
    match s.port.stage with
    | .sending (.data r _ len) left => dataSent r len left s
    | .sending .padding _ => choose (stageIdle s)
    | _ => s) s

end Sys2Proof.Machine
end

