-- ==== Sys2Proof/Machine/Dispatch.lean ====
section
/-! DEFINITION. The meaning of each command: one arm for each constructor of Instr. -/

namespace Sys2Proof.Machine

def exec (i : Instr) (s : State) : Host.Outcome State Fault Refusal :=
  match i with
  | .resetPinAsserted => Sys2Proof.Machine.execResetPinAsserted s
  | .resetPinReleased => Sys2Proof.Machine.execResetPinReleased s
  | .startUpRecordRead a => Sys2Proof.Machine.execStartUpRecordRead a s
  | .flywheelCycleStart => Sys2Proof.Machine.execFlywheelCycleStart s
  | .markVerdict a b => Sys2Proof.Machine.execMarkVerdict a b s
  | .openSearchMarkFound a b c d => Sys2Proof.Machine.execOpenSearchMarkFound a b c d s
  | .markOutcome a b => Sys2Proof.Machine.execMarkOutcome a b s
  | .electionWaitExpiry => Sys2Proof.Machine.execElectionWaitExpiry s
  | .coastTimeExpiry a => Sys2Proof.Machine.execCoastTimeExpiry a s
  | .quietCountLimit => Sys2Proof.Machine.execQuietCountLimit s
  | .listenTimeExpiry => Sys2Proof.Machine.execListenTimeExpiry s
  | .attachment => Sys2Proof.Machine.execAttachment s
  | .noticePositionStart a b c => Sys2Proof.Machine.execNoticePositionStart a b c s
  | .noticeOutcome a b => Sys2Proof.Machine.execNoticeOutcome a b s
  | .noticeArrival a b c d => Sys2Proof.Machine.execNoticeArrival a b c d s
  | .slotArrival a b c d => Sys2Proof.Machine.execSlotArrival a b c d s
  | .slotHeaderOutcome a b c => Sys2Proof.Machine.execSlotHeaderOutcome a b c s
  | .trunkCycleFormation a b => Sys2Proof.Machine.execTrunkCycleFormation a b s
  | .barCountdownExpiry a => Sys2Proof.Machine.execBarCountdownExpiry a s
  | .rosterAgeExpiry a => Sys2Proof.Machine.execRosterAgeExpiry a s
  | .presenceCountdownExpiry => Sys2Proof.Machine.execPresenceCountdownExpiry s
  | .strayEntryExpiry a b => Sys2Proof.Machine.execStrayEntryExpiry a b s
  | .claimWaitExpiry => Sys2Proof.Machine.execClaimWaitExpiry s
  | .offerWaitExpiry a => Sys2Proof.Machine.execOfferWaitExpiry a s
  | .probeWaitExpiry a => Sys2Proof.Machine.execProbeWaitExpiry a s
  | .confirmWaitExpiry a => Sys2Proof.Machine.execConfirmWaitExpiry a s
  | .closeWaitExpiry a => Sys2Proof.Machine.execCloseWaitExpiry a s
  | .sinkSilenceExpiry a => Sys2Proof.Machine.execSinkSilenceExpiry a s
  | .sinkLossExpiry a => Sys2Proof.Machine.execSinkLossExpiry a s
  | .tallyTimerExpiry a => Sys2Proof.Machine.execTallyTimerExpiry a s
  | .declineEntryExpiry a => Sys2Proof.Machine.execDeclineEntryExpiry a s
  | .dismissDeadlineExpiry a => Sys2Proof.Machine.execDismissDeadlineExpiry a s
  | .dataFrameHeader a => Sys2Proof.Machine.execDataFrameHeader a s
  | .dataFrameLastByte a => Sys2Proof.Machine.execDataFrameLastByte a s
  | .unknownKindHeader a => Sys2Proof.Machine.execUnknownKindHeader a s
  | .heldStrobe => Sys2Proof.Machine.execHeldStrobe s
  | .commandReceived a => Sys2Proof.Machine.execCommandReceived a s
  | .unknownCommand => Sys2Proof.Machine.execUnknownCommand s
  | .cmdOpen => Sys2Proof.Machine.execCmdOpen s
  | .cmdGrow => Sys2Proof.Machine.execCmdGrow s
  | .cmdShrink => Sys2Proof.Machine.execCmdShrink s
  | .cmdDrop => Sys2Proof.Machine.execCmdDrop s
  | .cmdClose => Sys2Proof.Machine.execCmdClose s
  | .cmdDismiss => Sys2Proof.Machine.execCmdDismiss s
  | .cmdTrunkStatus => Sys2Proof.Machine.execCmdTrunkStatus s
  | .cmdRoster => Sys2Proof.Machine.execCmdRoster s
  | .cmdSlots => Sys2Proof.Machine.execCmdSlots s
  | .cmdCounters => Sys2Proof.Machine.execCmdCounters s
  | .cmdRestart => Sys2Proof.Machine.execCmdRestart s
  | .clientOutputHoldReleased => Sys2Proof.Machine.execClientOutputHoldReleased s
  | .clientOutputHoldAsserted => Sys2Proof.Machine.execClientOutputHoldAsserted s
  | .responseSent => Sys2Proof.Machine.execResponseSent s
  | .reportSent => Sys2Proof.Machine.execReportSent s
  | .receiveBlockSent => Sys2Proof.Machine.execReceiveBlockSent s
  | .dataFrameSent => Sys2Proof.Machine.execDataFrameSent s
  | .clientInputByte a => Sys2Proof.Machine.execClientInputByte a s
  | .claimCycleNotDriven a b => Sys2Proof.Machine.execClaimCycleNotDriven a b s

end Sys2Proof.Machine
end

