-- ==== Sys2Proof/Safety.lean ====
section
/-! DEFINITION. What counts as a safe run, in the terms the statements use: the loader's states, the account of commands
and answers (R147, R149, R154), the bound of the report queue (R155), and a station that is not running (R163, R167). -/

namespace Sys2Proof.Machine

/-- The station is running: its lanes are received (R163, R167, R168). -/
def State.Running (s : State) : Prop := s.loader.state = .listening ∨ s.loader.state = .attached

/-! ### Commands and their answers -/

/-- 1 while a response is being sent, 0 else (R159). -/
def Stage.replying : Stage → Nat
  | .sending (.response _) _ => 1
  | _ => 0

/-- The answers a port owes for commands already taken: in flight or formed (R149, R154). -/
def Port.owed (p : Port) : Nat := p.inFlight.length + p.responses.length

/-- Every command counted as outstanding is in one place: in the command queue, in flight, answered and queued, or
answered and being sent; and the counts keep their limits (R147, R148). -/
def State.CommandsKept (s : State) : Prop :=
  s.port.outstanding = s.port.cmdQueue.length + s.port.owed + s.port.stage.replying ∧
    s.port.outstanding ≤ 24 ∧ s.port.cmdQueue.length ≤ 8

/-! ### The report queue -/

/-- At most 31 ordinary entries and one REPORTS_LOST (R155). -/
def reportsOk (rs : List Report) : Bool := decide (ordinaryCount rs ≤ 31) && decide (rs.countP Report.isLost ≤ 1)

/-- The report queue keeps its bound (R155). -/
def State.ReportsBounded (s : State) : Prop :=
  ordinaryCount s.port.reports ≤ 31 ∧ s.port.reports.countP Report.isLost ≤ 1

/-! ### A station that is not running -/

/-- Lanes DISABLED, timing unit QUIET, no notice, no slot known, no trunk (R163, R167). -/
def State.Still (s : State) : Prop :=
  (∀ l, (laneAt s l).state = .disabled ∧ (laneAt s l).emitted = none) ∧ s.timing.role = .quiet ∧
    s.notice.queue = [] ∧ (∀ l, vget s.notice.offers l = none) ∧
    (∀ a, (slotAt s a).state = .unseen) ∧ s.slots.queue = [] ∧
    (∀ t, (txAt s t).state = .vacant) ∧ (∀ r, (rxAt s r).state = .vacant) ∧ s.rx.strays = []

/-- The station runs or is still. -/
def State.StillUnlessRunning (s : State) : Prop := s.Running ∨ s.Still

end Sys2Proof.Machine
end

