-- ==== Sys2Proof/Certificates/Slice0/Obligations.lean ====
section
/-! DEFINITION. The statements. `settle` is the arbiter's choice at the end of an event: what it does is the statement
ArbiterTakesTheOldestOfTheFirstReadyKind. Log entries are those of notes/assumptions/. A clause of no effect (a step whose
conditions do not hold answers the state as it was, settled) is the model's own, log entry 1, wherever it stands; each
docstring of a statement that holds one says "no effect elsewhere (log entry 1)". -/

open Sys2Proof Sys2Proof.Machine

namespace Sys2Proof.Machine

/-- The port after a response joins the end of the response queue (R154). -/
def Port.withResponse (p : Port) (r : Response) : Port := { p with responses := p.responses ++ [r] }

end Sys2Proof.Machine

/-! ### The queue, and what every command keeps -/

/-- A step with a command at the front of the queue is that command on the state with the queue's rest. -/
def Obligations.StepRunsTheFrontCommand : Prop :=
  ∀ (c : Instr) (rest : List Instr) (s : State),
    step { s with pending := c :: rest } = exec c { s with pending := rest }

/-- With no command waiting, time passes (the model's choice, log entry 3): nothing in reset; else only the flywheel's
place in its cycle, the count of record bytes read and the bytes left of a frame being sent may move, by free values.
The flywheel never runs past bit 5119; what a trim has moved it past an end of its cycle is kept beside its position
(log entry 7). -/
def Obligations.IdleStepPassesTime : Prop :=
  ∀ s : State, s.pending = [] →
    (s.pins.resetAsserted = true → step s = .next s) ∧
    (s.pins.resetAsserted = false →
      ∃ (position bytes : Nat) (slip : Int) (stage : Stage),
        step s = .next { s with
          free := s.free + 1
          timing := { s.timing with position := position, slip := slip }
          loader := { s.loader with bytesRead := bytes }
          port := { s.port with stage := stage } } ∧
        (s.timing.role = .quiet → position = s.timing.position ∧ slip = s.timing.slip) ∧
        (s.timing.role ≠ .quiet → ∃ p : Int,
          s.timing.position + s.timing.slip ≤ p ∧ p ≤ max 5119 (s.timing.position + s.timing.slip) ∧
          (position : Int) = min 5119 (max 0 p) ∧ slip = p - position) ∧
        (bytes = s.loader.bytesRead ∨ s.loader.reading = true ∧ bytes = s.loader.bytesRead + 1 ∧ bytes ≤ 31) ∧
        (stage = s.port.stage ∨
          ∃ frame left, s.port.stage = .sending frame (left + 1) ∧ 1 ≤ left ∧ stage = .sending frame left))

/-- Every command answers a next state: the part has no fault that stops it (log entry 1). No command touches the queue
of waiting commands, and only its own pin command moves a pin. While the reset pin is asserted no command but those of
the pins themselves has an effect (R163). -/
def Obligations.EveryCommandAnswersANextState : Prop :=
  ∀ (c : Instr) (s : State), ∃ t : State, exec c s = .next t ∧ t.pending = s.pending ∧
    (c ≠ .resetPinAsserted → c ≠ .resetPinReleased → t.pins.resetAsserted = s.pins.resetAsserted) ∧
    (c ≠ .clientOutputHoldAsserted → c ≠ .clientOutputHoldReleased → t.pins.outHold = s.pins.outHold) ∧
    (s.pins.resetAsserted = true → c ≠ .resetPinAsserted → c ≠ .resetPinReleased →
      c ≠ .clientOutputHoldAsserted → c ≠ .clientOutputHoldReleased → t = s)

/-! ### Client output: the arbiter (R158) -/

/-- The settling after an event (R158): nothing begins while a frame is being sent or the hold is asserted; else the
oldest response, the oldest report, or the head frame of the first receive queue from the arbiter position on enters the
output stage. A response and a report ready together may go in either order (a free value, log entry 9). The hold line:
its assertion stops no frame; its release lets the arbiter choose, the response first. -/
def Obligations.ArbiterTakesTheOldestOfTheFirstReadyKind : Prop :=
  ∀ s : State,
    (s.port.stage ≠ .idle ∨ s.pins.outHold = true → settle s = s) ∧
    (s.port.stage = .idle → s.pins.outHold = false →
      (∀ r rest, s.port.responses = r :: rest → s.port.reports = [] →
        settle s = { s with port := { s.port with
          responses := rest, stage := .sending (.response r) r.frame.length } }) ∧
      (∀ q rest, s.port.responses = [] → s.port.reports = q :: rest →
        settle s = { s with port := { s.port with
          reports := rest, stage := .sending (.report q) q.frame.length } }) ∧
      (∀ r rs q qs, s.port.responses = r :: rs → s.port.reports = q :: qs →
        settle s = { s with free := s.free + 1, port := { s.port with
          responses := rs, stage := .sending (.response r) r.frame.length } } ∨
        settle s = { s with free := s.free + 1, port := { s.port with
          reports := qs, stage := .sending (.report q) q.frame.length } }) ∧
      (∀ (k : Nat) (i : RecIx) f rest, s.port.responses = [] → s.port.reports = [] → k < 8 →
        i = Fin.ofNat 8 (s.port.arb.val + k) →
        (∀ j < k, vget s.buf.rxQueue (Fin.ofNat 8 (s.port.arb.val + j)) = []) → vget s.buf.rxQueue i = f :: rest →
        settle s = { s with port := { s.port with
          arb := Fin.ofNat 8 (i.val + 1)
          stage := .sending (.data i f.cls f.data.length) (f.data.length + 4) } }) ∧
      (s.port.responses = [] → s.port.reports = [] → (∀ i, vget s.buf.rxQueue i = []) → settle s = s)) ∧
    exec .clientOutputHoldAsserted s = .next { s with pins := { s.pins with outHold := true } } ∧
    (s.port.stage ≠ .idle →
      exec .clientOutputHoldReleased s = .next { s with pins := { s.pins with outHold := false } }) ∧
    (∀ r rest, s.port.stage = .idle → s.port.responses = r :: rest →
      exec .clientOutputHoldReleased s = .next { s with
        pins := { s.pins with outHold := false }
        port := { s.port with responses := rest, stage := .sending (.response r) r.frame.length } }) ∧
    (s.port.stage = .idle → s.port.responses = [] →
      exec .clientOutputHoldReleased s = .next (settle { s with pins := { s.pins with outHold := false } }))

/-! ### Reset and start-up (chapter 11) -/

/-- The reset pin (R163, R165): its assertion gives every block its reset values, keeping only the hold line, the free
values and the queue of commands; its release begins the read of the start-up memory, for which the loader sends the
read command 03h and a 24-bit address of 0. No effect elsewhere (log entry 1). -/
def Obligations.ResetPin : Prop :=
  ∀ s : State,
    exec .resetPinAsserted s = .next { State.reset with
      loader := { State.reset.loader with reading := false }
      pins := { s.pins with resetAsserted := true }
      free := s.free
      pending := s.pending } ∧
    (s.pins.resetAsserted = true → exec .resetPinReleased s = .next { s with
      pins := { s.pins with resetAsserted := false }
      loader := { s.loader with reading := true } } ∧
      ({ s.loader with reading := true } : Loader).sends = [0x03, 0, 0, 0]) ∧
    (s.pins.resetAsserted = false → exec .resetPinReleased s = .next s)

/-- The values of reset: the loader (R163), the lanes with their counters (R17), the timing unit (R32), the notice unit
(R47, R60, R61), the roster (R57), the slot unit with its counters (R62, R67, R76), the transmit records with their
counters and encoders (R77, R103, R129), the receive records with their counters, alignment buffers, lane positions and
delineators (R105, R126, R132), the strays (R121), the buffers (R137, R140, R144) and the client port (R160, R162). That
the parcel place, which R132 gives no value outside LOCKED, is HEADER with no byte is the model's choice (log entry 72).
-/
def Obligations.ResetValues : Prop :=
  let s := State.reset
  (s.loader.state = .loading ∧ s.loader.bytesRead = 0 ∧ s.loader.record = none ∧ s.loader.listenAge = 0 ∧
    s.loader.reason = .none) ∧
  (∀ l, (laneAt s l).state = .disabled ∧ (laneAt s l).expNum = none ∧ (laneAt s l).expPos = none ∧
    (laneAt s l).confirm = 0 ∧ (laneAt s l).miss = 0 ∧ (laneAt s l).cand = none ∧ (laneAt s l).lag = none ∧
    (laneAt s l).residue = none ∧ (laneAt s l).lockAge = 0 ∧ (laneAt s l).coast = 0 ∧ (laneAt s l).badMarks = 0 ∧
    (laneAt s l).headerErrors = 0 ∧ (laneAt s l).noticeErrors = 0 ∧ (laneAt s l).lagOutOfRange = 0 ∧
    (laneAt s l).emitted = none) ∧
  (s.timing.role = .quiet ∧ s.timing.number = 0 ∧ s.timing.position = 0 ∧ s.timing.phased = false ∧
    s.timing.rephase = false ∧ s.timing.trim = none ∧ (∀ l, vget s.timing.silent l = 0) ∧ s.timing.quiet = 0 ∧
    s.timing.wait = 0 ∧ s.timing.fresh = 0 ∧ s.timing.pacer = none ∧ s.timing.slip = 0) ∧
  (s.notice.queue = [] ∧ (∀ l, vget s.notice.offers l = none) ∧ s.notice.countdown = 0 ∧
    (∀ l, vget s.notice.unknownKind l = 0) ∧ s.notice.declineFull = 0 ∧ s.notice.declineExpired = 0) ∧
  (∀ i, (vget s.roster i).present = false ∧ (vget s.roster i).age = 0 ∧ (vget s.roster i).heardBy = none ∧
    (vget s.roster i).body = none) ∧
  ((∀ a, (slotAt s a).state = .unseen ∧ (slotAt s a).owner = none ∧ (slotAt s a).claim = 0 ∧ (slotAt s a).quiet = 0 ∧
    (slotAt s a).bar = 0 ∧ (slotAt s a).assign = .none ∧ (slotAt s a).handed = false ∧ (slotAt s a).ownRun = 0 ∧
    (slotAt s a).headerErrors = 0) ∧ s.slots.queue = [] ∧ s.slots.won = 0 ∧ s.slots.lost = 0 ∧ s.slots.abandoned = 0 ∧
    s.slots.seizures = 0 ∧ s.slots.laneLosses = 0) ∧
  (∀ t, (txAt s t).state = .vacant ∧ (txAt s t).tag.toNat = t.val + 8 ∧ (txAt s t).sink = none ∧
    (txAt s t).epoch = 0 ∧ (txAt s t).due = false ∧ (txAt s t).lastEcho = none ∧ (txAt s t).members = [] ∧
    (txAt s t).initWidth = 0 ∧ (txAt s t).change = none ∧ (txAt s t).openCmd = none ∧ (txAt s t).attempt = 1 ∧
    (txAt s t).offerWait = none ∧ (txAt s t).lastTally = none ∧ (txAt s t).silent = false ∧
    (∀ i, vget (txAt s t).staging i = none) ∧ (txAt s t).enc = .between ∧ (txAt s t).framesSent = 0 ∧
    (txAt s t).discNotOpen = 0 ∧ (txAt s t).discFull = 0 ∧ (txAt s t).discLength = 0 ∧ (txAt s t).epochs = 0 ∧
    (txAt s t).shuns = 0 ∧ (txAt s t).restores = 0) ∧
  ((∀ r, (rxAt s r).state = .vacant ∧ (rxAt s r).source = none ∧ (rxAt s r).tag = none ∧ (rxAt s r).view = [] ∧
    (rxAt s r).epochSeen = 0 ∧ (rxAt s r).widthSeen = 0 ∧ (rxAt s r).skew = 0 ∧ (rxAt s r).next = none ∧
    (rxAt s r).tally = none ∧ (rxAt s r).dismiss = none ∧ (rxAt s r).delin.state = .hunt ∧
    (rxAt s r).delin.store = [] ∧ (rxAt s r).delin.cand = none ∧ (rxAt s r).delin.place = .header [] ∧
    (rxAt s r).delin.frame = none ∧ (∀ l, vget (rxAt s r).aligned l = none ∧ vget (rxAt s r).lanePos l = none) ∧
    (∀ i, vget (rxAt s r).align i = none) ∧ (rxAt s r).consistent = 0 ∧ (rxAt s r).faults = 0 ∧
    (rxAt s r).realigns = 0 ∧ (rxAt s r).badChecks = 0 ∧ (rxAt s r).delivered = 0 ∧ (rxAt s r).dropped = 0) ∧
    s.rx.strays = [] ∧ s.rx.straysDismissed = 0 ∧ s.rx.straysIgnored = 0) ∧
  (s.buf.txFree = 256 ∧ s.buf.rxFree = 256 ∧ (∀ t, vget s.buf.txQueue t = [] ∧ vget s.buf.rxQueue t = [] ∧
    vget s.buf.txUse t = 0 ∧ vget s.buf.rxUse t = 0) ∧ (∀ i, vget s.buf.flags i = false) ∧ s.buf.unnamed = 0 ∧
    s.buf.flushed = 0) ∧
  (s.port.parse = .between ∧ s.port.outstanding = 0 ∧ inputHold s = false ∧ s.port.cmdQueue = [] ∧
    s.port.inFlight = [] ∧ s.port.restart = false ∧ s.port.responses = [] ∧ s.port.reports = [] ∧
    s.port.stage = .idle ∧ s.port.arb = 0 ∧ s.port.unknownKind = 0 ∧ s.port.heldStrobes = 0 ∧ s.port.queueFull = 0 ∧
    s.port.reportsLost = 0)

/-- The tests of R166 in their order, each with its failure reason; the field tests numbered in the order R166 gives. -/
def recordTests (r : Vector Byte 32) : List (Bool × FailReason) :=
  let b := fun i => (recByte r i).toNat
  let w := fun i => (recByte r i).toNat * 256 + (recByte r (i + 1)).toNat
  let within := fun (n lo hi : Nat) => decide (lo ≤ n ∧ n ≤ hi)
  [(w 0 == 0x71C3, .marker), (b 2 == 1, .version),
   ((crc16 (((vlist r).take 30).flatMap bitsOf)).toNat == w 30, .check), (within (b 3) 1 62, .stationId),
   (within (b 4) 1 15, .laneMask), (within (b 5) 2 16, .field 1), (within (b 6) 8 64, .field 2),
   (within (b 7) 0 6, .field 3), (within (b 8) 1 48, .field 4), (within (w 9) 16 256, .field 5),
   (within (w 11) 16 256, .field 6), (within (b 13) 0 8, .field 7),
   ((List.range (b 13)).all (fun i => within (b (14 + i)) 1 62), .field 8)]

/-- The count that the response to a change carries (R150, log entry 34): the members added by a GROW, those a SHRINK
selects, the one of a DROP. -/
def resultCount (c : Change) : Nat :=
  match c.kind with
  | .grow => c.added
  | .shrink => c.arg
  | .drop => 1
  | .closeAbort => 0

/-- The state that enters FAILED from s (R167), with its loader record and its report given: every block takes its reset
values and keeps its counters (R17, R32, R47, R57, R61, R62, R76, R77, R105, R126, R137, R144, R162), and (R161)
commands in flight are answered ABORTED with the fields of R150 as their records held them (log entries 19 and 34), a
data frame being sent is ended with padding, one being received is dropped (R146), and the report follows, given the
padding's length. -/
def failedFrom (s : State) (loader : Loader) (rep : Nat → Report) : State :=
  { s with
    loader := loader
    lanes := vmap (fun x => { Lane.reset with
      badMarks := x.badMarks, headerErrors := x.headerErrors, noticeErrors := x.noticeErrors
      lagOutOfRange := x.lagOutOfRange }) s.lanes
    timing := Timing.reset
    notice := { NoticeUnit.reset with
      unknownKind := s.notice.unknownKind, declineFull := s.notice.declineFull
      declineExpired := s.notice.declineExpired }
    roster := Vector.replicate 62 RosterEntry.reset
    slots := { SlotUnit.reset with
      won := s.slots.won, lost := s.slots.lost, abandoned := s.slots.abandoned, seizures := s.slots.seizures
      laneLosses := s.slots.laneLosses }
    tx := Vector.ofFn (fun t : RecIx => { TxRec.reset (BitVec.ofNat 4 (t.val + 8)) with
      framesSent := (txAt s t).framesSent, discNotOpen := (txAt s t).discNotOpen, discFull := (txAt s t).discFull
      discLength := (txAt s t).discLength, epochs := (txAt s t).epochs, shuns := (txAt s t).shuns
      restores := (txAt s t).restores })
    rx := {
      recs := vmap (fun r => { RxRec.reset with
        consistent := r.consistent, faults := r.faults, realigns := r.realigns, badChecks := r.badChecks
        delivered := r.delivered, dropped := r.dropped }) s.rx.recs
      strays := [], straysDismissed := s.rx.straysDismissed, straysIgnored := s.rx.straysIgnored }
    buf := { Buffers.reset with unnamed := s.buf.unnamed, flushed := s.buf.flushed }
    port := ({ s.port with
      inFlight := []
      responses := s.port.responses ++ s.port.inFlight.map (fun e => {
        code := e.code
        tag := e.tag
        outcome := .aborted
        result := match e.record with
          | .tx k => [byteOf k.val, if e.code = 1 then (txAt s k).tag.setWidth 8 else 0xFF,
              byteOf (((txAt s k).change.map resultCount).getD 0), 0]
          | .rx k => [byteOf k.val, 0xFF, 0, 0] })
      stage := match s.port.stage with
        | .sending (.data _ _ _) left => .sending .padding left
        | x => x
      parse := match s.port.parse with
        | .data n _ => .data n none
        | p => p } : Port).post (rep (match s.port.stage with
          | .sending (.data _ _ _) left => left
          | _ => 0)) |>.1 }

/-- START_UP_RECORD_READ and validation (R166): the first test that fails gives the failure reason, and a record that
passes them all gives its fields. A record that passes brings LISTENING, with the lanes of its mask in HUNT and the
timing unit FOLLOWING, unphased; one that fails brings FAILED with START_FAILED (R167), as `failedFrom` says whole:
every block still, every counter kept, commands in flight answered ABORTED with the fields of R150 as their records held
them (R161, log entries 19 and 34), and data frames ended (R146). That the count of bytes read stays 32 once the read
has ended is the model's choice (log entry 81). -/
def Obligations.StartUpRecordIsJudgedInOrder : Prop :=
  (∀ r : Vector Byte 32,
    (∀ reason, ((recordTests r).find? (fun t => !t.1)).map Prod.snd = some reason → validate r = .error reason) ∧
    ((recordTests r).all (fun t => t.1) = true → ∃ rec, validate r = .ok rec ∧
      rec.id.toNat = (recByte r 3).toNat ∧ rec.mask.toNat = (recByte r 4).toNat ∧
      rec.electBase = (recByte r 5).toNat ∧ rec.tallyPeriod = (recByte r 6).toNat ∧
      rec.skewLimit = (recByte r 7).toNat ∧ rec.maxOwned = (recByte r 8).toNat ∧
      rec.txQuota = (recByte r 9).toNat * 256 + (recByte r 10).toNat ∧
      rec.rxQuota = (recByte r 11).toNat * 256 + (recByte r 12).toNat ∧
      rec.accept.map BitVec.toNat = (List.range (recByte r 13).toNat).map (fun i => (recByte r (14 + i)).toNat))) ∧
  (∀ (r : Vector Byte 32) (s : State), s.pins.resetAsserted = false → s.loader.state = .loading →
    s.loader.reading = true → ∃ t, exec (.startUpRecordRead r) s = .next (settle t) ∧
    (∀ rec, validate r = .ok rec →
      t.loader = { s.loader with
        state := .listening, bytesRead := 32, reading := false, record := some rec, listenAge := 0 } ∧
      (∀ l : LaneNo, laneAt t l = if rec.mask.getLsbD l.val then { laneAt s l with state := .hunt } else laneAt s l) ∧
      t.timing = { Timing.reset with role := .following } ∧
      (∀ i : Fin 62, vget t.roster i = if i.val + 1 = rec.id.toNat then { vget s.roster i with present := true }
        else vget s.roster i) ∧
      t.notice = s.notice ∧ t.slots = s.slots ∧ t.tx = s.tx ∧ t.rx = s.rx ∧ t.buf = s.buf ∧ t.port = s.port) ∧
    (∀ reason, validate r = .error reason →
      t = failedFrom s { s.loader with
        state := .failed, bytesRead := 32, reading := false, record := none, reason := reason }
        (fun _ => .startFailed reason) ∧
      t.Still ∧
      t.loader = { s.loader with
        state := .failed, bytesRead := 32, reading := false, record := none, reason := reason } ∧
      (∀ l : LaneNo, (laneAt t l).badMarks = (laneAt s l).badMarks ∧
        (laneAt t l).headerErrors = (laneAt s l).headerErrors ∧
        (laneAt t l).noticeErrors = (laneAt s l).noticeErrors ∧
        (laneAt t l).lagOutOfRange = (laneAt s l).lagOutOfRange) ∧
      t.buf = { Buffers.reset with unnamed := s.buf.unnamed, flushed := s.buf.flushed } ∧
      t.port.inFlight = [] ∧
      t.port.responses = s.port.responses ++ s.port.inFlight.map (fun e => {
        code := e.code
        tag := e.tag
        outcome := .aborted
        result := match e.record with
          | .tx k => [byteOf k.val, if e.code = 1 then (txAt s k).tag.setWidth 8 else 0xFF,
              byteOf (((txAt s k).change.map resultCount).getD 0), 0]
          | .rx k => [byteOf k.val, 0xFF, 0, 0] }) ∧
      (∀ r cls len left, s.port.stage = .sending (.data r cls len) left → t.port.stage = .sending .padding left) ∧
      ((∀ r cls len left, s.port.stage ≠ .sending (.data r cls len) left) → t.port.stage = s.port.stage) ∧
      t.port.parse = (match s.port.parse with
        | .data n _ => .data n none
        | p => p) ∧
      t.port.outstanding = s.port.outstanding ∧ t.port.cmdQueue = s.port.cmdQueue ∧ t.port.arb = s.port.arb ∧
      t.port.reports = (s.port.post (.startFailed reason)).1.reports))

/-- ATTACHMENT (R169): the loader attaches where the listen age is 256 with a lane LOCKED for 8 cycles, or the timing
unit paces; READY is posted, then the presence countdown is four times the station ID. No effect elsewhere, LISTENING or
not (log entry 1). -/
def Obligations.AttachmentPostsReady : Prop :=
  ∀ s : State, s.pins.resetAsserted = false →
    (s.loader.state ≠ .listening → exec .attachment s = .next (settle s)) ∧
    (s.loader.state = .listening → (s.timing.role = .pacing ∨
        s.loader.listenAge = 256 ∧ ∃ l, (laneAt s l).state = .locked ∧ 8 ≤ (laneAt s l).lockAge) →
      exec .attachment s = .next (settle { s with
        port := (s.port.post (.ready (ownId s) (cfg s).mask s.timing.role
          (if s.timing.phased then some s.timing.number else none))).1
        notice := { s.notice with countdown := 4 * (ownId s).toNat }
        loader := { s.loader with state := .attached } })) ∧
    (s.loader.state = .listening → s.timing.role ≠ .pacing →
        (s.loader.listenAge < 256 ∨ ∀ l, (laneAt s l).state = .locked → (laneAt s l).lockAge < 8) →
        exec .attachment s = .next (settle s))

/-! ### Cycle timing (chapter 3) -/

/-- FLYWHEEL_CYCLE_START (R33): the next flywheel cycle starts, and every flywheel-cycle timer and count advances by
one: the quiet count (R36), the election wait (R38), the ages of the roster (R59), the presence countdown (R60), the
bars (R65), the strays (R121) and the listen age (R168). A pacer emits one mark on every enabled lane (R42); with a
request in service the arbiter then looks (R68), before a bar that this start ends is judged, or another count that it
ends takes effect, each a later step: the model's choice (log entry 87). That a coasting lane's expected mark (R27)
advances at this moment is the model's reading (log entry 25), as are that its lock age does not rise (log entry 71),
the list of cycles declared live (log entry 28) and what a trim past the cycle's end leaves over (log entry 7). No
effect elsewhere (log entry 1). -/
def Obligations.FlywheelCycleStartAdvancesEveryTimer : Prop :=
  ∀ s : State, s.pins.resetAsserted = false →
    (¬ s.Running → exec .flywheelCycleStart s = .next (settle s)) ∧
    (s.Running → ∃ t,
      exec .flywheelCycleStart s = .next (settle (if (inService s).isSome then look t else t)) ∧
      t.timing = { s.timing with
        number := s.timing.number + 1
        position := t.timing.position
        slip := t.timing.slip
        live := s.timing.live.filter (fun c => decide ((c - (s.timing.number + 1)).toInt.natAbs ≤ 1))
        quiet := if s.timing.heard then s.timing.quiet else min 256 (s.timing.quiet + 1)
        heard := false
        wait := if s.timing.role = .electing then s.timing.wait - 1 else s.timing.wait
        fresh := if s.timing.role = .pacing then s.timing.fresh - 1 else s.timing.fresh } ∧
      (let past : Int := max 0 (s.timing.position + s.timing.slip - 5120)
       (t.timing.position : Int) = min 5119 past ∧ t.timing.slip = past - min 5119 past) ∧
      (∀ l, laneAt t l = { laneAt s l with
        coast := if (laneAt s l).state = .coast then min 96 ((laneAt s l).coast + 1) else (laneAt s l).coast
        expNum := if (laneAt s l).state = .coast then (laneAt s l).expNum.map (fun n => n + 1) else (laneAt s l).expNum
        expPos := if (laneAt s l).state = .coast then (laneAt s l).expPos.map (fun p => place p 5120)
          else (laneAt s l).expPos
        emitted := if s.timing.role = .pacing ∧ (laneAt s l).state ≠ .disabled then some {
            pos := cycleStart (s.timing.number + 1)
            word := encodeMark (ownId s) l (s.timing.number + 1) (decide (0 < s.timing.fresh))
            awaited := true
            cut := false }
          else (laneAt s l).emitted }) ∧
      (∀ i : Fin 62, vget t.roster i = if (vget s.roster i).present ∧ i.val + 1 ≠ (ownId s).toNat then
          { vget s.roster i with age := min 1024 ((vget s.roster i).age + 1) } else vget s.roster i) ∧
      t.notice = { s.notice with countdown := s.notice.countdown - 1 } ∧
      (∀ a, slotAt t a = if (slotAt s a).state = .barred then { slotAt s a with bar := (slotAt s a).bar - 1 }
        else slotAt s a) ∧
      t.slots.queue = s.slots.queue ∧
      t.rx = { s.rx with strays := s.rx.strays.map (fun y =>
        { y with quiet := min 16 (y.quiet + 1), spacing := y.spacing - 1 }) } ∧
      t.loader = { s.loader with listenAge := min 256 (s.loader.listenAge + 1) } ∧
      t.tx = s.tx ∧ t.buf = s.buf ∧ t.port = s.port)

/-- The timing record as ELECTING begins (R38). -/
def electingFrom (s : State) : Timing :=
  { s.timing with
    role := .electing
    wait := (cfg s).electBase + (ownId s).toNat
    silent := Vector.replicate 4 0
    quiet := 0
    fresh := 0
    trim := none }

/-- A state that has entered ELECTING (R38), with TIMING_ROLE (R46): the marks being emitted by a pacer and the offers
in progress are cut off, and no cycle formed before is sent again (R101, log entry 51). -/
def elected (s : State) : State :=
  { s with
    timing := electingFrom s
    lanes := if s.timing.role = .pacing then
        vmap (fun x => { x with emitted := x.emitted.map (fun e => { e with cut := e.cut || e.awaited }) }) s.lanes
      else s.lanes
    notice := { s.notice with offers := vmap (fun x => x.map (fun f => { f with cut := true })) s.notice.offers }
    tx := vmap (fun r => { r with
      staging := vmap (fun x => x.map (fun e => { e with stale := true })) r.staging }) s.tx
    port := (s.port.post (.timingRole s.timing.role .electing s.timing.pacer
      (if s.timing.phased then some s.timing.number else none))).1 }

/-- The pacer is lost (R37): FOLLOWING, phased, a lane is LOCKED, and every LOCKED lane has been silent for three
verdicts. -/
def PacerLost (s : State) : Prop :=
  s.timing.role = .following ∧ s.timing.phased = true ∧ (∃ l, (laneAt s l).state = .locked) ∧
    ∀ l, (laneAt s l).state = .locked → vget s.timing.silent l = 3

/-- A state after the test for loss of the pacer (R37). -/
def AfterLossTest (s t : State) : Prop := (PacerLost s → t = elected s) ∧ (¬ PacerLost s → t = s)

/-- Silence (R37, R45): with no lane LOCKED, at quiet count 3 (or more, log entry 76) of a phased flywheel or 256 of an
unphased one, the election begins (R38): its wait is ELECT_BASE plus the station ID, every silent run, the quiet count
and the FRESH countdown are cleared, there is no trim lane, TIMING_ROLE is posted, what is being driven is cut off, and
what was formed is not sent again (R101, the model's reading of it, log entry 51). A bad or missing verdict on a LOCKED
lane raises its silent run while FOLLOWING, and a lane that leaves LOCKED clears its own and, as trim lane, hands over
to the lowest LOCKED lane (R34): after each, three silent verdicts on every LOCKED lane bring the election. No effect
elsewhere (log entry 1). -/
def Obligations.SilenceBringsAnElection : Prop :=
  ∀ s : State,
    (s.pins.resetAsserted = false →
      (s.timing.role = .following → s.timing.phased = true → (∀ l, (laneAt s l).state ≠ .locked) →
        3 ≤ s.timing.quiet → exec .quietCountLimit s = .next (settle (elected s))) ∧
      (s.timing.role ≠ .following ∨ s.timing.phased = false ∨ (∃ l, (laneAt s l).state = .locked) ∨
        s.timing.quiet < 3 → exec .quietCountLimit s = .next (settle s)) ∧
      (s.timing.role = .following → s.timing.phased = false → 256 ≤ s.timing.quiet →
        exec .listenTimeExpiry s = .next (settle (elected s))) ∧
      (s.timing.role ≠ .following ∨ s.timing.phased = true ∨ s.timing.quiet < 256 →
        exec .listenTimeExpiry s = .next (settle s))) ∧
    (∀ l : LaneNo,
      (s.timing.role = .following → (laneAt s l).state = .locked →
        AfterLossTest { s with timing := { s.timing with
            silent := vset s.timing.silent l (min 3 (vget s.timing.silent l + 1)) } } (timingSilence l s)) ∧
      (s.timing.role ≠ .following ∨ (laneAt s l).state ≠ .locked → timingSilence l s = s) ∧
      AfterLossTest { s with timing := { s.timing with
          silent := vset s.timing.silent l 0
          trim := if s.timing.role = .following ∧ s.timing.trim = some l then
              allLanes.find? (fun k => (laneAt s k).state == .locked)
            else s.timing.trim } } (laneLeft l s))

/-- ELECTION_WAIT_EXPIRY (R40): the station paces, with the numbering continued, or 0 where the flywheel is unphased;
the first of its 16 FRESH marks is emitted on every enabled lane at once (R42). That TIMING_ROLE carries 0 where the
flywheel was unphased is the model's choice (R46, log entry 79). The cycle of a LOCKED lane whose expected position has
come stays undriven (R8, log entry 5; one that comes at this very instant too, log entry 54). No effect elsewhere (log
entry 1). -/
def Obligations.ElectionWaitExpiryBringsPacing : Prop :=
  ∀ s : State, s.pins.resetAsserted = false →
    (s.timing.role ≠ .electing ∨ s.timing.wait ≠ 0 → exec .electionWaitExpiry s = .next (settle s)) ∧
    (s.timing.role = .electing → s.timing.wait = 0 →
      let n := if s.timing.phased then s.timing.number else 0
      ∃ t, exec .electionWaitExpiry s = .next (settle t) ∧
        t.timing = { s.timing with
          role := .pacing, number := n, phased := true, fresh := 15, pacer := some (ownId s), rephase := false
          wait := 0
          live := if s.timing.phased then s.timing.live else s.timing.live.map (fun c => c + (0 - s.timing.number)) } ∧
        (∀ l, (laneAt t l).state = (laneAt s l).state ∧ (laneAt t l).expNum = (laneAt s l).expNum ∧
          (laneAt t l).lag = (laneAt s l).lag ∧
          ((laneAt s l).state ≠ .disabled → (laneAt t l).emitted = some {
            pos := cycleStart n, word := encodeMark (ownId s) l n true, awaited := true, cut := false }) ∧
          (∀ c p, (laneAt t l).state = .locked → (laneAt t l).expNum = some c → (laneAt t l).expPos = some p →
            (laneAt t l).r8Failed = some (if 0 ≤ placeDiff (cycleStart n) p then c else c - 1))) ∧
        t = { s with
          timing := t.timing
          lanes := t.lanes
          port := (s.port.post (.timingRole .electing .pacing (some (ownId s)) (some n))).1 })

/-- A state that has yielded to another pacer met on a lane (R43): FOLLOWING it with a re-phase pending, TIMING_ROLE
posted, and the marks being emitted on the other lanes cut off. -/
def Yielded (l : LaneNo) (pacer : StationId) (s t : State) : Prop :=
  t = { s with
    lanes := t.lanes
    timing := { s.timing with role := .following, fresh := 0, rephase := true, pacer := some pacer }
    port := (s.port.post (.timingRole .pacing .following (some pacer)
      (if s.timing.phased then some s.timing.number else none))).1 } ∧
  ∀ k, laneAt t k = if k = l then laneAt s k
    else { laneAt s k with emitted := (laneAt s k).emitted.map (fun e => { e with cut := e.cut || e.awaited }) }

/-- A live cycle (R36): every live-cycle timer advances by one: the decline entries' expiry (R51), the claim waits
(R71), the waits, deadlines and tally ages of the transmit records (R77, R93; that a tally age stops at 2048 is log
entry 32), and the tally timers and dismiss deadlines of the receive records (R119, R124). -/
def liveAdvanced (s : State) : State :=
  { s with
    notice := { s.notice with queue := s.notice.queue.map (fun e =>
      match e.owner with
      | .decline _ => { e with expiry := min 64 (e.expiry + 1) }
      | _ => e) }
    slots := { s.slots with queue := s.slots.queue.map (fun q => { q with wait := q.wait.map (fun n => n - 1) }) }
    tx := vmap (fun r => { r with
      offerWait := r.offerWait.map (fun n => n - 1)
      change := r.change.map (fun c => { c with deadline := c.deadline.map (fun n => n - 1) })
      members := r.members.map (fun m => { m with deadline := m.deadline - 1 })
      lastTally := if r.state = .opened then r.lastTally.map (fun x => { x with age := min 2048 (x.age + 1) })
        else r.lastTally }) s.tx
    rx := { s.rx with recs := vmap (fun e => { e with
      tally := e.tally.map (fun n => n - 1)
      dismiss := e.dismiss.map (fun d => { d with deadline := d.deadline - 1 }) }) s.rx.recs } }

/-- MARK_OUTCOME (R44): what each outcome of a mark this station emitted while PACING does; one that was cut off is
ABANDONED (R7, R38, R43). And what any valid mark, found at place m, does to the timing unit: its pacer is heard (R58),
the quiet count is cleared, and the flywheel cycle it began in is declared live once (R36, log entry 28; what that
advances is `liveAdvanced`, a tally age as far as 2048, log entry 32); PEER_JOINED comes before TIMING_ROLE (log entry
8). Then FOLLOWING, the lane's silent run is cleared (R37); ELECTING, the election ends and its pacer is followed, with
a re-phase pending where the flywheel has a phase (R39), the cycles under way staying undriven (R8, log entry 5);
PACING, its own mark (log entry 36) does nothing, a mark of a lower ID makes it yield, one of its own ID brings
ELECTING, one of a higher ID is left alone (R43). No effect elsewhere (log entry 1). -/
def Obligations.MarkOutcomeWhilePacing : Prop :=
  (∀ (l : LaneNo) (result : ReadBack 64) (s : State), s.pins.resetAsserted = false →
    (∀ e, (laneAt s l).emitted = some e → e.awaited = true →
      let s1 := s.modLane l (fun x => { x with emitted := some { e with awaited := false } })
      let o := if e.cut then .abandoned else markOutcomeOf e.word result
      (s.timing.role ≠ .pacing → exec (.markOutcome l result) s = .next (settle s1)) ∧
      (s.timing.role = .pacing →
        (o = .won → exec (.markOutcome l result) s = .next (settle s1)) ∧
        (o = .abandoned → exec (.markOutcome l result) s = .next (settle s1)) ∧
        (∀ ok, o = .lostAfter ok → exec (.markOutcome l result) s = .next (settle (elected s1))) ∧
        (o = .lostBefore → exec (.markOutcome l result) s = .next (settle (elected s1))) ∧
        (∀ read, result = .ended read → o = .lostIn →
          ∃ t, exec (.markOutcome l result) s = .next (settle t) ∧ Yielded l (field read 16 6) s1 t))) ∧
    ((∀ e, (laneAt s l).emitted = some e → e.awaited = false) →
      exec (.markOutcome l result) s = .next (settle s))) ∧
  (∀ (l : LaneNo) (m : Nat) (word : BitVec 64) (f : MarkFields) (s : State),
    let heard := refresh f.pacer .mark s
    let s1 : State := { heard with timing := { heard.timing with quiet := 0, heard := true } }
    let c : CycleNo := BitVec.ofNat 8 (m / 5120)
    let s2 : State := if s1.timing.live.contains c then s1
      else liveAdvanced { s1 with timing := { s1.timing with live := c :: s1.timing.live } }
    let t := timingMark l m word f s
    let own := ∃ e, (laneAt s l).emitted = some e ∧ e.pos = m ∧ e.word = word
    (s.timing.role = .quiet → t = s2) ∧
    (s.timing.role = .following →
      t = { s2 with timing := { s2.timing with silent := vset s2.timing.silent l 0 } }) ∧
    (s.timing.role = .electing →
      t = { s2 with
        lanes := t.lanes
        timing := { s2.timing with
          role := .following, wait := 0, pacer := some f.pacer, rephase := s2.timing.phased || s2.timing.rephase }
        port := (s2.port.post (.timingRole .electing .following (some f.pacer)
          (if s2.timing.phased then some s2.timing.number else none))).1 } ∧
      ∀ k, laneAt t k = { laneAt s2 k with r8Failed := (laneAt t k).r8Failed } ∧
        ((laneAt s2 k).state ≠ .locked → (laneAt t k).r8Failed = (laneAt s2 k).r8Failed) ∧
        (∀ n p, (laneAt s2 k).state = .locked → (laneAt s2 k).expNum = some n → (laneAt s2 k).expPos = some p →
          (laneAt t k).r8Failed = some (if 0 ≤ placeDiff (place m 64) p then n else n - 1))) ∧
    (s.timing.role = .pacing →
      (own → t = s2) ∧
      (¬ own → f.pacer.toNat < (ownId s).toNat → Yielded l f.pacer s2 t) ∧
      (¬ own → f.pacer = ownId s → t = elected s2) ∧
      (¬ own → (ownId s).toNat < f.pacer.toNat → t = s2)))

/-! ### Lanes (chapter 2) -/

/-- Each receive record takes a lane's handing, in index order (R23, R118): from CONFIRM or not, renumbered or not. What
one does stands in CompletedCycleIsJudged. -/
def handed (l : LaneNo) (fromConfirm renumbered : Bool) (s : State) : State :=
  allRecs.foldl (fun x r => rxHanded r l fromConfirm renumbered x) s

/-- Lane l has entered LOCKED from s, with t after it and its reports given (R23, R63): the UNSEEN slot records of the
lane start afresh, and the lane is handed to the receive records, whose REALIGNED come after the reports given: an order
of reports of different blocks, which is the model's choice (log entry 8); beyond the lanes, the timing record and the
reports nothing else has changed. -/
def LockHanded (l : LaneNo) (fromConfirm renumbered : Bool) (s : State) (port : Port) (t : State) : Prop :=
  ∃ u : State, t = handed l fromConfirm renumbered u ∧
    u = { s with lanes := u.lanes, timing := u.timing, port := port, slots := { s.slots with recs := u.slots.recs } } ∧
    u.lanes = t.lanes ∧ u.timing = t.timing ∧
    ∀ a, slotAt u a = if laneOf a = l ∧ (slotAt s a).state = .unseen then { slotAt s a with quiet := 0, ownRun := 0 }
      else slotAt s a

/-- A lane record after the flywheel has been moved d bit times later and then renumbered by n (R35, R41, log entry 6):
every place is named anew, and the expected place of a lane without a lag stays where it is in time. -/
def carried (d : Int) (n : CycleNo) (x : Lane) : Lane :=
  { x with
    expPos := x.expPos.map (fun p => place (if x.lag.isNone then place p (-d) else p) (n.toNat * 5120 : Nat))
    emitted := x.emitted.map (fun g => { g with pos := place g.pos (n.toNat * 5120 : Nat) }) }

/-- MARK_VERDICT on a lane that is not LOCKED (R18, R20 to R22). A CONFIRM lane whose place holds a bad mark or none
returns to HUNT; a valid mark with the expected number raises the confirm count, and at 3 the lane locks, as the phase
reference at lag 0, else at its measured lag where that is in range; a mark with another number starts CONFIRM again.
The lane is the reference while FOLLOWING where the flywheel has no phase or a re-phase is pending, or where no other
lane is LOCKED or COAST (log entry 13): the flywheel then stands 64 bits into the mark's cycle, with the mark's number,
and the lane is the trim lane (R33; the pacer of record stays, log entry 50); the nearest flywheel cycle start, of two
equally near the later, is moved to the mark, which carries the other lanes' places along but for those without a lag
(R17, R41, log entries 6 and 68). A lock that is no reference changes no other lane. The mark's own cycle stays undriven
(R8, log entry 5). LANE_STATE is posted (R29), the UNSEEN slot records of the lane start afresh (R63), and each receive
record is handed the lag, from CONFIRM, in index order (R23, R31, R118; CompletedCycleIsJudged). That LANE_STATE comes
before the REALIGNED of the receive records is the model's choice (log entry 8); so are an unconfirmed lane's expected
number and place of none and the coast time 0 of a lock (log entry 74), what a move does to the cycles declared live
(log entry 75), that a flywheel cycle start it passes over advances no timer (log entry 56), and that the TIMING_ROLE of
a mark that ends an election carries the flywheel number from before the lane places the flywheel (log entry 79). A lane
with no expected position takes no verdict (log entry 1). The timing unit takes the mark first (log entry 16; what it
does: MarkOutcomeWhilePacing). -/
def Obligations.MarkVerdictOnAnUnlockedLane : Prop :=
  ∀ (l : LaneNo) (w : Window) (s : State), s.pins.resetAsserted = false →
    ((laneAt s l).state = .disabled ∨ (laneAt s l).state = .hunt ∨ (laneAt s l).state = .coast →
      exec (.markVerdict l w) s = .next (settle s)) ∧
    ((laneAt s l).state = .confirm →
      (verdictOf l w = .bad → exec (.markVerdict l w) s = .next (settle (s.modLane l (fun x =>
        { x with state := .hunt, confirm := 0, expNum := none, expPos := none, badMarks := bump x.badMarks })))) ∧
      (verdictOf l w = .missing → exec (.markVerdict l w) s = .next (settle (s.modLane l (fun x =>
        { x with state := .hunt, confirm := 0, expNum := none, expPos := none })))) ∧
      (∀ f offset word, verdictOf l w = .valid f offset word →
        let m := place ((laneAt s l).expPos.getD 0) offset
        let s1 := timingMark l m word f s
        ((laneAt s1 l).expNum ≠ some f.number →
          exec (.markVerdict l w) s = .next (settle (s1.modLane l (fun x =>
            { x with state := .confirm, confirm := 1, expNum := some (f.number + 1), expPos := some (place m 5120)
                     lag := none, residue := none })))) ∧
        ((laneAt s1 l).expNum = some f.number → (laneAt s1 l).confirm < 2 →
          exec (.markVerdict l w) s = .next (settle (s1.modLane l (fun x =>
            { x with confirm := x.confirm + 1, expNum := some (f.number + 1), expPos := some (place m 5120) })))) ∧
        (isReference l s1 = true ↔ s1.timing.role = .following ∧
          (s1.timing.phased = false ∨ s1.timing.rephase = true ∨
            ∀ k, k ≠ l → (laneAt s1 k).state ≠ .locked ∧ (laneAt s1 k).state ≠ .coast)) ∧
        ((laneAt s1 l).expNum = some f.number → 2 ≤ (laneAt s1 l).confirm →
          ∃ t, exec (.markVerdict l w) s = .next (settle t) ∧
            (isReference l s1 = true →
              (laneAt t l).state = .locked ∧ (laneAt t l).lag = some 0 ∧ (laneAt t l).residue = some 0 ∧
              (laneAt t l).expNum = some (f.number + 1) ∧ (laneAt t l).lockAge = 0 ∧ (laneAt t l).miss = 0 ∧
              (laneAt t l).expPos = some (cycleStart (f.number + 1)) ∧ (laneAt t l).r8Failed = some f.number ∧
              (let near : CycleNo := BitVec.ofNat 8 (place m 2560 / 5120)
                let moved := carried (placeDiff m (near.toNat * 5120)) (f.number - near)
                t.timing = { s1.timing with
                  number := f.number, position := 64, slip := 0, phased := true, rephase := false, trim := some l
                  live := s1.timing.live.map (fun c => c + (f.number - near)) } ∧
                laneAt t l = { moved (laneAt s1 l) with
                  state := .locked, confirm := (laneAt s1 l).confirm + 1, expNum := some (f.number + 1)
                  expPos := some (cycleStart (f.number + 1)), lag := some 0, residue := some 0, miss := 0, cand := none
                  lockAge := 0, coast := 0, r8Failed := some f.number, former := none } ∧
                ∀ k, k ≠ l → laneAt t k = moved (laneAt s1 k)) ∧
              LockHanded l true false s1 (s1.port.post (.laneState l .confirm .locked (some 0))).1 t) ∧
            (isReference l s1 = false → ∀ lag residue, measure m f.number = some (lag, residue) →
              (laneAt t l).state = .locked ∧ (laneAt t l).lag = some lag ∧ (laneAt t l).residue = some residue ∧
              (laneAt t l).expNum = some (f.number + 1) ∧ (laneAt t l).lockAge = 0 ∧ (laneAt t l).miss = 0 ∧
              (laneAt t l).expPos = some (place (cycleStart (f.number + 1)) (lag * 320 + residue)) ∧
              (laneAt t l).r8Failed = some f.number ∧ t.timing = s1.timing ∧
              laneAt t l = { laneAt s1 l with
                state := .locked, confirm := (laneAt s1 l).confirm + 1, expNum := some (f.number + 1)
                expPos := some (place (cycleStart (f.number + 1)) (lag * 320 + residue)), lag := some lag
                residue := some residue, miss := 0, cand := none, lockAge := 0, coast := 0, r8Failed := some f.number
                former := none } ∧
              (∀ k, k ≠ l → laneAt t k = laneAt s1 k) ∧
              LockHanded l true false s1 (s1.port.post (.laneState l .confirm .locked (some lag))).1 t) ∧
            (isReference l s1 = false → measure m f.number = none →
              (laneAt t l).state = .hunt ∧ (laneAt t l).confirm = 0 ∧
              (laneAt t l).lagOutOfRange = bump (laneAt s1 l).lagOutOfRange ∧ t = { s1 with lanes := t.lanes } ∧
              laneAt t l = { laneAt s1 l with
                state := .hunt, confirm := 0, expNum := none, expPos := none
                lagOutOfRange := bump (laneAt s1 l).lagOutOfRange } ∧
              ∀ k, k ≠ l → laneAt t k = laneAt s1 k))))

/-- The lag a lane measures (R22): the mark's offset from the nearest start of the flywheel cycle of its number,
divided by 320 and rounded down, in −64 to +63; the residue is the remainder. -/
def Obligations.MeasuredLagIsTheFlooredOffset : Prop :=
  ∀ (m : Nat) (num : CycleNo), m < 1310720 →
    ∃ offset : Int, -655360 ≤ offset ∧ offset < 655360 ∧
      (cycleStart num + offset - m) % 1310720 = 0 ∧
      (∀ lag residue, measure m num = some (lag, residue) ↔
        offset = lag * 320 + (residue : Nat) ∧ residue < 320 ∧ -64 ≤ lag ∧ lag ≤ 63) ∧
      (measure m num = none ↔ offset < -64 * 320 ∨ 64 * 320 ≤ offset)

/-- What the loss of a lane's place does to one slot record (R63): it becomes UNSEEN with its header error count; a
claim is abandoned and handed as a loss, a MINE slot is counted as a lane loss and handed to its owner. -/
def slotGone (s : State) (a : SlotAddr) : State :=
  let unseen := fun r : SlotRec => { SlotRec.reset with headerErrors := r.headerErrors }
  match (slotAt s a).state with
  | .claiming =>
    handEnd a false ((s.modSlots (fun u => { u with abandoned := bump u.abandoned })).modSlot a unseen)
  | .mine =>
    mineLost a (slotAt s a) none ((s.modSlots (fun u => { u with laneLosses := bump u.laneLosses })).modSlot a unseen)
  | _ => s.modSlot a unseen

/-- What a lane's leaving LOCKED for COAST does to one slot record (R63): a MINE one stays as it is, its own-ID run too
(log entry 78), not driven, and any other becomes UNSEEN with its header error count, a claim being abandoned and handed
as a loss. -/
def slotCoasting (s : State) (a : SlotAddr) : State :=
  let unseen := fun r : SlotRec => { SlotRec.reset with headerErrors := r.headerErrors }
  match (slotAt s a).state with
  | .claiming =>
    handEnd a false ((s.modSlots (fun u => { u with abandoned := bump u.abandoned })).modSlot a unseen)
  | .mine => s.modSlot a (fun r => { r with driven := none, began := [], underWay := [] })
  | _ => s.modSlot a unseen

/-- Lane l has left LOCKED from s, its lock record now x, with t after it (R8, R24, R29, R63): its offer in progress is
cut short and LANE_STATE posted; then each slot record of the lane in address order, as given; one look of the arbiter
where the request in service had a slot on the lane (log entry 12); and the timing unit takes the leaving. That the
reports come in this order (LANE_STATE, those of the slot losses, TIMING_ROLE) is the model's choice (log entry 8). -/
def LaneLeaves (l : LaneNo) (x : Lane) (each : State → SlotAddr → State) (s t : State) : Prop :=
  let left : State := { s with
    lanes := vset s.lanes l x
    notice := { s.notice with offers := vset s.notice.offers l ((vget s.notice.offers l).map (fun f =>
      { f with cut := true })) }
    port := (s.port.post (.laneState l (laneAt s l).state x.state x.lag)).1 }
  let gone := ((List.range 16).map (fun i => Fin.ofNat 64 (l.val * 16 + i))).foldl each left
  let service := ∃ q a, inService s = some q ∧ a ∈ q.running ++ q.won ∧ laneOf a = l
  (service → t = laneLeft l (look gone)) ∧ (¬ service → t = laneLeft l gone)

/-- MARK_VERDICT on a LOCKED lane, the expected mark or a miss (R24, R25): the expected mark clears the miss count and
candidate and leaves lag and residue; while FOLLOWING it ends a pending re-phase and makes its lane the trim lane (R41),
or, on the trim lane, moves the flywheel by its whole offset, lanes without a lag keeping their moment (R34, log entries
6 and 7). A bad mark, a missing one or an unexpected number is a miss; at the fourth the lane leaves LOCKED, for COAST
where the timing unit is ELECTING, else for HUNT: its offer in progress is cut short (R8), LANE_STATE is posted (R29),
the slot records of the lane follow one after another in address order, for COAST the MINE ones being kept (R63), the
arbiter then looks once where the request in service had a slot on the lane (log entry 12), and the timing unit takes
the lane's leaving (SilenceBringsAnElection). That LANE_STATE comes first, then the reports of the slot losses, then the
TIMING_ROLE of the loss test is the model's choice (log entry 8); so are the candidate of none in COAST (log entry 74)
and the own-ID run that a MINE slot keeps there (log entry 78). How long a failed cycle of R8 and a former number are
remembered is the model's own (log entries 5 and 11). The timing unit takes the verdict before the lane's own logic, so
that it is its new role that the fourth miss meets: the model's reading (log entry 16); what it does stands in
MarkOutcomeWhilePacing and SilenceBringsAnElection. -/
def Obligations.MarkVerdictOnALockedLane : Prop :=
  ∀ (l : LaneNo) (w : Window) (s : State), s.pins.resetAsserted = false → (laneAt s l).state = .locked →
    (∀ x : Lane, x.advance = { x with
      expNum := x.expNum.map (fun n => n + 1), expPos := x.expPos.map (fun p => place p 5120)
      lockAge := min 255 (x.lockAge + 1), former := none
      r8Failed := x.r8Failed.filter (fun c => x.expNum == some c || x.expNum == some (c + 1)) }) ∧
    (∀ (offset : Int) (u : State),
      (u.timing.role ≠ .following ∨ u.timing.rephase = false ∧ u.timing.trim ≠ some l →
        timingExpected l offset u = u) ∧
      (u.timing.role = .following → u.timing.rephase = true → timingExpected l offset u =
        { u with timing := { u.timing with rephase := false, trim := some l } }) ∧
      (u.timing.role = .following → u.timing.rephase = false → u.timing.trim = some l →
        let p : Int := u.timing.position + u.timing.slip - offset
        timingExpected l offset u = { u with
          lanes := vmap (fun x => if x.lag.isNone then { x with expPos := x.expPos.map (fun e => place e (-offset)) }
            else x) u.lanes
          timing := { u.timing with
            position := (min 5119 (max 0 p)).toNat, slip := p - min 5119 (max 0 p) } })) ∧
    (∀ f offset word, verdictOf l w = .valid f offset word →
      let s1 := timingMark l (place ((laneAt s l).expPos.getD 0) offset) word f s
      (laneAt s1 l).expNum = some f.number →
        exec (.markVerdict l w) s = .next (settle ((timingExpected l offset s1).modLane l (fun x =>
          { x.advance with miss := 0, cand := none })))) ∧
    (∀ (s1 : State) (cand : Option CycleNo) (bad : Bool),
      ((verdictOf l w = .bad ∧ bad = true ∨ verdictOf l w = .missing ∧ bad = false) ∧ cand = none ∧
          s1 = timingSilence l s ∨
        ∃ f offset word, verdictOf l w = .valid f offset word ∧ bad = true ∧ cand = some f.number ∧
          s1 = timingMark l (place ((laneAt s l).expPos.getD 0) offset) word f s ∧
          (laneAt s1 l).expNum ≠ some f.number ∧ f.fresh = false ∧
          (∀ c, (laneAt s1 l).cand = some c → f.number ≠ c + 1)) →
      let s2 := s1.modLane l (fun x => { x.advance with
        miss := x.miss + 1, cand := cand, badMarks := if bad then bump x.badMarks else x.badMarks })
      ((laneAt s1 l).miss < 3 → exec (.markVerdict l w) s = .next (settle s2)) ∧
      (3 ≤ (laneAt s1 l).miss → ∃ t, exec (.markVerdict l w) s = .next (settle t) ∧
        (s2.timing.role = .electing → laneAt t l = { laneAt s2 l with
          state := .coast, coast := 0, miss := 0, cand := none, r8Failed := none, former := none } ∧
          LaneLeaves l (laneAt t l) slotCoasting s2 t) ∧
        (s2.timing.role ≠ .electing → laneAt t l = { laneAt s2 l with
          state := .hunt, expNum := none, expPos := none, lag := none, residue := none, r8Failed := none
          former := none } ∧
          LaneLeaves l (laneAt t l) slotGone s2 t) ∧
        (∀ k, k ≠ l → laneAt t k = laneAt s2 k) ∧
        vget t.notice.offers l = (vget s2.notice.offers l).map (fun f => { f with cut := true })))

/-- The flywheel cycle from whose start a lane's expected place lies by its lag and residue (R35). -/
def cycleHeld (e : Nat) (lag : Int) (residue : Nat) : CycleNo :=
  BitVec.ofNat 8 (place e (-(lag * 320 + residue)) / 5120)

/-- The reports of an adoption whose lane is or becomes LOCKED (R30, R35): TIMING_ROLE where the station follows and its
pacer of record changes, then those given. -/
def adoptReports (s : State) (pacer : StationId) (number : CycleNo) (then_ : List Report) : Port :=
  let p := if s.timing.role = .following ∧ s.timing.pacer ≠ some pacer then
      (s.port.post (.timingRole .following .following (some pacer)
        (if s.timing.phased then some number else none))).1
    else s.port
  then_.foldl (fun q r => (q.post r).1) p

/-- MARK_VERDICT on a LOCKED lane, an adoption (R25, R26, R35): a mark with FRESH, or the number after the candidate, is
adopted, and its pacer becomes the pacer of record. Where the flywheel does not carry the numbering it is renumbered
with every place on it, in phase, and the lane keeps its lag; so it does, with the flywheel as it is, where the flywheel
carries the numbering and a re-phase is pending (R41, log entry 15): both end the re-phase and, while FOLLOWING, make
the lane the trim lane. Else the lag is measured: the flywheel carries the numbering (R26), or the timing unit is
ELECTING, where the flywheel runs on with its numbering (R33, log entry 52). LANE_RENUMBERED is posted (R30), after
TIMING_ROLE where the pacer changes (R35, log entry 8), which carries the flywheel number after a renumbering (R46, the
model's choice, log entry 79), and each receive record is handed the lane's lag, renumbered, in index order (R26, R31,
R118; CompletedCycleIsJudged). A lag out of range sends the lane to HUNT, LANE_RENUMBERED carrying none (log entry 14),
then LANE_STATE, and what follows a lane's leaving LOCKED (R24, R26, R30, R63; the order as at a fourth miss). The
cycle's former number, and the number of a failed cycle of R8, are the model's own (log entries 5 and 11). The timing
unit takes the mark first (log entry 16; what it does: MarkOutcomeWhilePacing). -/
def Obligations.LockedLaneAdoptsANewNumbering : Prop :=
  ∀ (l : LaneNo) (w : Window) (f : MarkFields) (offset : Int) (word : BitVec 64) (s : State),
    s.pins.resetAsserted = false → (laneAt s l).state = .locked → verdictOf l w = .valid f offset word →
    let m := place ((laneAt s l).expPos.getD 0) offset
    let s1 := timingMark l m word f s
    let x := laneAt s1 l
    x.expNum ≠ some f.number → (f.fresh = true ∨ ∃ c, x.cand = some c ∧ f.number = c + 1) →
    ∃ t, exec (.markVerdict l w) s = .next (settle t) ∧
      ∀ old e lag residue, x.expNum = some old → x.expPos = some e → x.lag = some lag → x.residue = some residue →
        let there := cycleHeld e lag residue
        let renumbers := there ≠ f.number ∧ s1.timing.role ≠ .electing
        let keeps := there = f.number ∧ s1.timing.rephase = true
        (carries s1 l e f.number = true ↔ there = f.number) ∧
        t.timing.pacer = some f.pacer ∧
        (∀ lag' residue',
          (renumbers ∨ keeps) ∧ lag' = lag ∧ residue' = residue ∨
            ¬ renumbers ∧ ¬ keeps ∧ measure m f.number = some (lag', residue') →
          laneAt t l = { x with
            expNum := some (f.number + 1)
            expPos := some (place (cycleStart (f.number + 1)) (lag' * 320 + residue'))
            lag := some lag', residue := some residue', miss := 0, cand := none, lockAge := min 255 (x.lockAge + 1)
            former := some old, r8Failed := x.r8Failed.map (fun c => c + (f.number - old))
            emitted := (laneAt t l).emitted } ∧
          (∃ u, t = handed l false true u ∧ u = { s1 with
            lanes := t.lanes
            timing := t.timing
            port := adoptReports s1 f.pacer t.timing.number [.laneRenumbered l old f.number (some lag')] }) ∧
          ((∀ r, (rxAt s1 r).state ≠ .accepted) → t = { s1 with
            lanes := t.lanes
            timing := t.timing
            port := adoptReports s1 f.pacer t.timing.number [.laneRenumbered l old f.number (some lag')] })) ∧
        (renumbers →
          t.timing = { s1.timing with
            number := s1.timing.number + (f.number - there)
            live := s1.timing.live.map (fun c => c + (f.number - there))
            rephase := false
            trim := if s1.timing.role = .following then some l else s1.timing.trim
            pacer := some f.pacer } ∧
          ∀ k, k ≠ l → laneAt t k = { laneAt s1 k with
            expPos := (laneAt s1 k).expPos.map (fun p => place p ((f.number - there).toNat * 5120 : Nat))
            emitted := (laneAt s1 k).emitted.map (fun g =>
              { g with pos := place g.pos ((f.number - there).toNat * 5120 : Nat) }) }) ∧
        (keeps → t.timing = { s1.timing with
          rephase := false
          trim := if s1.timing.role = .following then some l else s1.timing.trim
          pacer := some f.pacer }) ∧
        (¬ renumbers → ∀ k, k ≠ l → laneAt t k = laneAt s1 k) ∧
        (¬ renumbers → ¬ keeps → ∀ y, measure m f.number = some y →
          t.timing = { s1.timing with pacer := some f.pacer }) ∧
        (¬ renumbers → ¬ keeps → measure m f.number = none →
          (laneAt t l).state = .hunt ∧ (laneAt t l).lag = none ∧ (laneAt t l).expNum = none ∧
          (laneAt t l).lagOutOfRange = bump x.lagOutOfRange ∧ t.timing.number = s1.timing.number ∧
          laneAt t l = { x with
            state := .hunt, expNum := none, expPos := none, lag := none, residue := none, r8Failed := none
            former := none, miss := 0, cand := none, lockAge := min 255 (x.lockAge + 1)
            lagOutOfRange := bump x.lagOutOfRange } ∧
          LaneLeaves l (laneAt t l) slotGone { s1 with
            timing := { s1.timing with pacer := some f.pacer }
            port := adoptReports s1 f.pacer s1.timing.number [.laneRenumbered l old f.number none] } t)

/-- OPEN_SEARCH_MARK_FOUND (R18, R20, R27): a match that is no valid mark is discarded, and only HUNT and COAST search
openly. HUNT enters CONFIRM with count 1. COAST compares the mark's number with the reference, that of the expected
position nearest the mark (of two equally near the later, log entry 55). One within one of it resumes LOCKED: with a
re-phase pending while FOLLOWING the lane keeps its lag and the flywheel is moved, so that the expected place falls on
the mark, and numbered by it (R41); else the lag is measured. Another number with FRESH is adopted likewise, or as a
LOCKED lane adopts (log entries 15, 52 and 85); without FRESH the lane enters CONFIRM. At a lock the mark's own cycle
stays undriven (R8, log entry 5), LANE_STATE is posted, before LANE_RENUMBERED (R29, R30) and after TIMING_ROLE where
the pacer changes (log entry 8), which carries the flywheel number after a move or a renumbering (R46, the model's
choice, log entry 79), the UNSEEN slot records of the lane start afresh (R63), and each receive record is handed the
lag, renumbered or not, in index order (R23, R31, R118; CompletedCycleIsJudged). A lag out of range sends it to HUNT,
after LANE_RENUMBERED carrying none where the mark was adopted (R30, log entry 14). HUNT and CONFIRM post LANE_STATE
(R29) and end the slot records of the lane (R63). A move or a renumbering names the other lanes' places anew (R17, R35,
R41, log entry 6), and the cycles declared live (log entry 75), and advances no timer by a flywheel cycle start that it
passes over (the model's choice, log entry 56); a lock sets the coast time to 0 (log entry 74). The timing unit takes
the mark first (log entry 16; what it does: MarkOutcomeWhilePacing). No effect elsewhere (log entry 1). -/
def Obligations.OpenSearchMarkFound : Prop :=
  ∀ (l : LaneNo) (c : CycleNo) (bit : Nat) (word : BitVec 64) (s : State), s.pins.resetAsserted = false →
    (readMark l word = none ∨ (laneAt s l).state = .disabled ∨ (laneAt s l).state = .confirm ∨
        (laneAt s l).state = .locked →
      exec (.openSearchMarkFound l c bit word) s = .next (settle s)) ∧
    (∀ f, readMark l word = some f →
      let m := c.toNat * 5120 + bit
      let s1 := timingMark l m word f s
      let x := laneAt s1 l
      ((laneAt s l).state = .hunt →
        exec (.openSearchMarkFound l c bit word) s = .next (settle (s1.modLane l (fun x =>
          { x with state := .confirm, confirm := 1, expNum := some (f.number + 1), expPos := some (place m 5120)
                   lag := none, residue := none })))) ∧
      ((laneAt s l).state = .coast → ∀ n p lag residue, x.expNum = some n → x.expPos = some p → x.lag = some lag →
          x.residue = some residue →
        let ahead : Int := (placeDiff m p + 2560) / 5120
        let reference := n + BitVec.ofInt 8 ahead
        let near := f.number = reference ∨ f.number = reference + 1 ∨ f.number + 1 = reference
        let e := place p (ahead * 5120)
        let there := cycleHeld e lag residue
        let moves := s1.timing.rephase = true ∧ s1.timing.role = .following
        let keeps := there ≠ f.number ∧ s1.timing.role ≠ .electing ∨ there = f.number ∧ s1.timing.rephase = true
        let n' := f.number - there
        let renumbered := fun t : State => t.timing = { s1.timing with
            number := s1.timing.number + n', live := s1.timing.live.map (fun c => c + n'), rephase := false
            trim := if s1.timing.role = .following then some l else s1.timing.trim, pacer := some f.pacer } ∧
          (there ≠ f.number → ∀ k, k ≠ l → laneAt t k = carried 0 n' (laneAt s1 k)) ∧
          (there = f.number → ∀ k, k ≠ l → laneAt t k = laneAt s1 k)
        let service := ∃ q a, inService s1 = some q ∧ a ∈ q.running ++ q.won ∧ laneOf a = l
        let locks := fun (t : State) (lag' : Int) (residue' : Nat) =>
          (laneAt t l).state = .locked ∧ (laneAt t l).expNum = some (f.number + 1) ∧ (laneAt t l).lockAge = 0 ∧
          (laneAt t l).expPos = some (place (cycleStart (f.number + 1)) (lag' * 320 + residue')) ∧
          (laneAt t l).lag = some lag' ∧ (laneAt t l).residue = some residue' ∧ (laneAt t l).coast = 0 ∧
          (laneAt t l).r8Failed = some f.number ∧ laneAt t l = { x with
            state := .locked, expNum := some (f.number + 1), lockAge := 0
            expPos := some (place (cycleStart (f.number + 1)) (lag' * 320 + residue')), lag := some lag'
            residue := some residue', miss := 0, cand := none, coast := 0, r8Failed := some f.number, former := none
            emitted := (laneAt t l).emitted }
        let lost := fun t : State =>
          (laneAt t l).state = .hunt ∧ (laneAt t l).lag = none ∧ (laneAt t l).lagOutOfRange = bump x.lagOutOfRange
        let gone : Lane := { x with
          state := .hunt, expNum := none, expPos := none, lag := none, residue := none, r8Failed := none
          former := none, lagOutOfRange := bump x.lagOutOfRange }
        ∃ t, exec (.openSearchMarkFound l c bit word) s = .next (settle t) ∧
          (near ∨ f.fresh = true → moves →
            locks t lag residue ∧ t.timing.rephase = false ∧ t.timing.trim = some l ∧ t.timing.slip = 0 ∧
            t.timing.number.toNat * 5120 + t.timing.position =
              place (place e 64) ((f.number - there).toNat * 5120 : Nat) ∧
            t.timing = { s1.timing with
              number := t.timing.number, position := t.timing.position, slip := 0, rephase := false, trim := some l
              live := s1.timing.live.map (fun c => c + n')
              pacer := if near then s1.timing.pacer else some f.pacer } ∧
            ∀ k, k ≠ l → laneAt t k = carried (placeDiff m e) n' (laneAt s1 k)) ∧
          (near → ¬ moves → ∀ lag' residue', measure m f.number = some (lag', residue') →
            locks t lag' residue' ∧ t.timing = s1.timing ∧ ∀ k, k ≠ l → laneAt t k = laneAt s1 k) ∧
          (near → ¬ moves → measure m f.number = none → lost t ∧ t.timing.number = s1.timing.number ∧
            laneAt t l = gone ∧ LaneLeaves l gone slotGone s1 t) ∧
          (¬ near → f.fresh = true → t.timing.pacer = some f.pacer) ∧
          (¬ near → f.fresh = true → ¬ moves → keeps →
            locks t lag residue ∧ t.timing.rephase = false ∧
            t.timing.number = s1.timing.number + (f.number - there) ∧ renumbered t) ∧
          (¬ near → f.fresh = true → ¬ moves → ¬ keeps → ∀ lag' residue', measure m f.number = some (lag', residue') →
            locks t lag' residue' ∧ t.timing.number = s1.timing.number ∧
            t.timing = { s1.timing with pacer := some f.pacer } ∧ ∀ k, k ≠ l → laneAt t k = laneAt s1 k) ∧
          (¬ near → f.fresh = true → ¬ moves → ¬ keeps → measure m f.number = none →
            lost t ∧ t.timing.number = s1.timing.number ∧ laneAt t l = { gone with miss := 0, cand := none } ∧
            LaneLeaves l { gone with miss := 0, cand := none } slotGone { s1 with
              timing := { s1.timing with pacer := some f.pacer }
              port := adoptReports s1 f.pacer s1.timing.number [.laneRenumbered l reference f.number none] } t) ∧
          (∀ lag', (laneAt t l).state = .locked → (laneAt t l).lag = some lag' →
            (near → LockHanded l false false s1 (s1.port.post (.laneState l .coast .locked (some lag'))).1 t) ∧
            (¬ near → LockHanded l false true s1 (adoptReports s1 f.pacer t.timing.number
              [.laneState l .coast .locked (some lag'), .laneRenumbered l reference f.number (some lag')]) t)) ∧
          ((∀ r, (rxAt s1 r).state ≠ .accepted) → ∀ lag', (laneAt t l).state = .locked → (laneAt t l).lag = some lag' →
            (near → t.port = (s1.port.post (.laneState l .coast .locked (some lag'))).1) ∧
            (¬ near → t.port = adoptReports s1 f.pacer t.timing.number
              [.laneState l .coast .locked (some lag'), .laneRenumbered l reference f.number (some lag')])) ∧
          (¬ near → f.fresh = false →
            (laneAt t l).state = .confirm ∧ (laneAt t l).confirm = 1 ∧ (laneAt t l).lag = none ∧
            (laneAt t l).expNum = some (f.number + 1) ∧ (laneAt t l).expPos = some (place m 5120) ∧
            let left : State := { s1 with
              lanes := vset s1.lanes l { x with
                state := .confirm, confirm := 1, expNum := some (f.number + 1), expPos := some (place m 5120)
                lag := none, residue := none }
              port := (s1.port.post (.laneState l .coast .confirm none)).1 }
            let ended := ((List.range 16).map (fun i => Fin.ofNat 64 (l.val * 16 + i))).foldl slotGone left
            (service → t = look ended) ∧ (¬ service → t = ended))))

/-- COAST_TIME_EXPIRY (R27, R29, R63): at coast time 96 the lane enters HUNT with LANE_STATE, the slot records of the
lane become UNSEEN one after another in address order, claims and MINE slots being handed as lost, the arbiter then
looks once where the request in service had a slot on the lane (log entry 12), and the timing unit takes the lane's
leaving (SilenceBringsAnElection); no other lane changes. What the handing does stands in
EndOfAClaimIsHandedToItsRequest. That LANE_STATE comes first, then the reports of the slot losses, then the TIMING_ROLE
of the loss test is the model's choice (log entry 8). Stated whole where no record of the lane is CLAIMING or MINE and
the request in service has no slot on it. No effect elsewhere (log entry 1). -/
def Obligations.CoastTimeExpiryBringsHunt : Prop :=
  ∀ (l : LaneNo) (s : State), s.pins.resetAsserted = false →
    ((laneAt s l).state ≠ .coast ∨ (laneAt s l).coast ≠ 96 → exec (.coastTimeExpiry l) s = .next (settle s)) ∧
    ((laneAt s l).state = .coast → (laneAt s l).coast = 96 →
      let lost : State := { s with
        lanes := vset s.lanes l { laneAt s l with
          state := .hunt, expNum := none, expPos := none, lag := none, residue := none, r8Failed := none
          former := none }
        notice := { s.notice with offers := vset s.notice.offers l ((vget s.notice.offers l).map (fun f =>
          { f with cut := true })) }
        port := (s.port.post (.laneState l .coast .hunt none)).1 }
      let service := ∃ q a, inService s = some q ∧ a ∈ q.running ++ q.won ∧ laneOf a = l
      ∃ gone u, exec (.coastTimeExpiry l) s = .next (settle (laneLeft l u)) ∧
        gone = ((List.range 16).map (fun i => Fin.ofNat 64 (l.val * 16 + i))).foldl slotGone lost ∧
        (service → u = look gone) ∧ (¬ service → u = gone) ∧
        laneAt (laneLeft l u) l = laneAt lost l ∧ (∀ k, k ≠ l → laneAt (laneLeft l u) k = laneAt s k) ∧
        u.loader = s.loader ∧
        ((∀ a, laneOf a = l → (slotAt s a).state ≠ .claiming ∧ (slotAt s a).state ≠ .mine) → ¬ service →
          u = { lost with slots := u.slots } ∧ u.slots.queue = s.slots.queue ∧
          ∀ a, slotAt u a = if laneOf a = l then { SlotRec.reset with headerErrors := (slotAt s a).headerErrors }
            else slotAt s a))

/-! ### Notices and the roster (chapter 4) -/

/-- The number c is one that a part passing on a lane now takes (R5, log entry 11): the lane's expected number, or the
one before it. -/
def Passing (s : State) (l : LaneNo) (c : CycleNo) : Prop :=
  (laneAt s l).expNum = some c ∨ (laneAt s l).expNum = some (c + 1)

/-- A part that began as cycle x of a lane passes in its cycle c (log entry 11): the numbers are equal, or the lane has
adopted c in the cycle it numbered x. -/
def OneCycle (s : State) (l : LaneNo) (x c : CycleNo) : Prop :=
  x = c ∨ ((laneAt s l).former = some x ∧ (laneAt s l).expNum = some (c + 1))

/-- The number c is one that a slot which now ends takes (R5, R15, log entry 11): as `Passing`; for slot 15 also that of
the cycle before the lane's present one, whose mark was judged early, but not of a cycle before the one that locked the
lane. -/
def SlotPassing (s : State) (a : SlotAddr) (c : CycleNo) : Prop :=
  Passing s (laneOf a) c ∨
    (slotIx a).val = 15 ∧ 1 ≤ (laneAt s (laneOf a)).lockAge ∧
      ∃ e, (laneAt s (laneOf a)).expNum = some e ∧ (laneAt s (laneOf a)).former.getD (e - 1) = c + 1

/-- The cycles of a lane of which slot a may now be under way (R3, R18, log entry 70): that of the mark last judged; for
slot 0, begun before a missing mark is judged, the next too; for slot 15, ended after an early mark is judged, the one
before too. -/
def slotCycles (s : State) (a : SlotAddr) : List CycleNo :=
  match (laneAt s (laneOf a)).expNum with
  | none => []
  | some e => [e - 1] ++ (if (slotIx a).val = 0 then [e] else []) ++
      (if (slotIx a).val = 15 then [(laneAt s (laneOf a)).former.getD (e - 1) - 1] else [])

/-- NOTICE_POSITION_START (R5, R52): in a cycle of the lane that may be driven, the first entry in the queue order that
is not in flight is offered, a PRESENCE with the counts of that moment; else the position is left undriven. A cycle may
be driven (R8) while the lane is LOCKED and the timing unit FOLLOWING or PACING, where its expected mark position did
not find them failing (log entry 5). An entry is in flight until its offer's outcome is handed, on whatever lane. No
effect elsewhere (log entry 1). -/
def Obligations.NoticePositionOffersTheFirstEntryNotInFlight : Prop :=
  ∀ (l : LaneNo) (position : Fin 2) (c : CycleNo) (s : State), s.pins.resetAsserted = false →
    (drives s l c = true ↔ (laneAt s l).state = .locked ∧ (s.timing.role = .following ∨ s.timing.role = .pacing) ∧
      ∀ x, (laneAt s l).r8Failed = some x → ¬ OneCycle s l x c) ∧
    (∀ o, inFlight s o = true ↔ ∃ k f, vget s.notice.offers k = some f ∧ f.owner = o) ∧
    (¬ s.Running ∨ ¬ Passing s l c ∨ drives s l c = false ∨ (vget s.notice.offers l).isSome = true ∨
        (∀ e ∈ s.notice.queue, inFlight s e.owner = true) →
      exec (.noticePositionStart l position c) s = .next (settle s)) ∧
    (s.Running → Passing s l c → drives s l c = true → vget s.notice.offers l = none →
      ∀ before e after, queueOrder s.notice.queue = before ++ e :: after →
        (∀ x ∈ before, inFlight s x.owner = true) → inFlight s e.owner = false →
        let body := match e.body with
          | .presence _ => .presence (ownPresence s)
          | b => b
        exec (.noticePositionStart l position c) s = .next (settle { s with notice := { s.notice with
          offers := vset s.notice.offers l (some {
            position := position, cycle := c, owner := e.owner, dest := e.dest, body := body
            word := encodeNotice (ownId s) e.dest body, replaced := false, withdrawn := false
            cut := false }) } }))

/-- The notice queue (R48, R49, R50): its order is by class, and within a class by age. A post into an empty owner entry
is youngest; one of the same kind replaces in place; one of another kind is reinserted as youngest; an offer in progress
is only marked; a withdrawal empties the entry at once, and withdrawing an empty entry does nothing. -/
def Obligations.NoticeQueueOrderPostAndWithdraw : Prop :=
  (∀ q : List QueuedNotice,
    (queueOrder q).Pairwise (fun x y => x.body.cls.toNat ≤ y.body.cls.toNat) ∧
    (∀ c : BitVec 2, (queueOrder q).filter (fun e => e.body.cls == c) = q.filter (fun e => e.body.cls == c)) ∧
    (queueOrder q).Perm q) ∧
  (∀ (o : OwnerEntry) (dest : StationId) (body : NoticeBody) (s : State),
    let new : QueuedNotice := { owner := o, dest := dest, body := body, expiry := 0 }
    (queued s o = none →
      postNotice o dest body s = { s with notice := { s.notice with queue := s.notice.queue ++ [new] } } ∧
      withdraw o s = s) ∧
    (∀ e, queued s o = some e →
      (e.body.kind = body.kind → postNotice o dest body s = { s with notice := { s.notice with
        queue := s.notice.queue.map (fun x => if x.owner = o then new else x)
        offers := vmap (Option.map (fun f => if f.owner = o then { f with replaced := true } else f))
          s.notice.offers } }) ∧
      (e.body.kind ≠ body.kind → postNotice o dest body s = { s with notice := { s.notice with
        queue := s.notice.queue.filter (fun x => x.owner ≠ o) ++ [new]
        offers := vmap (Option.map (fun f => if f.owner = o then { f with replaced := true } else f))
          s.notice.offers } }) ∧
      withdraw o s = { s with notice := { s.notice with
        queue := s.notice.queue.filter (fun x => x.owner ≠ o)
        offers := vmap (Option.map (fun f => if f.owner = o then { f with withdrawn := true } else f))
          s.notice.offers } }))

/-- NOTICE_OUTCOME (R53): a notice that was not WON stays queued; one that was WON leaves the queue unless it was
replaced, and its poster is told: an OFFER sent starts the 64 live cycles of the offer wait (R80), a CLOSE sent ends the
close (R96), a client DISMISS sent ends the dismiss (R124). A withdrawn entry's outcome is discarded. An offer that was
cut short is ABANDONED (R7, R8). No effect elsewhere (log entry 1). -/
def Obligations.NoticeOutcomeEmptiesOrKeepsTheEntry : Prop :=
  ∀ (l : LaneNo) (result : ReadBack 112) (s : State), s.pins.resetAsserted = false →
    (vget s.notice.offers l = none → exec (.noticeOutcome l result) s = .next (settle s)) ∧
    (∀ f, vget s.notice.offers l = some f →
      let o := if f.cut then .abandoned else noticeOutcomeOf f.word result
      (o ≠ .won → exec (.noticeOutcome l result) s = .next (settle { s with notice := { s.notice with
        offers := vset s.notice.offers l none } })) ∧
      (o = .won → f.withdrawn = true → exec (.noticeOutcome l result) s = .next (settle { s with
        notice := { s.notice with
          offers := vset s.notice.offers l none
          won := vset s.notice.won l (some (f.cycle, f.position)) } })) ∧
      (o = .won → f.withdrawn = false →
        let s1 : State := { s with notice := { s.notice with
          offers := vset s.notice.offers l none
          won := vset s.notice.won l (some (f.cycle, f.position))
          queue := if f.replaced then s.notice.queue else s.notice.queue.filter (fun e => e.owner ≠ f.owner) } }
        (f.owner = .presence ∨ (∃ d, f.owner = .decline d) ∨
            (∃ r, f.owner = .rx r ∧ ∀ tag reason, f.body ≠ .dismiss tag reason) →
          exec (.noticeOutcome l result) s = .next (settle s1)) ∧
        (∀ t, f.owner = .tx t → ¬ ((∃ tag n, f.body = .offer tag n) ∧ (txAt s t).state = .offering) →
            ¬ ((∃ tag, f.body = .close tag) ∧ (txAt s t).state = .closing) →
          exec (.noticeOutcome l result) s = .next (settle s1)) ∧
        (∀ r, f.owner = .rx r → (rxAt s r).dismiss = none →
          exec (.noticeOutcome l result) s = .next (settle s1)) ∧
        (∀ t tag n, f.owner = .tx t → f.body = .offer tag n → (txAt s t).state = .offering →
          exec (.noticeOutcome l result) s = .next (settle (s1.modTx t (fun r =>
            { r with offerWait := some 64 })))) ∧
        (∀ t tag, f.owner = .tx t → f.body = .close tag → (txAt s t).state = .closing →
          exec (.noticeOutcome l result) s = .next (settle (endClose t s1))) ∧
        (∀ r tag reason, f.owner = .rx r → f.body = .dismiss tag reason → (rxAt s r).dismiss.isSome = true →
          exec (.noticeOutcome l result) s = .next (settle (endDismiss r s1)))))

/-- What refreshing a station's roster entry does (R58): its age returns to 0, and an ABSENT one becomes PRESENT with
PEER_JOINED; this station's own entry is left alone. -/
def Obligations.HeardStationBecomesPresent : Prop :=
  ∀ (id : StationId) (by_ : HeardBy) (s : State) (i : Fin 62), i.val + 1 = id.toNat →
    (id = ownId s → refresh id by_ s = s) ∧
    (id ≠ ownId s →
      let roster := vset s.roster i { vget s.roster i with present := true, age := 0, heardBy := some by_ }
      ((vget s.roster i).present = true → refresh id by_ s = { s with roster := roster }) ∧
      ((vget s.roster i).present = false → refresh id by_ s = { s with
        roster := roster, port := (s.port.post (.peerJoined id by_)).1 }))

/-- The loader record as an ID clash brings FAILED (R167, R170). -/
def clashed (s : State) : Loader :=
  { s.loader with state := .failed, reading := false, record := none, reason := .idClash }

/-- NOTICE_ARRIVAL (R54 to R56): an empty position does nothing; a check failure and an unknown kind are counted; a
notice under this station's ID is its own where it won the position, else an ID clash that brings FAILED (R167, R170),
as `failedFrom` says whole (R161, log entries 19 and 34); one from a peer refreshes the roster first (log entry 8), then
is dispatched where it is addressed here: PRESENCE to the roster in every state, the other kinds to the engines once
ATTACHED. What the engines do with an OFFER stands in DeclineEntries, with an ACCEPT or DECLINE in
OpenTakesTheLowestVacantRecord, with a CLOSE in DismissDrainsTheRecord, with a DISMISS in CloseHoldsEveryMember, with a
TALLY in TallyShunsAndRestoresMembers. A position won before an adoption in the same cycle is still its own (log entry
11). No effect elsewhere (log entry 1). -/
def Obligations.NoticeArrivalIsCountedOrDispatched : Prop :=
  ∀ (l : LaneNo) (p : Fin 2) (c : CycleNo) (word : BitVec 112) (s : State), s.pins.resetAsserted = false →
    let ownWon := ∃ x, vget s.notice.won l = some (x, p) ∧ OneCycle s l x c
    (¬ s.Running ∨ (laneAt s l).state ≠ .locked ∨ ¬ Passing s l c →
      exec (.noticeArrival l p c word) s = .next (settle s)) ∧
    (s.Running → (laneAt s l).state = .locked → Passing s l c →
      let s1 : State := { s with notice := { s.notice with won := vset s.notice.won l none } }
      (readNotice word = .empty → exec (.noticeArrival l p c word) s = .next (settle s1)) ∧
      (readNotice word = .checkFailure → exec (.noticeArrival l p c word) s = .next (settle (s1.modLane l (fun x =>
        { x with noticeErrors := bump x.noticeErrors })))) ∧
      (readNotice word = .unknown → exec (.noticeArrival l p c word) s = .next (settle (s1.modNotice (fun n =>
        { n with unknownKind := vset n.unknownKind l (bump (vget n.unknownKind l)) })))) ∧
      (∀ sender dest b, readNotice word = .received sender dest b →
        (sender = ownId s → ownWon →
          exec (.noticeArrival l p c word) s = .next (settle s1)) ∧
        (sender = ownId s → ¬ ownWon →
          ∃ t, exec (.noticeArrival l p c word) s = .next (settle t) ∧ t.Still ∧ t.loader.state = .failed ∧
            t.loader.reason = .idClash ∧
            t = failedFrom s (clashed s) (fun padding => .idClash (.notice l (l.val * 2 + p.val)) padding) ∧
            t.port.reports = (s.port.post
              (.idClash (.notice l (l.val * 2 + p.val)) (outputPadding s.port.stage))).1.reports) ∧
        (sender ≠ ownId s →
          let s2 := refresh sender .notice s1
          (dest ≠ ownId s → dest ≠ nobody → exec (.noticeArrival l p c word) s = .next (settle s2)) ∧
          (dest = ownId s ∨ dest = nobody →
            (∀ body i, b = .presence body → i.val + 1 = sender.toNat →
              exec (.noticeArrival l p c word) s = .next (settle (s2.modRoster i (fun e =>
                { e with body := some body })))) ∧
            ((∀ body, b ≠ .presence body) → s.loader.state = .listening →
              exec (.noticeArrival l p c word) s = .next (settle s2)) ∧
            ((∀ body, b ≠ .presence body) → s.loader.state = .attached →
              exec (.noticeArrival l p c word) s = .next (settle (match b with
                | .offer _ _ | .close _ => rxNotice sender dest b s2
                | _ => txNotice sender b s2)))))))

/-- A receive record in a state holds a source and tag (R107). -/
def Holds (s : State) (st : RxState) (source : StationId) (tag : Tag) (r : RecIx) : Prop :=
  (rxAt s r).state = st ∧ (rxAt s r).source = some source ∧ (rxAt s r).tag = some tag

/-- An ACCEPT posted for a receive record's source, not over a TALLY or a DISMISS (R108). -/
def acceptPosted (r : RecIx) (source : StationId) (tag : Tag) (s : State) : State :=
  if (queued s (.rx r)).any (fun e => e.body.kind != 4) then s else postNotice (.rx r) source (.accept tag) s

/-- Decline entries (R51): a request replaces one of the same kind, destination and tag, else takes the lowest-numbered
empty entry with expiry count 0, else is refused and counted; at 64 live cycles DECLINE_ENTRY_EXPIRY withdraws the entry
and counts it, where the station runs and the entry holds a notice. And what an OFFER does at the receive engine (R107):
an ACCEPTED record of the same source with the other tag of the pair is drained first, SUPERSEDED; an OFFER of a record
already ACCEPTED is accepted again (R108); else it is declined, NO_ROOM where a record with that source and tag still
drains, NOT_LISTED where the accept list leaves the source out, NO_ROOM where no record is VACANT; else the lowest
VACANT record takes it, an ACCEPT and TRUNK_ARRIVED are posted and the source's stray of that tag leaves the list. An
OFFER to all stations is ignored. No effect elsewhere (log entry 1). -/
def Obligations.DeclineEntries : Prop :=
  (∀ (dest : StationId) (body : NoticeBody) (d : Fin 4) (s : State),
    let same := fun k : Fin 4 => ∃ e, queued s (.decline k) = some e ∧ e.dest = dest ∧ e.body.kind = body.kind ∧
      e.body.tag? = body.tag?
    (same d → (∀ k < d, ¬ same k) → requestDecline dest body s = (postNotice (.decline d) dest body s, true)) ∧
    ((∀ k, ¬ same k) → queued s (.decline d) = none → (∀ k < d, queued s (.decline k) ≠ none) →
      requestDecline dest body s = (postNotice (.decline d) dest body s, true)) ∧
    ((∀ k, ¬ same k) → (∀ k, queued s (.decline k) ≠ none) →
      requestDecline dest body s =
        ({ s with notice := { s.notice with declineFull := bump s.notice.declineFull } }, false)) ∧
    (s.pins.resetAsserted = false → s.Running → ∀ e, queued s (.decline d) = some e →
      (e.expiry = 64 → exec (.declineEntryExpiry d) s = .next (settle ((withdraw (.decline d) s).modNotice (fun n =>
        { n with declineExpired := bump n.declineExpired })))) ∧
      (e.expiry ≠ 64 → exec (.declineEntryExpiry d) s = .next (settle s))) ∧
    (s.pins.resetAsserted = false → ¬ s.Running ∨ queued s (.decline d) = none →
      exec (.declineEntryExpiry d) s = .next (settle s))) ∧
  (∀ (source dest : StationId) (tag : Tag) (n : BitVec 4) (s : State),
    let offered := fun u : State => rxNotice source (ownId s) (.offer tag n) u
    let declined := fun reason : DeclineReason => (requestDecline source (.decline tag reason) s).1
    let listed := (cfg s).accept = [] ∨ source ∈ (cfg s).accept
    (dest ≠ ownId s → rxNotice source dest (.offer tag n) s = s) ∧
    (∀ r, Holds s .accepted source (tag ^^^ 8) r → (∀ k, k ≠ r → ¬ Holds s .accepted source (tag ^^^ 8) k) →
      offered s = offered (drain r .superseded false s)) ∧
    ((∀ k, ¬ Holds s .accepted source (tag ^^^ 8) k) →
      (∀ r, Holds s .accepted source tag r → (∀ k < r, ¬ Holds s .accepted source tag k) →
        offered s = acceptPosted r source tag s) ∧
      ((∀ k, ¬ Holds s .accepted source tag k) →
        ((∃ k, Holds s .draining source tag k) → offered s = declined .noRoom) ∧
        ((∀ k, ¬ Holds s .draining source tag k) →
          (¬ listed → offered s = declined .notListed) ∧
          (listed → (∀ k, (rxAt s k).state ≠ .vacant) → offered s = declined .noRoom) ∧
          (listed → ∀ r, (rxAt s r).state = .vacant → (∀ k < r, (rxAt s k).state ≠ .vacant) →
            let s1 := acceptPosted r source tag (s.modRx r (fun e => { e with
              state := .accepted, source := some source, tag := some tag, epochSeen := 0, widthSeen := 0
              tally := some (cfg s).tallyPeriod, aligned := Vector.replicate 4 none, next := none, delin := .reset }))
            offered s = { s1 with
              port := (s1.port.post (.trunkArrived r source tag)).1
              rx := { s1.rx with strays := s1.rx.strays.filter (fun y => ¬ (y.owner = source ∧ y.tag = tag)) } })))))

/-- PRESENCE_COUNTDOWN_EXPIRY (R60) and TALLY_TIMER_EXPIRY (R119, R108): the periodic notice is posted and its count
starts again; a TALLY is not posted over a DISMISS. That a PRESENCE holds the counts of its posting until it is offered
is the model's reading of R60, which forms its body at each offer (log entry 48). No effect elsewhere (log entry 1). -/
def Obligations.PeriodicNoticesArePosted : Prop :=
  ∀ (r : RecIx) (s : State), s.pins.resetAsserted = false →
    (s.loader.state = .attached → s.notice.countdown = 0 →
      exec .presenceCountdownExpiry s = .next (settle ((postNotice .presence nobody (.presence {
          owned := BitVec.ofNat 7 (slotCount s (fun x => x == .mine))
          tx := BitVec.ofNat 4 (txOpen s)
          rx := BitVec.ofNat 4 (rxOpen s) }) s).modNotice (fun n => { n with countdown := 256 })))) ∧
    (s.loader.state ≠ .attached ∨ s.notice.countdown ≠ 0 →
      exec .presenceCountdownExpiry s = .next (settle s)) ∧
    (s.Running → (rxAt s r).state = .accepted → (rxAt s r).tally = some 0 →
      ((∀ e, queued s (.rx r) = some e → ∀ tag reason, e.body ≠ .dismiss tag reason) →
        exec (.tallyTimerExpiry r) s = .next (settle ((postNotice (.rx r) ((rxAt s r).source.getD nobody)
          (.tally (tallyBody s r)) s).modRx r (fun e => { e with tally := some (cfg s).tallyPeriod })))) ∧
      (∀ e tag reason, queued s (.rx r) = some e → e.body = .dismiss tag reason →
        exec (.tallyTimerExpiry r) s = .next (settle (s.modRx r (fun e =>
          { e with tally := some (cfg s).tallyPeriod }))))) ∧
    (¬ s.Running ∨ (rxAt s r).state ≠ .accepted ∨ (rxAt s r).tally ≠ some 0 →
      exec (.tallyTimerExpiry r) s = .next (settle s))

/-- The body of a TALLY (R120): the tag, the epoch and width last seen, the good map, in which a sequence is good
where some entry of the view has it as last sequence and is not BAD, the skew flag, set where the trunk skew exceeds
SKEW_LIMIT, and whether the delineator is LOCKED; it is posted for the record's source. -/
def Obligations.TallyBodySaysWhatTheRecordHolds : Prop :=
  ∀ (s : State) (r : RecIx) (tag : Tag), (rxAt s r).tag = some tag →
    (tallyBody s r).tag = tag ∧ (tallyBody s r).echo = (rxAt s r).epochSeen ∧
    (tallyBody s r).width = (rxAt s r).widthSeen ∧
    ((tallyBody s r).delinLocked = true ↔ (rxAt s r).delin.state = .locked) ∧
    ((tallyBody s r).skew = true ↔ (cfg s).skewLimit * 16 < (rxAt s r).skew) ∧
    (∀ seq : Nat, seq < 16 →
      ((tallyBody s r).good.getMsbD seq = true ↔
        ∃ e ∈ (rxAt s r).view, e.seq.toNat = seq ∧ e.health ≠ .bad)) ∧
    ((∀ e, queued s (.rx r) = some e → ∀ tag reason, e.body ≠ .dismiss tag reason) →
      postTally r s = postNotice (.rx r) ((rxAt s r).source.getD nobody) (.tally (tallyBody s r)) s)

/-- What the absence of a station does to one transmit record to it (R97): an OFFERING or OPEN one is torn down, the
close of a CLOSING one ends. -/
def txLeft (id : StationId) (s : State) (t : RecIx) : State :=
  if (txAt s t).sink = some id then
    match (txAt s t).state with
    | .vacant => s
    | .offering | .opened => teardown t .peerAbsent s
    | .closing => endClose t s
  else s

/-- What the absence of a station does to one receive record from it (R123, R124): an ACCEPTED one drains, a dismiss
pending of a DRAINING one ends. -/
def rxLeft (id : StationId) (s : State) (r : RecIx) : State :=
  if (rxAt s r).source = some id then
    match (rxAt s r).state with
    | .accepted => drain r .peerAbsent false s
    | .draining => if (rxAt s r).dismiss = none then s else endDismiss r (withdraw (.rx r) s)
    | .vacant => s
  else s

/-- ROSTER_AGE_EXPIRY (R59): a peer not heard for 1024 flywheel cycles goes ABSENT, its PRESENCE body is cleared and
PEER_LEFT is posted. Then the transmit engine tears down its trunks to the peer, and the receive engine drains those
from it and drops its strays, each in index order (R97, R121, R123; that the transmit engine comes first is the model's
choice, log entry 30); what a teardown and an end of a close do stands in CloseHoldsEveryMember, a drain in
DismissDrainsTheRecord. Lanes, timing and loader never change. No effect elsewhere (log entry 1). -/
def Obligations.RosterAgeExpiryMakesAPeerAbsent : Prop :=
  ∀ (id : StationId) (i : Fin 62) (s : State), s.pins.resetAsserted = false → i.val + 1 = id.toNat →
    (¬ s.Running ∨ id = ownId s ∨ (vget s.roster i).present = false ∨ (vget s.roster i).age ≠ 1024 →
      exec (.rosterAgeExpiry id) s = .next (settle s)) ∧
    (s.Running → id ≠ ownId s → (vget s.roster i).present = true → (vget s.roster i).age = 1024 →
      let left : State := { s with
        roster := vset s.roster i { vget s.roster i with present := false, body := none }
        port := (s.port.post (.peerLeft id)).1 }
      let u := allRecs.foldl (rxLeft id) (allRecs.foldl (txLeft id) left)
      let t : State := { u with rx := { u.rx with strays := u.rx.strays.filter (fun y => y.owner ≠ id) } }
      exec (.rosterAgeExpiry id) s = .next (settle t) ∧
        t.lanes = s.lanes ∧ t.timing = s.timing ∧ t.loader = s.loader ∧ t.roster = left.roster ∧
        ((∀ k, (txAt s k).sink ≠ some id) → (∀ k, (rxAt s k).source ≠ some id) →
          (∀ y ∈ s.rx.strays, y.owner ≠ id) → t = left))


/-! ### Slots (chapter 5) -/

/-- What a slot arrival tells a record (R64, R65, R74, R75): the record after it. `driven` says that this station drove
the slot's header in this cycle, `counted` that its outcome has already raised the header error count (log entry 10). A
peer's header that a CLAIMING or MINE record did not meet by driving its own is not among these. -/
def learnt (driven counted : Bool) (r : SlotRec) (h : HeaderRead) (own : StationId) : SlotRec :=
  match h with
  | .free =>
    { r with
      driven := none
      began := []
      stopped := false
      underWay := []
      ownRun := 0
      quiet := if r.state = .unseen ∨ r.state = .theirs ∨ r.state = .barred then min 2 (r.quiet + 1) else r.quiet
      state := if (r.state = .unseen ∨ r.state = .theirs) ∧ 1 ≤ r.quiet then .free else r.state
      owner := if (r.state = .theirs ∨ r.state = .barred) ∧ 1 ≤ r.quiet then none else r.owner }
  | .fault =>
    { r with
      driven := none
      began := []
      stopped := false
      underWay := []
      ownRun := 0
      quiet := if r.state = .unseen ∨ r.state = .theirs ∨ r.state = .barred then 0 else r.quiet
      headerErrors := if counted then r.headerErrors else bump r.headerErrors }
  | .valid hd =>
    let r := { r with driven := none, began := [], stopped := false, underWay := [] }
    if hd.owner = own then { r with ownRun := if driven then r.ownRun else 1 }
    else if r.state = .claiming ∨ r.state = .mine then { r with ownRun := 0 }
    else if r.state = .barred then { r with ownRun := 0, owner := some hd.owner, quiet := 0 }
    else { r with ownRun := 0, state := .theirs, owner := some hd.owner, claim := 0, quiet := 0, assign := .none
                  handed := false }

/-- SLOT_ARRIVAL (R5, R15, R28, R64, R74, R75) on a LOCKED lane of a station that runs, LISTENING or ATTACHED: the lane
counts a header fault, the roster is refreshed by a peer's header, and the slot record learns: two free arrivals in a
row make it FREE, a peer's header THEIRS (an owner of 0 too, log entry 58). The refresh and its PEER_JOINED come first
(log entry 8). A CLAIMING or MINE record whose header was not driven in the cycle (log entry 11) is lost to a peer's
header. What the record kept of a cycle under way is kept until the arrival (log entries 44, 61 and 70). A header this
station drove itself leaves the own-ID run as its outcome left it (log entry 82). A second header running under this
station's ID that it did not drive brings FAILED, as `failedFrom` says whole (R161, R167, log entries 19 and 34). Once
ATTACHED the receive engine then takes the arrival (SlotArrivalReachesBothBlocksOnceAttached): that the slot unit comes
first, and that after FAILED the receive engine takes nothing, is the model's choice (log entry 69). -/
def Obligations.SlotArrivalTeachesTheSlotMap : Prop :=
  ∀ (a : SlotAddr) (c : CycleNo) (header : BitVec 40) (payload : Vector Byte 32) (s : State),
    s.pins.resetAsserted = false → s.Running → (laneAt s (laneOf a)).state = .locked → SlotPassing s a c →
    ∀ driven counted : Bool,
    (driven = true ↔ ∃ d, (slotAt s a).driven = some d ∧ OneCycle s (laneOf a) d.cycle c) →
    (counted = true ↔ driven = true ∧ ∃ d, (slotAt s a).driven = some d ∧ d.counted = true) →
    let h := readHeader header
    let s1 := s.modLane (laneOf a) (fun x =>
      { x with headerErrors := if h = .fault then bump x.headerErrors else x.headerErrors })
    let s2 := match h with
      | .valid hd => refresh hd.owner .header s1
      | _ => s1
    let delivers := fun t : State => exec (.slotArrival a c header payload) s =
      .next (settle (if t.loader.state = .attached then rxArrival a c h payload.toList t else t))
    ((∀ hd, h = .valid hd → driven = false → hd.owner = ownId s → (slotAt s a).ownRun = 0) →
      (∀ hd, h = .valid hd → driven = false → hd.owner ≠ ownId s →
        (slotAt s a).state ≠ .claiming ∧ (slotAt s a).state ≠ .mine) →
      delivers (s2.modSlot a (fun r => learnt driven counted r h (ownId s)))) ∧
    (∀ hd, h = .valid hd → driven = false → hd.owner = ownId s → (slotAt s a).ownRun ≠ 0 →
      ∃ t, exec (.slotArrival a c header payload) s = .next (settle t) ∧ t.Still ∧ t.loader.state = .failed ∧
        t.loader.reason = .idClash ∧ t = failedFrom s (clashed s) (fun padding => .idClash (.slot a) padding) ∧
        t.port.reports = (s.port.post (.idClash (.slot a) (outputPadding s.port.stage))).1.reports) ∧
    (∀ hd, h = .valid hd → driven = false → hd.owner ≠ ownId s →
      let s3 := s2.modSlot a (fun r => { r with
        driven := none, began := [], stopped := false, underWay := [], ownRun := 0 })
      let taken := fun r : SlotRec => { r with
        state := .theirs, owner := some hd.owner, claim := 0, quiet := 0, assign := .none, handed := false }
      ((slotAt s a).state = .claiming → delivers
        (lookIf (claimInService s3 a) (handEnd a false
          ((s3.modSlots (fun u => { u with lost := bump u.lost })).modSlot a taken)))) ∧
      ((slotAt s a).state = .mine → delivers
        (lookIf (!(slotAt s a).handed) (mineLost a (slotAt s3 a) (some hd.owner)
          ((s3.modSlots (fun u => { u with seizures := bump u.seizures })).modSlot a taken)))))

/-- A header addressed here is one of a trunk (R109): not SPARE, and record r is the first outside VACANT that holds its
owner and tag. -/
def TrunkHeader (s : State) (hd : Header) (r : RecIx) : Prop :=
  hd.sink = ownId s ∧ hd.role ≠ .spare ∧
    ((rxAt s r).state ≠ .vacant ∧ (rxAt s r).source = some hd.owner ∧ (rxAt s r).tag = some hd.tag) ∧
    ∀ k < r, ¬ ((rxAt s k).state ≠ .vacant ∧ (rxAt s k).source = some hd.owner ∧ (rxAt s k).tag = some hd.tag)

/-- A slot newly seen joins a receive record's view (R110): its lane's lag is noted where none is, the trunk skew is
recomputed (R117), and a TALLY is posted, not over a DISMISS (R119, R108). -/
def joined (r : RecIx) (a : SlotAddr) (view : List ViewEntry) (s : State) : State :=
  let s1 := s.modRx r (fun e => { e with
    view := view
    aligned := if vget e.aligned (laneOf a) = none then vset e.aligned (laneOf a) (laneAt s (laneOf a)).lag
      else e.aligned })
  let s2 := s1.modRx r (fun e => { e with skew := viewSkew s1 view })
  if (queued s2 (.rx r)).any (fun e => e.body.kind == 2) then s2
  else postNotice (.rx r) ((rxAt s2 r).source.getD nobody) (.tally (tallyBody s2 r)) s2

/-- SLOT_ARRIVAL at the receive engine, once ATTACHED (R15, R109), after the slot unit, and not where that found an ID
clash, which brought FAILED: this order is the model's choice, R15 giving none (log entry 69). Every record notes the
lane position, each ACCEPTED record takes the arrival in index order (log entry 65), as a header of its trunk, free,
faulty or foreign, and a header addressed here whose trunk is held by no record is a stray
(DismissDeadlineAndStrayExpiry). A record takes what is its trunk's or passes on a lane of its view: cycles that have
come to their deadline, SKEW_LIMIT + 1 cycles back, complete first; then a header of the trunk updates its entry in the
view or enters it, in a full view in place of the entry absent longest (R110); then the item is stored in the entry of
its cycle modulo 8, unless the slot is not in the view or the cycle has completed (R111; such a header is seen all the
same, the model's choice, log entry 84; what is stored of a slot that leaves the view stays, log entry 66); then cycles
complete in turn while every lane of the view is LOCKED and past its last slot in view (R112). That order is the model's
reading (log entry 23). CompletedCycleIsJudged says what a completion does. An arrival on a lane that is not LOCKED, or
whose number the lane does not carry (R5), or while the station does not run, is not delivered: no effect there (log
entry 1). -/
def Obligations.SlotArrivalReachesBothBlocksOnceAttached : Prop :=
  (∀ (a : SlotAddr) (c : CycleNo) (header : BitVec 40) (payload : Vector Byte 32) (s : State),
    s.pins.resetAsserted = false →
    (¬ s.Running ∨ (laneAt s (laneOf a)).state ≠ .locked ∨ ¬ SlotPassing s a c →
      exec (.slotArrival a c header payload) s = .next (settle s)) ∧
    (s.loader.state = .attached → (laneAt s (laneOf a)).state = .locked → SlotPassing s a c →
      let h := readHeader header
      ∀ s1, s1 = learn a c h (countFault (laneOf a) h s) → s1.loader.state = .attached →
        exec (.slotArrival a c header payload) s = .next (settle (rxArrival a c h payload.toList s1)))) ∧
  (∀ (a : SlotAddr) (c : CycleNo) (h : HeaderRead) (payload : List Byte) (s : State),
    let s1 : State := { s with rx := { s.rx with recs := vmap (fun e =>
      { e with lanePos := vset e.lanePos (laneOf a) (some (c, slotIx a)) }) s.rx.recs } }
    ∃ (what : RecIx → Taken) (s2 : State),
      s2 = allRecs.foldl (fun x r => if (rxAt x r).state = .accepted then takeArrival r a c (what r) x else x) s1 ∧
      (h = .free → ∀ r, what r = .other .free) ∧ (h = .fault → ∀ r, what r = .other .faulty) ∧
      (∀ hd, h = .valid hd → ∀ r,
        (TrunkHeader s hd r → what r = .trunk hd.seq hd.role hd.epoch hd.width payload) ∧
        (¬ TrunkHeader s hd r → what r = .other (.foreign hd.owner))) ∧
      (∀ hd, h = .valid hd → hd.sink = ownId s → hd.role ≠ .spare → (∀ r, ¬ TrunkHeader s hd r) →
        rxArrival a c h payload s = takeStray hd.owner hd.tag c s2) ∧
      ((∀ hd, h = .valid hd → hd.sink ≠ ownId s ∨ hd.role = .spare ∨ ∃ r, TrunkHeader s hd r) →
        rxArrival a c h payload s = s2)) ∧
  (∀ (r : RecIx) (a : SlotAddr) (c : CycleNo) (x : Taken) (s : State),
    let lane := laneOf a
    let ours := ∃ seq role epoch width payload, x = .trunk seq role epoch width payload
    let concerned := ours ∨ ∃ e ∈ (rxAt s r).view, laneOf e.slot = lane
    let item := match x with
      | .trunk seq role epoch width payload =>
        .header seq role epoch width (if role = .hold then [] else payload)
      | .other i => i
    (¬ concerned → takeArrival r a c x s = s) ∧
    (concerned → ∃ s1, (∀ i, x = .other i → s1 = completeDue r c 128 s) ∧
      (∀ seq role epoch width payload, x = .trunk seq role epoch width payload →
        s1 = seeHeader r a seq role (completeDue r c 128 s)) ∧
      takeArrival r a c x s = completeDone r 8 (store r c a item s1)) ∧
    (∀ k n, (rxAt s r).next = some n → completeDue r c (k + 1) s =
      if (cfg s).skewLimit + 1 ≤ (c - n).toInt then completeDue r c k (completeNext r s) else s) ∧
    ((rxAt s r).next = none → ∀ k, completeDue r c k s = s ∧ completeDone r k s = s) ∧
    (∀ k n, (rxAt s r).next = some n →
      let done := ∀ e ∈ (rxAt s r).view, (laneAt s (laneOf e.slot)).state = .locked ∧
        ∃ p, vget (rxAt s r).lanePos (laneOf e.slot) = some p ∧
          (0 < (p.1 - n).toInt ∨ p.1 = n ∧ (slotIx e.slot).val ≤ p.2.val)
      (done → completeDone r (k + 1) s = completeDone r k (completeNext r s)) ∧
      (¬ done → completeDone r (k + 1) s = s)) ∧
    (∀ seq role,
      let view := (rxAt s r).view
      let entry : ViewEntry := { slot := a, seq := seq, role := role, health := .bad
                                 reason := some (if role = .probe then .probe else .absent)
                                 unclean := 0, clean := 0, absent := 0 }
      ((∃ e ∈ view, e.slot = a) → seeHeader r a seq role s = s.modRx r (fun e => { e with
        view := view.map (fun y => if y.slot = a then { y with seq := seq, role := role } else y) })) ∧
      ((∀ e ∈ view, e.slot ≠ a) →
        (view.length < 16 → seeHeader r a seq role s = joined r a (view ++ [entry]) s) ∧
        (16 ≤ view.length → (∀ e ∈ view, e.absent ≤ 16) →
          ((∀ e ∈ view, e.absent = 0) → seeHeader r a seq role s = s) ∧
          (∀ b ∈ view, 0 < b.absent → (∀ e ∈ view, e.absent < b.absent ∨ e.absent = b.absent ∧ b.slot ≤ e.slot) →
            seeHeader r a seq role s = joined r a (view.filter (fun e => e.slot ≠ b.slot) ++ [entry]) s)))) ∧
    (∀ i : Item,
      let ix : Fin 8 := Fin.ofNat 8 c.toNat
      let kept := match vget (rxAt s r).align ix with
        | some y => if y.cycle = c then y.items else []
        | none => []
      let stored := fun (e : RxRec) (next : CycleNo) => { e with
        next := some next
        align := vset e.align ix (some { cycle := c, items := kept.filter (fun p => p.1 ≠ a) ++ [(a, i)] }) }
      ((∀ e ∈ (rxAt s r).view, e.slot ≠ a) → store r c a i s = s) ∧
      ((∃ e ∈ (rxAt s r).view, e.slot = a) →
        ((rxAt s r).next = none → store r c a i s = s.modRx r (fun e => stored e c)) ∧
        (∀ n, (rxAt s r).next = some n →
          ((c - n).toInt < 0 → store r c a i s = s) ∧
          (0 ≤ (c - n).toInt → store r c a i s = s.modRx r (fun e => stored e n))))))

/-- A slot header and payload that this station supplies (R9, R73, R100, R102). -/
def spare (s : State) (a : SlotAddr) : StagedSlot where
  slot := a
  header := { owner := ownId s, sink := 63, tag := 0, seq := 0, role := .spare, epoch := 0, width := 0 }
  payload := List.replicate 32 0

/-- SLOT_HEADER_OUTCOME (R66, R72, R74, R75): of a claim, WON raises the claim count and at the third wins it, LOST IN
FIELD gives the slot to the owner read (63 and 0 too, log entry 58), another loss abandons it; of a MINE slot, LOST IN
FIELD is a seizure and any other outcome keeps it (LOST BEFORE FIELD is taken as any loss, log entry 47). A header as
read with a correct check under this station's ID, twice running, brings FAILED, as `failedFrom` says whole (R161, R167,
log entries 19 and 34). Where the conditions of R8 do not hold for the cycle the outcome is ABANDONED (log entry 62).
This station's driving of the cycle is kept for its arrival (log entries 10 and 11). Of a slot released while its header
was driven only the ID clash rule takes the outcome (R65, R75, log entry 44), of a withdrawn claim nothing does (R67),
but for that keeping. The slot carries what R73 and R102 give: a claim and a spare slot SPARE, a member what its trunk's
staged cycle lists for it, where no election has begun since (R101, log entry 51), else SPARE; but what the slot of the
cycle began with, where its record keeps that: after a release (R65), or a formation that came later (log entry 61). The
header is driven while the cycle may be (R8): that of a CLAIMING or MINE record; but of a cycle that may have been under
way at the record's release or its claim's beginning, exactly where the record was CLAIMING or MINE as the slot began
(R65 to R67), which the sender knows (log entry 70). The payload is driven only where the header was WON (R6, R9), to
its end. No effect elsewhere (log entry 1). -/
def Obligations.SlotHeaderOutcomeSettlesTheClaim : Prop :=
  (∀ (a : SlotAddr) (c : CycleNo) (result : ReadBack 40) (s : State), s.pins.resetAsserted = false →
    let began := Passing s (laneOf a) c ∨ (laneAt s (laneOf a)).former = some c
    (¬ s.Running ∨ ¬ began ∨
        ((slotAt s a).state ≠ .claiming ∧ (slotAt s a).state ≠ .mine ∧ (slotAt s a).state ≠ .barred) →
      exec (.slotHeaderOutcome a c result) s = .next (settle s)) ∧
    (s.Running → began → ∀ failed : Bool,
      (failed = true ↔ ∃ x, (laneAt s (laneOf a)).r8Failed = some x ∧ OneCycle s (laneOf a) x c) →
      let o := if drives s (laneOf a) c then headerOutcomeOf (sentHeader s a c) result else .abandoned
      let driven := if failed then (slotAt s a).driven else some { cycle := c, won := o == .won, counted := false }
      let s0 := s.modSlot a (fun r => { r with driven := driven })
      let s1 := s.modSlot a (fun r => { r with driven := driven, ownRun := 0 })
      let read : StationId := field (ReadBack.word result) 0 6
      let taken := fun r : SlotRec => { r with
        state := .theirs, owner := some read, claim := 0, quiet := 0, assign := .none, handed := false }
      let barred := fun r : SlotRec => { r with
        state := .barred, owner := none, claim := 0, quiet := 0, assign := .none, handed := false, bar := 8
        underWay := [] }
      let corrupted := fun r : SlotRec => { r with
        ownRun := 0, headerErrors := bump r.headerErrors
        driven := r.driven.map (fun d => { d with counted := true }) }
      let clashes := fun u : State => ∃ t, exec (.slotHeaderOutcome a c result) s = .next (settle t) ∧ t.Still ∧
        t.loader.state = .failed ∧ t.loader.reason = .idClash ∧
        t = failedFrom u (clashed s) (fun padding => .idClash (.slot a) padding)
      ((slotAt s a).state = .claiming →
        (o = .won → (slotAt s a).claim < 2 → exec (.slotHeaderOutcome a c result) s = .next (settle
          (s1.modSlot a (fun r => { r with claim := r.claim + 1 })))) ∧
        (∀ q, o = .won → 2 ≤ (slotAt s a).claim → requestOf s1 a = some q →
          exec (.slotHeaderOutcome a c result) s = .next (settle (lookIf (claimInService s a) (handEnd a true
            ((s1.modSlots (fun u => { u with won := bump u.won })).modSlot a (fun r => { r with
              state := .mine, claim := 0, assign := .spare q.tx, handed := q.phase == .ended })))))) ∧
        (o = .lostIn → exec (.slotHeaderOutcome a c result) s = .next (settle (lookIf (claimInService s a)
          (handEnd a false ((s1.modSlots (fun u => { u with lost := bump u.lost })).modSlot a taken))))) ∧
        (o = .abandoned ∨ o = .lostBefore →
          exec (.slotHeaderOutcome a c result) s = .next (settle (lookIf (claimInService s a)
            (handEnd a false ((s1.modSlots (fun u => { u with abandoned := bump u.abandoned })).modSlot a
              barred))))) ∧
        (∀ ok u, o = .lostAfter ok → u = lookIf (claimInService s a) (handEnd a false
            ((s0.modSlots (fun u => { u with abandoned := bump u.abandoned })).modSlot a barred)) →
          (ok = false → exec (.slotHeaderOutcome a c result) s = .next (settle (u.modSlot a corrupted))) ∧
          (ok = true → (slotAt u a).ownRun = 0 → exec (.slotHeaderOutcome a c result) s = .next (settle
            (u.modSlot a (fun r => { r with ownRun := 1 })))) ∧
          (ok = true → (slotAt u a).ownRun ≠ 0 → clashes u))) ∧
      ((slotAt s a).state = .barred → (slotAt s a).stopped = true →
        exec (.slotHeaderOutcome a c result) s = .next (settle s0)) ∧
      ((slotAt s a).state = .barred → (slotAt s a).stopped = false → o = .lostIn →
        exec (.slotHeaderOutcome a c result) s = .next (settle s1)) ∧
      ((slotAt s a).state = .mine → o = .lostIn →
        exec (.slotHeaderOutcome a c result) s = .next (settle (lookIf (!(slotAt s a).handed)
          (mineLost a (slotAt s1 a) (some read)
            ((s1.modSlots (fun u => { u with seizures := bump u.seizures })).modSlot a taken))))) ∧
      ((slotAt s a).state = .mine ∨ (slotAt s a).state = .barred ∧ (slotAt s a).stopped = false →
        (o = .won ∨ o = .abandoned ∨ o = .lostBefore →
          exec (.slotHeaderOutcome a c result) s = .next (settle s1)) ∧
        (o = .lostAfter false →
          exec (.slotHeaderOutcome a c result) s = .next (settle (s0.modSlot a corrupted))) ∧
        (o = .lostAfter true → (slotAt s a).ownRun = 0 → exec (.slotHeaderOutcome a c result) s = .next (settle
          (s0.modSlot a (fun r => { r with ownRun := 1 })))) ∧
        (o = .lostAfter true → (slotAt s a).ownRun ≠ 0 → clashes s0)))) ∧
  (∀ (a : SlotAddr) (c : CycleNo) (s : State) (x : StagedSlot),
    let r := slotAt s a
    let fresh := ∀ p ∈ r.began, p.1 ≠ c
    (r.state = .claiming ∧ x = spare s a ∨
      (r.state = .mine ∨ r.state = .barred) ∧
        (∃ before after, r.began = before ++ (c, x) :: after ∧ ∀ p ∈ before, p.1 ≠ c) ∨
      r.state = .barred ∧ fresh ∧ x = spare s a ∨
      r.state = .mine ∧ fresh ∧ (∀ t seq, r.assign ≠ .member t seq) ∧ x = spare s a ∨
      r.state = .mine ∧ fresh ∧ ∃ t seq, r.assign = .member t seq ∧
        let staged := vget (txAt s t).staging (Fin.ofNat 8 c.toNat)
        ((∀ e, staged = some e → e.cycle ≠ c ∨ e.stale = true ∨ ∀ y ∈ e.slots, y.slot ≠ a) ∧ x = spare s a ∨
          ∃ e before after, staged = some e ∧ e.cycle = c ∧ e.stale = false ∧ e.slots = before ++ x :: after ∧
            x.slot = a ∧ ∀ y ∈ before, y.slot ≠ a)) →
    sentHeader s a c = encodeHeader x.header ∧
    (∀ held : Bool,
      ((∃ y ∈ r.underWay, OneCycle s (laneOf a) y c) → headerDriven s a c held =
        if drives s (laneOf a) c = true ∧ held = true then some x.header else none) ∧
      ((∀ y ∈ r.underWay, ¬ OneCycle s (laneOf a) y c) → headerDriven s a c held =
        if drives s (laneOf a) c = true ∧ r.state ≠ .barred then some x.header else none)) ∧
    (∀ d now, r.driven = some d → d.cycle = c →
      (drives s (laneOf a) now = true → d.won = true → OneCycle s (laneOf a) c now →
        payloadDriven s a now = some x.payload) ∧
      (drives s (laneOf a) now = false ∨ d.won = false ∨ ¬ OneCycle s (laneOf a) c now →
        payloadDriven s a now = none)) ∧
    (r.driven = none → payloadDriven s a c = none))

/-- CLAIM_CYCLE_NOT_DRIVEN (R66): a claim whose cycle the conditions of R8 leave undriven is abandoned: counted, the
slot BARRED for 8 flywheel cycles, the loss handed, and the arbiter looks where the request is in service.
BAR_COUNTDOWN_EXPIRY (R65), after the look of the same flywheel cycle start (log entry 87): a BARRED record whose bar
has ended becomes FREE where no owner has been heard, else THEIRS, its quiet count kept (of a FREE one the model's
choice, log entry 86). No effect elsewhere (log entries 1 and 43). -/
def Obligations.ClaimNotDrivenBarsTheSlotAndTheBarEnds : Prop :=
  (∀ (a : SlotAddr) (c : CycleNo) (s : State), s.pins.resetAsserted = false →
    (¬ s.Running ∨ (slotAt s a).state ≠ .claiming ∨ ¬ Passing s (laneOf a) c ∨ drives s (laneOf a) c = true →
      exec (.claimCycleNotDriven a c) s = .next (settle s)) ∧
    (s.Running → (slotAt s a).state = .claiming → Passing s (laneOf a) c → drives s (laneOf a) c = false →
      exec (.claimCycleNotDriven a c) s = .next (settle (lookIf (claimInService s a) (handEnd a false
        ((s.modSlots (fun u => { u with abandoned := bump u.abandoned })).modSlot a (fun r => { r with
          state := .barred, owner := none, claim := 0, quiet := 0, assign := .none, handed := false
          bar := 8, underWay := [] }))))))) ∧
  (∀ (a : SlotAddr) (s : State), s.pins.resetAsserted = false →
    (¬ s.Running ∨ (slotAt s a).state ≠ .barred ∨ (slotAt s a).bar ≠ 0 →
      exec (.barCountdownExpiry a) s = .next (settle s)) ∧
    (s.Running → (slotAt s a).state = .barred → (slotAt s a).bar = 0 →
      exec (.barCountdownExpiry a) s = .next (settle (s.modSlot a (fun r =>
        { r with state := if r.owner.isSome then .theirs else .free })))))

/-- The record of a slot that ends as a release (R65): BARRED for 8 flywheel cycles. -/
def barred (r : SlotRec) : SlotRec :=
  { r with state := .barred, owner := none, claim := 0, quiet := 0, assign := .none, handed := false, bar := 8
           underWay := [] }

/-- The record of a MINE slot released in state s (R65): BARRED, and keeping what a cycle of it may have begun with, so
that it runs to its end so: what the record kept, then what its trunk's staging lists for it and no election has
overtaken; and which cycles may have been under way (log entry 70). -/
def released (s : State) (a : SlotAddr) : SlotRec :=
  let listed := fun t : RecIx => (txAt s t).staging.toList.flatMap (fun x => match x with
    | some e => if e.stale then [] else ((e.slots.find? (fun y => y.slot == a)).map (fun y => (e.cycle, y))).toList
    | none => [])
  { barred (slotAt s a) with
    underWay := slotCycles s a
    began := (slotAt s a).began ++ match (slotAt s a).assign with
      | .member t _ => listed t
      | .spare _ | .none => [] }

/-- From s to u the slots listed that are MINE have ended as releases (R65); nothing else has changed. -/
def Releases (slots : List SlotAddr) (s u : State) : Prop :=
  u = { s with slots := { s.slots with recs := u.slots.recs } } ∧
  ∀ a, slotAt u a = if a ∈ slots ∧ (slotAt s a).state = .mine then released s a else slotAt s a

/-- From s to u one transmit record has changed as given, and each of its members whose slot is MINE has that slot
assigned to it under its sequence (R73, R82); nothing else has changed. -/
def Reseated (t : RecIx) (f : TxRec → TxRec) (s u : State) : Prop :=
  u.tx = vset s.tx t (f (txAt s t)) ∧ u = { s with tx := u.tx, slots := { s.slots with recs := u.slots.recs } } ∧
  let slots := (f (txAt s t)).members.map (fun m => m.slot)
  (∀ a, a ∉ slots → slotAt u a = slotAt s a) ∧
  (slots.Nodup → ∀ i a, slots[i]? = some a → slotAt u a =
    if (slotAt s a).state = .mine then { slotAt s a with assign := .member t i } else slotAt s a)

/-- The members of a record with one edit of the layout (R82): the epoch advances where the layout mark was FORMED. -/
def edited (ms : List Member) (r : TxRec) : TxRec :=
  if r.due = true then { r with members := ms }
  else { r with members := ms, epoch := r.epoch + 1, epochs := bump r.epochs, due := true }

/-- New PROBE members at the top of the sequence order (R84, R85): each with 48 live cycles, and the change in PROBE
with the latest deadline of the probing members. -/
def probed (slots : List SlotAddr) (r : TxRec) : TxRec :=
  let ms : List Member :=
    r.members ++ slots.map (fun a => { slot := a, role := .probe, restore := 0, deadline := 48 })
  { r with
    members := ms
    change := r.change.map (fun c => { c with
      phase := .probe
      deadline := some (((ms.filter (fun m => m.role == .probe)).map (fun m => m.deadline)).foldl max 0) }) }

/-- What the arbiter is handed at the end of a claim (R68, R72): the slot leaves the running claims of its request, a
win joins the won list of a request in service, and an ENDED request hands a late result. A late win becomes a PROBE
member of a GROW in PROBE that still wants one, else its slot is released; a late result lowers the late claims
outstanding of a GROW, of a newer one than the claim ran for too, and not below 0 (the model's choice, log entry 80);
and a GROW in PROBE with no probing member and none outstanding ends PROBE_FAILED (R85). A member joins or leaves with
the new sequences handed to the slot unit (R73); a layout edit advances the epoch once until a cycle carries it (R82).
The loss of a MINE slot (R94): one not yet handed leaves the won list of its request (R71); a member of an OPEN record
leaves its list as a layout edit with SLOT_SEIZED, and its GROW, SHRINK or DROP goes on without it, into CONFIRM where
no member is left (R87); one of a CLOSING record leaves without an edit; of a slot that is no member there is no effect.
A probe deadline of the change is not computed again when a probing member is lost (log entry 40). -/
def Obligations.EndOfAClaimIsHandedToItsRequest : Prop :=
  (∀ (a : SlotAddr) (won : Bool) (q : ClaimReq) (before after : List ClaimReq) (s : State),
    s.slots.queue = before ++ q :: after → a ∈ q.running → (∀ x ∈ before ++ after, a ∉ x.running) →
    (∀ x ∈ before ++ after, x.phase ≠ .ended ∨ x.running ≠ []) →
    let q' : ClaimReq := { q with
      running := q.running.erase a, won := if won = true ∧ q.phase = .inService then q.won ++ [a] else q.won }
    (q.phase ≠ .ended → handEnd a won s =
      { s with slots := { s.slots with queue := before ++ q' :: after } }) ∧
    (q.phase = .ended → handEnd a won s = lateResult q.tx (if won then some a else none)
      { s with slots := { s.slots with
        queue := if q.running.erase a = [] then before ++ after else before ++ q' :: after } })) ∧
  (∀ (t : RecIx) (win : Option SlotAddr) (s : State),
    let wanted := ∃ c, (txAt s t).change = some c ∧ c.kind = .grow ∧ c.phase = .probe ∧
      ((txAt s t).members.filter (fun m => m.role == .probe)).length < c.arg
    ∃ s1, (win = none → s1 = s) ∧ (∀ a, win = some a → wanted → s1 = addProbes t [a] s) ∧
      (∀ a, win = some a → ¬ wanted → Releases [a] s s1) ∧
      lateResult t win s = testProbe t (s1.modTx t (fun r => { r with change := r.change.map (fun c =>
        if c.kind = .grow then { c with late := c.late - 1 } else c) }))) ∧
  (∀ (t : RecIx) (s : State),
    let failed := (∀ m ∈ (txAt s t).members, m.role ≠ .probe) ∧
      ∃ c, (txAt s t).change = some c ∧ c.kind = .grow ∧ c.phase = .probe ∧ c.late = 0
    (failed → testProbe t s = endChange t .probeFailed s) ∧ (¬ failed → testProbe t s = s)) ∧
  (∀ (t : RecIx) (ms : List Member) (slots : List SlotAddr) (s : State),
    Reseated t (fun r => { r with members := ms }) s (setMembers t ms s) ∧
    Reseated t (edited ms) s (editMembers t ms s) ∧ Reseated t (probed slots) s (addProbes t slots s)) ∧
  (∀ (a : SlotAddr) (old : SlotRec) (newOwner : Option StationId) (s : State),
    (old.handed = false → mineLost a old newOwner s =
      { s with slots := { s.slots with queue := s.slots.queue.map (fun q => { q with won := q.won.erase a }) } }) ∧
    (old.handed = true → (∀ t seq, old.assign ≠ .member t seq) → mineLost a old newOwner s = s) ∧
    (∀ t seq, old.handed = true → old.assign = .member t seq →
      mineLost a old newOwner s = memberLost t a newOwner s)) ∧
  (∀ (t : RecIx) (a : SlotAddr) (newOwner : Option StationId) (s : State),
    ((∀ m ∈ (txAt s t).members, m.slot ≠ a) → memberLost t a newOwner s = s) ∧
    (∀ before m after, (txAt s t).members = before ++ m :: after → m.slot = a → (∀ x ∈ before, x.slot ≠ a) →
      let rest := (txAt s t).members.filter (fun x => x.slot ≠ a)
      ((txAt s t).state ≠ .opened → memberLost t a newOwner s = setMembers t rest s) ∧
      ((txAt s t).state = .opened →
        let s1 := editMembers t rest s
        memberLost t a newOwner s = confirmIfEmpty t (testProbe t { s1 with
          port := (s1.port.post (.slotSeized t a before.length m.role newOwner (txAt s1 t).epoch)).1 })))) ∧
  (∀ (t : RecIx) (s : State),
    ((∀ c, (txAt s t).change = some c → c.phase ≠ .switchWait ∨ (txAt s t).members ≠ []) →
      confirmIfEmpty t s = s) ∧
    (∀ c, (txAt s t).change = some c → c.phase = .switchWait → (txAt s t).members = [] →
      confirmIfEmpty t s = s.modTx t (fun r => { r with
        change := some { c with phase := .confirm, deadline := some 64 } })))

/-- A claim begins (R66): the slot is CLAIMING under this station's ID and joins the running claims of the request; a
cycle of it under way is not the claim's (log entry 70). -/
def claiming (a : SlotAddr) (queue : List ClaimReq) (s : State) : State :=
  { s with slots := { s.slots with
    queue := queue
    recs := vset s.slots.recs a { slotAt s a with
      state := .claiming, owner := some (ownId s), claim := 0, quiet := 0, ownRun := 0, driven := none
      began := [], stopped := false, underWay := slotCycles s a } } }

/-- CLAIM_WAIT_EXPIRY (R71): the request in service ends; its won slots are marked as handed and its result is handed
with the number of claims still running; it leaves the queue unless claims run, then without a wait (log entry 77); the
arbiter looks for the next. A result (R84) that finds its GROW in CLAIM makes PROBE members of its slots, or ends the
GROW NO_SLOTS where it has none; one that finds no such GROW has its slots released. A request joins the queue and
enters service where none is in service; the ninth is refused as a result with no slots (R67). A look (R68, R71) begins
claims for the request in service on the best eligible slots while it wants more, one after another; ends the request
where its count is reached, or where no claim runs while the unit follows or paces; then the next WAITING request enters
service with a wait of 24 live cycles. A withdrawal (R67) takes every request of the record (log entry 57): its running
claims end as releases, the outcome of a cycle under way being discarded, and are not counted as abandoned (log entry
29), its won slots are released, nothing is handed, and where one was in service the next enters. No effect elsewhere
(log entry 1). -/
def Obligations.ClaimWaitExpiryEndsTheRequest : Prop :=
  (∀ s : State, s.pins.resetAsserted = false →
    (¬ s.Running ∨ (∀ q, inService s = some q → q.wait ≠ some 0) → exec .claimWaitExpiry s = .next (settle s)) ∧
    (∀ q, s.Running → inService s = some q → q.wait = some 0 →
      exec .claimWaitExpiry s = .next (settle (look (endService s))))) ∧
  (∀ (s : State) (before after : List ClaimReq) (q : ClaimReq),
    s.slots.queue = before ++ q :: after → q.phase = .inService →
    (∀ x ∈ before ++ after, x.phase ≠ .inService ∧ (x.phase ≠ .ended ∨ x.running ≠ [])) →
      ∃ s1, endService s = growResult q.tx q.won q.running.length s1 ∧
        s1 = { s with slots := { s.slots with recs := s1.slots.recs, queue := s1.slots.queue } } ∧
        (∀ a, slotAt s1 a = if a ∈ q.won then { slotAt s a with handed := true } else slotAt s a) ∧
        s1.slots.queue = if q.running = [] then before ++ after
          else before ++ { q with won := [], wait := none, phase := .ended } :: after) ∧
  (∀ (t : RecIx) (won : List SlotAddr) (running : Nat) (s : State),
    (∀ c, (txAt s t).change = some c → c.kind = .grow → c.phase = .claim →
      (won = [] → growResult t won running s = endChange t .noSlots s) ∧
      (won ≠ [] → growResult t won running s =
        addProbes t won (s.modTx t (fun r => { r with change := some { c with late := running } })))) ∧
    ((∀ c, (txAt s t).change = some c → c.kind ≠ .grow ∨ c.phase ≠ .claim) →
      Releases won s (growResult t won running s))) ∧
  (∀ (t : RecIx) (k : Nat) (s : State),
    let s1 : State := { s with slots := { s.slots with queue := s.slots.queue ++
      [{ tx := t, count := k, won := [], running := [], wait := none, phase := .waiting }] } }
    (8 ≤ s.slots.queue.length → postClaim t k s = growResult t [] 0 s) ∧
    (s.slots.queue.length < 8 → postClaim t k s = if inService s = none then look s1 else s1)) ∧
  (∀ s : State, look s = serve (2 * s.slots.queue.length + 1) s) ∧
  (∀ (n : Nat) (s : State),
    (∀ before q after, s.slots.queue = before ++ q :: after → q.phase = .waiting →
      (∀ x ∈ before, x.phase ≠ .waiting) → (∀ x ∈ before ++ after, x.phase ≠ .inService) →
      serve (n + 1) s = serve n { s with slots := { s.slots with
        queue := before ++ { q with wait := some 24, phase := .inService } :: after } }) ∧
    ((∀ q ∈ s.slots.queue, q.phase = .ended) → serve n s = s) ∧
    (∀ q, inService s = some q → ∀ q', inService (beginClaims 16 s) = some q' →
      let done := q'.count ≤ q'.won.length ∨
        (s.timing.role = .following ∨ s.timing.role = .pacing) ∧ q'.running = []
      (done → serve (n + 1) s = serve n (endService (beginClaims 16 s))) ∧
      (¬ done → serve (n + 1) s = beginClaims 16 s))) ∧
  (∀ (n : Nat) (s : State) (before after : List ClaimReq) (q : ClaimReq),
    s.slots.queue = before ++ q :: after → q.phase = .inService → (∀ x ∈ before ++ after, x.phase ≠ .inService) →
    (q.count ≤ q.running.length + q.won.length ∨ bestSlot s q = none → beginClaims n s = s) ∧
    (∀ a, q.running.length + q.won.length < q.count → bestSlot s q = some a → beginClaims (n + 1) s =
      beginClaims n (claiming a (before ++ { q with running := q.running ++ [a] } :: after) s))) ∧
  (∀ (t : RecIx) (s : State),
    ((∀ q ∈ s.slots.queue, q.tx ≠ t) → withdrawClaims t s = s) ∧
    ((∃ q ∈ s.slots.queue, q.tx = t) → ∃ s1,
      s1 = { s with slots := { s.slots with
        recs := s1.slots.recs, queue := s.slots.queue.filter (fun q => q.tx ≠ t) } } ∧
      (∀ a, slotAt s1 a =
        if (∃ q ∈ s.slots.queue, q.tx = t ∧ a ∈ q.running) ∧ (slotAt s a).state = .claiming then
          { barred (slotAt s a) with stopped := true, underWay := slotCycles s a }
        else if (∃ q ∈ s.slots.queue, q.tx = t ∧ a ∈ q.won) ∧ (slotAt s a).state = .mine then released s a
        else slotAt s a) ∧
      ((∃ q ∈ s.slots.queue, q.tx = t ∧ q.phase = .inService) → withdrawClaims t s = look s1) ∧
      ((∀ q ∈ s.slots.queue, q.tx = t → q.phase ≠ .inService) → withdrawClaims t s = s1)))

/-- The slot the arbiter claims (R69, R70): an eligible one; of those, one on a lane of the trunk first, then the one
that gives the smaller skew, then the lower address; and none only where none is eligible. The trunk's lanes are those
that hold its members, the request's won slots and its running claims; the skew with a slot added is the highest less
the lowest lag of these lanes and the slot's, of those that hold a lag, and 0 where none does (the model's choice, log
entry 88). -/
def Obligations.ArbiterPrefersByLaneThenSkewThenAddress : Prop :=
  ∀ (s : State) (q : ClaimReq), (cfg s).skewLimit ≤ 6 →
    (∀ l, l ∈ trunkLanes s q ↔
      ∃ a, laneOf a = l ∧ ((∃ m ∈ (txAt s q.tx).members, m.slot = a) ∨ a ∈ q.won ∨ a ∈ q.running)) ∧
    (∀ a, let lag := fun x => ∃ l, (l = laneOf a ∨ l ∈ trunkLanes s q) ∧ (laneAt s l).lag = some x
      (∀ low high, lag low → lag high → (∀ x, lag x → low ≤ x ∧ x ≤ high) → skewWith s q a = (high - low).toNat) ∧
      ((∀ x, ¬ lag x) → skewWith s q a = 0)) ∧
    (∀ a, eligible s q a = true ↔
      (slotAt s a).state = .free ∧ (laneAt s (laneOf a)).state = .locked ∧ 8 ≤ (laneAt s (laneOf a)).lockAge ∧
      (s.timing.role = .following ∨ s.timing.role = .pacing) ∧ skewWith s q a ≤ (cfg s).skewLimit * 16 ∧
      claimingOrMine s < (cfg s).maxOwned) ∧
    (bestSlot s q = none ↔ ∀ a, eligible s q a = false) ∧
    (∀ a, bestSlot s q = some a → eligible s q a = true ∧ ∀ b, eligible s q b = true →
      let onLane := fun x => laneOf x ∈ trunkLanes s q
      (onLane a ∧ ¬ onLane b) ∨
      ((onLane a ↔ onLane b) ∧ (skewWith s q a < skewWith s q b ∨
        (skewWith s q a = skewWith s q b ∧ a.val ≤ b.val))))

/-! ### Transmit trunks (chapters 6 and 8) -/

/-- The head of the command queue is a command of a given code with a given number of arguments, and the command unit
may take it (R149, R153). -/
def Takes (s : State) (code : Byte) (args : Nat) (e : CmdEntry) (rest : List CmdEntry) : Prop :=
  s.pins.resetAsserted = false ∧ s.port.restart = false ∧ s.port.cmdQueue = e :: rest ∧ e.len = 2 + args ∧
    e.bytes.getD 0 0 = code

/-- The state after the head has left the command queue (R149). -/
def popped (s : State) (rest : List CmdEntry) : State := { s with port := { s.port with cmdQueue := rest } }

/-- An answer at once without result fields (R149, R154). -/
def answered (s : State) (code tag : Byte) (o : CmdOutcome) : State :=
  { s with port := s.port.withResponse { code := code, tag := tag, outcome := o, result := [] } }

/-- TRUNK_CYCLE_FORMATION (R99 to R102): where some member slot of the cycle, not begun before, is to be driven and the
staging entry does not hold the cycle, the cycle is formed: 32 bytes for each DATA member from the encoder
(FramePassesFromEncoderToReceiveQueue), and one header for each member with the epoch and width of that moment, into the
entry of the cycle's number modulo 8. The cycle must be the one the member's lane carries (R5); `begun` says how many
slots of the cycle each lane has begun, and a member's slot that has begun keeps the SPARE header and payload it began
with (log entry 61); the number alone tells whether the entry holds the cycle (log entry 51). A layout that was DUE is
FORMED and a change in SWITCH-WAIT enters CONFIRM with 64 live cycles. No effect elsewhere (log entry 1). -/
def Obligations.TrunkCycleFormationStagesTheCycle : Prop :=
  ∀ (t : RecIx) (c : CycleNo) (begun : Vector (Fin 17) 4) (s : State), s.pins.resetAsserted = false →
    let ahead := fun a : SlotAddr => decide ((vget begun (laneOf a)).val ≤ (slotIx a).val)
    (formable s t c begun = true ↔
      (∃ m ∈ (txAt s t).members, Passing s (laneOf m.slot) c ∧ drives s (laneOf m.slot) c = true ∧
        ahead m.slot = true) ∧
      ∀ e, vget (txAt s t).staging (Fin.ofNat 8 c.toNat) = some e → e.cycle ≠ c) ∧
    (¬ s.Running ∨ formable s t c begun = false →
      exec (.trunkCycleFormation t ⟨c, begun⟩) s = .next (settle s)) ∧
    (s.Running → formable s t c begun = true →
      let r := txAt s t
      let given := encode t (32 * r.width) s
      let bytes := given.2
      ∃ u, exec (.trunkCycleFormation t ⟨c, begun⟩) s = .next (settle u) ∧ bytes.length = 32 * r.width ∧
        (txAt u t).staging = vset r.staging (Fin.ofNat 8 c.toNat) (some {
          cycle := c, epoch := r.epoch, width := r.width, stale := false
          slots := r.members.zipIdx.map (fun p => {
            slot := p.1.slot
            header := {
              owner := ownId s, sink := r.sink.getD nobody, tag := r.tag, seq := BitVec.ofNat 4 p.2
              role := match p.1.role with
                | .data => .data
                | .probe => .probe
                | .leaving | .shunned => .hold
              epoch := r.epoch, width := BitVec.ofNat 5 r.width }
            payload := match p.1.role with
              | .data => (bytes.drop (32 * (r.members.take p.2).countP (fun m => m.role == .data))).take 32
              | .probe => probePattern c (ownId s) r.tag (BitVec.ofNat 4 p.2)
              | .leaving | .shunned => List.replicate 32 0 }) }) ∧
        (txAt u t).due = false ∧ (txAt u t).epoch = r.epoch ∧ (txAt u t).members = r.members ∧
        (txAt u t).change = (if r.due = true then r.change.map (fun x => if x.phase = .switchWait then
          { x with phase := .confirm, deadline := some 64 } else x) else r.change) ∧
        (txAt u t).enc = (txAt given.1 t).enc ∧ (txAt u t).framesSent = (txAt given.1 t).framesSent ∧
        u.buf = given.1.buf ∧ (∀ k, k ≠ t → txAt u k = txAt s k) ∧
        ((r.members.map (fun m => m.slot)).Nodup → ∀ a, slotAt u a =
          if (∃ m ∈ r.members, m.slot = a) ∧ ahead a = false then
            { slotAt s a with began := (slotAt s a).began ++ [(c, spare s a)] }
          else slotAt s a) ∧
        u = { s with tx := u.tx, buf := u.buf, slots := { s.slots with recs := u.slots.recs } })

/-- A TRUNK_GONE report. -/
def isGone : Report → Bool
  | .trunkGone _ _ _ _ _ => true
  | _ => false

/-- The offer wait (R80): it begins at 64 live cycles when the OFFER is sent; while the OFFER is queued no wait runs; at
its end, after attempts 1 and 2, the next OFFER is posted with the same tag, and the wait is none until it is sent;
after attempt 3 the OPEN is answered NO_ANSWER, and the record returns to VACANT without TRUNK_GONE (what the return
does stands in CloseHoldsEveryMember). No other response joins the queue, but where the return withdraws a claim request
of the record: then those that the arbiter's look brings (ClaimWaitExpiryEndsTheRequest). -/
def Obligations.OfferWaitRetriesOrGivesUp : Prop :=
  ∀ (t : RecIx) (s : State), s.pins.resetAsserted = false → s.Running → (txAt s t).state = .offering →
    (∀ tag n, txSent t (.offer tag n) s = s.modTx t (fun r => { r with offerWait := some 64 })) ∧
    ((txAt s t).offerWait = none → (txAt (liveTick s) t).offerWait = none) ∧
    (∀ n, (txAt s t).offerWait = some n → (txAt (liveTick s) t).offerWait = some (n - 1)) ∧
    ((txAt s t).offerWait = some 0 →
      ((txAt s t).attempt = 1 ∨ (txAt s t).attempt = 2 →
        exec (.offerWaitExpiry t) s = .next (settle (postNotice (.tx t)
          ((txAt s t).sink.getD nobody) (.offer (txAt s t).tag (BitVec.ofNat 4 ((txAt s t).attempt + 1)))
          (s.modTx t (fun r => { r with attempt := r.attempt + 1, offerWait := none }))))) ∧
      ((txAt s t).attempt = 3 → ∃ u, exec (.offerWaitExpiry t) s = .next (settle u) ∧
        (txAt u t).state = .vacant ∧ (txAt u t).tag = (txAt s t).tag ∧ (txAt u t).sink = none ∧
        (txAt u t).members = [] ∧ (txAt u t).change = none ∧ (txAt u t).enc = .between ∧
        (∀ i, vget (txAt u t).staging i = none) ∧ vget u.buf.txQueue t = [] ∧
        (∀ q ∈ u.slots.queue, q.tx ≠ t) ∧ u.port.reports.filter isGone = s.port.reports.filter isGone ∧
        (∀ before x after, s.port.inFlight = before ++ x :: after → x.record = .tx t →
          (∀ y ∈ before, y.record ≠ .tx t) →
          let answer : Response := {
            code := x.code
            tag := x.tag
            outcome := .noAnswer
            result := [byteOf t.val, if x.code = (1 : Byte) then (txAt s t).tag.setWidth 8 else 0xFF, 0, 0] }
          let s1 : State := { s.modTx t (fun r => { r with openCmd := none }) with
            port := { s.port with inFlight := before ++ after, responses := s.port.responses ++ [answer] } }
          u = returnVacant t s1 ∧ u.port.responses = (withdrawClaims t s1).port.responses ∧
          ((∀ q ∈ s.slots.queue, q.tx ≠ t) → u.port.responses = s.port.responses ++ [answer])) ∧
        ((∀ x ∈ s.port.inFlight, x.record ≠ .tx t) →
          u = returnVacant t (s.modTx t (fun r => { r with openCmd := none })) ∧
          ((∀ q ∈ s.slots.queue, q.tx ≠ t) → u.port.responses = s.port.responses)) ∧
        u.lanes = s.lanes ∧ u.timing = s.timing ∧ u.roster = s.roster ∧ u.loader = s.loader))

/-- The switch of a GROW (R86): the probing members shown good become DATA, the others are released and leave, as one
layout edit, their own deadline and restore count being 0 then (log entry 77), and the change waits for the new layout
to be formed, without a deadline (log entry 64), counting those added. -/
def Switched (t : RecIx) (shown : Nat → Bool) (s u : State) : Prop :=
  let ms := (txAt s t).members.zipIdx
  let stays := fun p : Member × Nat => p.1.role != .probe || shown p.2
  let new := (ms.filter stays).map (fun p =>
    if p.1.role = .probe then { p.1 with role := .data, restore := 0, deadline := 0 } else p.1)
  ∃ s1, Releases ((ms.filter (fun p => !stays p)).map (fun p => p.1.slot)) s s1 ∧
    Reseated t (fun r => { edited new r with change := r.change.map (fun c => { c with
      phase := .switchWait, deadline := none
      added := ms.countP (fun p => p.1.role == .probe && shown p.2) }) }) s1 u

/-- PROBE_WAIT_EXPIRY (R86): the probing members the last tally of this epoch showed good are switched to DATA and the
others leave; where there is none, the GROW ends PROBE_FAILED without them. CONFIRM_WAIT_EXPIRY (R87, R89): the change
ends UNCONFIRMED, with no LEAVING member left. CLOSE_WAIT_EXPIRY (R96): the close ends (CloseHoldsEveryMember). A change
that ends (R84 to R89) answers its command, if one is in flight for the record, with the record, the tag for an OPEN,
and the count (log entry 34), and is pending no more; the restores it deferred (a GROW of an OPEN too, the model's
choice, log entry 83) then follow as one layout edit, each with MEMBER_RESTORED under the new epoch (R92). Members that
leave are released (R65); that the release of probing members is no layout edit, so that the epoch stays, is the model's
reading (log entry 41). No effect elsewhere (log entry 1). -/
def Obligations.DeadlinesEndTheChange : Prop :=
  (∀ (t : RecIx) (s : State), s.pins.resetAsserted = false →
    let r := txAt s t
    let expired := fun p : ChangePhase => ∃ c, r.change = some c ∧ c.kind ≠ .closeAbort ∧ c.phase = p ∧
      c.deadline = some 0
    let shown := fun seq : Nat => r.lastTally.any (fun x => x.info.any (fun i => i.echo == r.epoch &&
      i.good.getMsbD seq))
    (¬ s.Running ∨ ¬ expired .probe → exec (.probeWaitExpiry t) s = .next (settle s)) ∧
    (s.Running → expired .probe →
      ((∃ p ∈ r.members.zipIdx, p.1.role = .probe ∧ shown p.2 = true) →
        ∃ u, exec (.probeWaitExpiry t) s = .next (settle u) ∧ Switched t shown s u) ∧
      ((∀ p ∈ r.members.zipIdx, p.1.role = .probe → shown p.2 = false) →
        exec (.probeWaitExpiry t) s = .next (settle
          (endChange t .probeFailed (dropMembers t (fun m => m.role == .probe) s))))) ∧
    (¬ s.Running ∨ ¬ expired .confirm → exec (.confirmWaitExpiry t) s = .next (settle s)) ∧
    (s.Running → expired .confirm → exec (.confirmWaitExpiry t) s = .next (settle
      (endChange t .unconfirmed (dropMembers t (fun m => m.role == .leaving) s)))) ∧
    (¬ s.Running ∨ r.state ≠ .closing ∨ (∀ c, r.change = some c → c.deadline ≠ some 0) →
      exec (.closeWaitExpiry t) s = .next (settle s)) ∧
    (∀ c, s.Running → r.state = .closing → r.change = some c → c.deadline = some 0 →
      exec (.closeWaitExpiry t) s = .next (settle (endClose t s)))) ∧
  (∀ (t : RecIx) (o : CmdOutcome) (s : State),
    endChange t o s = restoreDeferred t ((answerTx t o (((txAt s t).change.map resultCount).getD 0) 0 s).modTx t
      (fun r => { r with change := none }))) ∧
  (∀ (t : RecIx) (o : CmdOutcome) (count : Nat) (reason : Byte) (s : State),
    ((∀ x ∈ s.port.inFlight, x.record ≠ .tx t) →
      answerTx t o count reason s = s.modTx t (fun r => { r with openCmd := none })) ∧
    (∀ before x after, s.port.inFlight = before ++ x :: after → x.record = .tx t →
      (∀ y ∈ before, y.record ≠ .tx t) →
      answerTx t o count reason s = { s with
        tx := vset s.tx t { txAt s t with openCmd := none }
        port := { s.port with
          inFlight := before ++ after
          responses := s.port.responses ++ [{ code := x.code, tag := x.tag, outcome := o, result :=
            [byteOf t.val, if x.code = 1 then (txAt s t).tag.setWidth 8 else 0xFF, byteOf count, reason] }] } })) ∧
  (∀ (t : RecIx) (s : State),
    let ready := fun m : Member => m.role == .shunned && m.restore == 3
    let back := (txAt s t).members.zipIdx.filter (fun p => ready p.1)
    let new := (txAt s t).members.map (fun m => if ready m then { m with role := .data, restore := 0 } else m)
    (back = [] → restoreDeferred t s = s) ∧
    (back ≠ [] → ∃ s1,
      Reseated t (fun r => { edited new r with restores := bumpBy r.restores back.length }) s s1 ∧
      restoreDeferred t s = { s1 with port := back.foldl (fun p x =>
        (p.post (.memberRestored t x.1.slot x.2 (txAt s1 t).epoch)).1) s1.port })) ∧
  (∀ (w n : Nat) (c : BitVec w), (bumpBy c n).toNat = min (2 ^ w - 1) (c.toNat + n)) ∧
  (∀ (t : RecIx) (leaves : Member → Bool) (s : State), ∃ s1,
    Releases (((txAt s t).members.filter leaves).map (fun m => m.slot)) s s1 ∧
    dropMembers t leaves s = setMembers t ((txAt s t).members.filter (fun m => !leaves m)) s1)

/-- A close that began at state s (R95): the record is CLOSING for 32 live cycles, every member that step 1 did not
release holds, the encoder is between parcels, and a CLOSE with the record's tag is queued for its sink. -/
def isClosing (s u : State) (t : RecIx) (cmd : Option Byte) (reason : GoneReason) : Prop :=
  let ms := (txAt s t).members
  let changing := ∃ c, (txAt s t).change = some c ∧ c.kind ≠ .closeAbort
  (txAt u t).state = .closing ∧ (txAt u t).enc = .between ∧
    (¬ changing → (txAt u t).members = ms.map (fun m => { m with role := .leaving })) ∧
    (changing → (txAt u t).members = (ms.filter (fun m => m.role ≠ .probe ∧ m.role ≠ .leaving)).map
      (fun m => { m with role := .leaving })) ∧
    (txAt u t).change = some { kind := .closeAbort, arg := 0, phase := .confirm, deadline := some 32, cmd := cmd
                               late := 0, added := 0, reason := some reason } ∧
    ∃ e, queued u (.tx t) = some e ∧ e.dest = (txAt s t).sink.getD nobody ∧ e.body = .close (txAt s t).tag

/-- SINK_SILENCE_EXPIRY and SINK_LOSS_EXPIRY (R93): at 8 tally periods without a tally the flag is set and SINK_SILENT
posted; at 2048 live cycles the trunk is closed with reason SINK_LOST and no command (CloseHoldsEveryMember). No effect
elsewhere (log entry 1). -/
def Obligations.SinkSilenceAndLoss : Prop :=
  ∀ (t : RecIx) (s : State), s.pins.resetAsserted = false →
    (¬ s.Running ∨ (txAt s t).state ≠ .opened ∨ (txAt s t).lastTally = none →
      exec (.sinkSilenceExpiry t) s = .next (settle s) ∧ exec (.sinkLossExpiry t) s = .next (settle s)) ∧
    (∀ x, s.Running → (txAt s t).state = .opened → (txAt s t).lastTally = some x →
      ((txAt s t).silent = true ∨ x.age < 8 * (cfg s).tallyPeriod →
        exec (.sinkSilenceExpiry t) s = .next (settle s)) ∧
      ((txAt s t).silent = false → 8 * (cfg s).tallyPeriod ≤ x.age →
        exec (.sinkSilenceExpiry t) s = .next (settle { s with
          tx := vset s.tx t { txAt s t with silent := true }
          port := (s.port.post (.sinkSilent t ((txAt s t).sink.getD nobody) x.age)).1 })) ∧
      (x.age < 2048 → exec (.sinkLossExpiry t) s = .next (settle s)) ∧
      (2048 ≤ x.age → ∃ u, exec (.sinkLossExpiry t) s = .next (settle u) ∧
        u = closeTrunk t none .sinkLost s ∧ isClosing s u t none .sinkLost ∧
        u.lanes = s.lanes ∧ u.timing = s.timing ∧ u.roster = s.roster ∧ u.loader = s.loader))

/-- A notice's sender and tag name transmit record t (R81): it is the first outside VACANT with that sink and tag. -/
def NamesTx (s : State) (sender : StationId) (tag : Tag) (t : RecIx) : Prop :=
  ((txAt s t).state ≠ .vacant ∧ (txAt s t).sink = some sender ∧ (txAt s t).tag = tag) ∧
    ∀ k < t, ¬ ((txAt s k).state ≠ .vacant ∧ (txAt s k).sink = some sender ∧ (txAt s k).tag = tag)

/-- The trunk opens (R81): the OFFER entry is withdrawn, and the record is OPEN with a last tally of age 0. -/
def opens (t : RecIx) (s : State) : State :=
  (withdraw (.tx t) s).modTx t (fun r => { r with
    state := .opened, epoch := 0, due := false, lastEcho := some 0, offerWait := none
    lastTally := some { age := 0, info := none } })

/-- OPEN (R78, R79): its tests in their order, and what it does to the lowest-numbered VACANT record. ACCEPT and DECLINE
(R81) are for the record outside VACANT with the sender as sink and the notice's tag; with none, or one no longer
OFFERING, they are ignored. An ACCEPT opens the trunk, its offer attempt and initial width kept (the model's choice, log
entry 86): with initial width 0 the OPEN is answered DONE, else a GROW of that width begins with the OPEN's command tag
(R84). On a DECLINE the OPEN is answered DECLINED with the reason's code and the record returns to VACANT
(CloseHoldsEveryMember). -/
def Obligations.OpenTakesTheLowestVacantRecord : Prop :=
  (∀ (e : CmdEntry) (rest : List CmdEntry) (s : State), Takes s 1 2 e rest → s.loader.state = .attached →
    let tag := e.bytes.getD 1 0
    let sink := e.bytes.getD 2 0
    let width := (e.bytes.getD 3 0).toNat
    let bad := sink.toNat = 0 ∨ 62 < sink.toNat ∨ sink.toNat = (ownId s).toNat ∨ 16 < width
    (bad → exec .cmdOpen s = .next (settle (answered (popped s rest) 1 tag .badArg))) ∧
    (∀ i : Fin 62, ¬ bad → i.val + 1 = sink.toNat →
      ((vget s.roster i).present = false →
        exec .cmdOpen s = .next (settle (answered (popped s rest) 1 tag .notPresent))) ∧
      ((vget s.roster i).present = true →
        ((∀ t, (txAt s t).state ≠ .vacant) →
          exec .cmdOpen s = .next (settle (answered (popped s rest) 1 tag .noRecord))) ∧
        (∀ t, (txAt s t).state = .vacant → (∀ k < t, (txAt s k).state ≠ .vacant) →
          let id : StationId := BitVec.ofNat 6 sink.toNat
          let newTag := (txAt s t).tag ^^^ 8
          let s1 := (popped s rest).modTx t (fun r => { r with
            state := .offering, tag := newTag, sink := some id, openCmd := some tag, initWidth := width
            epoch := 0, attempt := 1, offerWait := none })
          let s2 := postNotice (.tx t) id (.offer newTag 1) s1
          exec .cmdOpen s = .next (settle { s2 with port := { s2.port with
            inFlight := s2.port.inFlight ++ [{ code := 1, tag := tag, record := .tx t }] } }))))) ∧
  (∀ (sender : StationId) (tag : Tag) (reason : DeclineReason) (s : State),
    ((∀ t, ¬ NamesTx s sender tag t) →
      txNotice sender (.accept tag) s = s ∧ txNotice sender (.decline tag reason) s = s) ∧
    (∀ t, NamesTx s sender tag t →
      ((txAt s t).state ≠ .offering →
        txNotice sender (.accept tag) s = s ∧ txNotice sender (.decline tag reason) s = s) ∧
      ((txAt s t).state = .offering →
        txNotice sender (.accept tag) s = acceptTrunk t s ∧
        txNotice sender (.decline tag reason) s = returnVacant t (answerTx t .declined 0
          (match reason with
            | .notListed => 1
            | .noRoom => 2) (withdraw (.tx t) s))))) ∧
  (∀ (t : RecIx) (s : State),
    ((txAt s t).initWidth = 0 → acceptTrunk t s = answerTx t .done 0 0 (opens t s)) ∧
    ((txAt s t).initWidth ≠ 0 → acceptTrunk t s = postClaim t (txAt s t).initWidth
      ((opens t s).modTx t (fun r => { r with change := some {
        kind := .grow, arg := (txAt s t).initWidth, phase := .claim, deadline := none, cmd := (txAt s t).openCmd
        late := 0, added := 0, reason := none } }))))

/-- The tests of a voluntary change in R83's order: the outcome of the first that fails. `argOk` is the last test, on
the number of members. -/
def refusal (s : State) (ix : Byte) (argOk : Nat → Bool) : Option CmdOutcome :=
  match recOf ix.toNat with
  | none => some .badArg
  | some t =>
    let tests : List (Bool × CmdOutcome) :=
      [((txAt s t).state == .opened, .notOpen), ((txAt s t).change.isNone, .busy), (!(txAt s t).silent, .sinkSilent),
       ((txAt s t).lastEcho == some (txAt s t).epoch, .busy), (argOk (txAt s t).members.length, .badArg)]
    (tests.find? (fun x => !x.1)).map (fun x => x.2)

/-- The change a voluntary command makes pending (R83, R84, R88). -/
def newChange (kind : ChangeKind) (arg : Nat) (phase : ChangePhase) (cmd : Byte) : Change where
  kind := kind
  arg := arg
  phase := phase
  deadline := none
  cmd := some cmd
  late := 0
  added := 0
  reason := none

/-- GROW, SHRINK and DROP (R83, R84): each is answered at once on the first test that fails; one that passes them all
becomes the record's pending change and goes in flight. A GROW then posts its claim request
(ClaimWaitExpiryEndsTheRequest). -/
def Obligations.VoluntaryChangesAreTestedInOrder : Prop :=
  ∀ (c : Instr) (code : Byte) (e : CmdEntry) (rest : List CmdEntry) (s : State),
    Takes s code 2 e rest → s.loader.state = .attached →
    c = .cmdGrow ∧ code = 2 ∨ c = .cmdShrink ∧ code = 3 ∨ c = .cmdDrop ∧ code = 4 →
    let tag := e.bytes.getD 1 0
    let ix := e.bytes.getD 2 0
    let arg := (e.bytes.getD 3 0).toNat
    let argOk := fun m : Nat =>
      if code = 2 then decide (1 ≤ arg ∧ arg ≤ 16 - m)
      else if code = 3 then decide (1 ≤ arg ∧ arg ≤ m) else decide (arg < m)
    (∀ o, refusal s ix argOk = some o → exec c s = .next (settle (answered (popped s rest) code tag o))) ∧
    (∀ t, refusal s ix argOk = none → recOf ix.toNat = some t →
      let s1 : State := { s with port := { s.port with
        cmdQueue := rest, inFlight := s.port.inFlight ++ [{ code := code, tag := tag, record := .tx t }] } }
      (code = 2 → exec c s = .next (settle (postClaim t arg (s1.modTx t (fun r =>
        { r with change := some (newChange .grow arg .claim tag) }))))) ∧
      (code ≠ 2 → ∃ u, exec c s = .next (settle u) ∧ u.port = s1.port ∧
        (txAt u t).change = some (newChange (if code = 3 then .shrink else .drop) arg .switchWait tag)))

/-- SHRINK and DROP, once accepted (R82, R88): the SHUNNED members, then the DATA members, each from the highest
sequence down, or the member named, become LEAVING and take the sequences above the others, as one layout edit. -/
def Obligations.ShrinkAndDropMarkMembersLeaving : Prop :=
  ∀ (c : Instr) (code : Byte) (e : CmdEntry) (rest : List CmdEntry) (t : RecIx) (s : State),
    Takes s code 2 e rest → s.loader.state = .attached → c = .cmdShrink ∧ code = 3 ∨ c = .cmdDrop ∧ code = 4 →
    recOf (e.bytes.getD 2 0).toNat = some t →
    let arg := (e.bytes.getD 3 0).toNat
    refusal s (e.bytes.getD 2 0) (fun m => if code = 3 then decide (1 ≤ arg ∧ arg ≤ m) else decide (arg < m)) = none →
    let ms := (txAt s t).members.zipIdx
    let down := fun role : MemberRole => ((ms.filter (fun p => p.1.role == role)).map (fun p => p.2)).reverse
    let sel := if code = 3 then (down .shunned ++ down .data).take arg else [arg]
    ∃ u, exec c s = .next (settle u) ∧
      (txAt u t).members = (ms.filter (fun p => !sel.contains p.2)).map (fun p => p.1) ++
        (ms.filter (fun p => sel.contains p.2)).map (fun p => { p.1 with role := .leaving }) ∧
      (txAt u t).due = true ∧
      (txAt u t).epoch = (if (txAt s t).due then (txAt s t).epoch else (txAt s t).epoch + 1) ∧
      (txAt u t).epochs = (if (txAt s t).due then (txAt s t).epochs else bump (txAt s t).epochs) ∧
      (∀ k, k ≠ t → txAt u k = txAt s k) ∧ u.slots.queue = s.slots.queue ∧
      (∀ a, (slotAt u a).state = (slotAt s a).state) ∧
      u = { s with tx := u.tx, slots := u.slots, port := u.port }

/-- A transmit record back at VACANT (R77, R98): reset values but for its tag and its counters. -/
def vacated (r : TxRec) : TxRec :=
  { TxRec.reset r.tag with
    framesSent := r.framesSent, discNotOpen := r.discNotOpen, discFull := r.discFull, discLength := r.discLength
    epochs := r.epochs, shuns := r.shuns, restores := r.restores }

/-- The blocks that a parcel in progress still holds (R129): a block is given back with its last byte. -/
def heldBlocks : Encoder → Nat
  | .frame f given _ =>
    if f.len ≤ given - 4 then 0 else (f.len + 127) / 128 - (given - 4) / 128
  | .between | .fill _ => 0

/-- The encoder of a record abandons its parcel (R131): the blocks it holds go back. -/
def encoderCut (t : RecIx) (s : State) : State :=
  { s with
    tx := vset s.tx t { txAt s t with enc := .between }
    buf := { s.buf with
      txFree := s.buf.txFree + heldBlocks (txAt s t).enc
      txUse := vset s.buf.txUse t (vget s.buf.txUse t - heldBlocks (txAt s t).enc) } }

/-- CLOSE (R95): BAD_ARG for an index that names no record, NOT_OPEN for a VACANT record and BUSY for a CLOSING one; an
OFFERING or OPEN record begins its close, and the command goes in flight. A close aborts the pending change (every claim
request of the record withdrawn, log entry 57; PROBE and LEAVING members released, its command answered ABORTED with the
count of log entry 34), answers an OFFERING record's OPEN ABORTED, holds every member as one layout edit, cuts the
encoder (R131) and posts the CLOSE. It ends at its deadline, when the CLOSE was sent, or on a DISMISS or an absence
(R96): the entry is withdrawn, the record returns to VACANT, the CLOSE is answered DONE, and TRUNK_GONE follows with the
reason of the change. A DISMISS or an absence tears an OFFERING or OPEN record down at once (R97). A return (R98, R141)
withdraws the claim requests, releases the members' slots, empties staging, flushes the queue with its blocks and drops
the rest of a frame on client input; the record keeps its tag and counters. The model's own readings: a close with no
member makes no layout edit (log entry 18), an aborted change makes no deferred restore (log entry 38), and releasing
probing members is no edit (log entry 41). -/
def Obligations.CloseHoldsEveryMember : Prop :=
  (∀ (e : CmdEntry) (rest : List CmdEntry) (s : State), Takes s 5 1 e rest → s.loader.state = .attached →
    let tag := e.bytes.getD 1 0
    let ix := (e.bytes.getD 2 0).toNat
    (8 ≤ ix → exec .cmdClose s = .next (settle (answered (popped s rest) 5 tag .badArg))) ∧
    (∀ t : RecIx, t.val = ix →
      ((txAt s t).state = .vacant →
        exec .cmdClose s = .next (settle (answered (popped s rest) 5 tag .notOpen))) ∧
      ((txAt s t).state = .closing →
        exec .cmdClose s = .next (settle (answered (popped s rest) 5 tag .busy))) ∧
      ((txAt s t).state = .offering ∨ (txAt s t).state = .opened →
        ∃ u, u = closeTrunk t (some tag) .closed (popped s rest) ∧
          exec .cmdClose s = .next (settle { u with port := { u.port with
            inFlight := u.port.inFlight ++ [{ code := 5, tag := tag, record := .tx t }] } }) ∧
          isClosing s u t (some tag) .closed ∧
          u.lanes = s.lanes ∧ u.timing = s.timing ∧ u.roster = s.roster ∧ u.loader = s.loader))) ∧
  (∀ (t : RecIx) (cmd : Option Byte) (reason : GoneReason) (s : State),
    ∃ s1 s2 s3, s1 = abortChange t s ∧
      s2 = (if (txAt s1 t).state = .offering then answerTx t .aborted 0 0 s1 else s1) ∧
      s3 = (if (txAt s2 t).members = [] then s2 else
        editMembers t ((txAt s2 t).members.map (fun m => { m with role := .leaving })) s2) ∧
      closeTrunk t cmd reason s = (postNotice (.tx t) ((txAt s3 t).sink.getD nobody) (.close (txAt s3 t).tag)
        (encoderCut t s3)).modTx t (fun r => { r with
          state := .closing
          change := some { kind := .closeAbort, arg := 0, phase := .confirm, deadline := some 32, cmd := cmd
                           late := 0, added := 0, reason := some reason } })) ∧
  (∀ (t : RecIx) (s : State),
    ((∀ c, (txAt s t).change = some c → c.kind = .closeAbort) → abortChange t s = s) ∧
    (∀ c, (txAt s t).change = some c → c.kind ≠ .closeAbort →
      abortChange t s = (answerTx t .aborted (resultCount c) 0
        (dropMembers t (fun m => m.role == .probe || m.role == .leaving) (withdrawClaims t s))).modTx t
          (fun r => { r with change := none }))) ∧
  (∀ (t : RecIx) (c : Change) (s : State), (txAt s t).change = some c →
    let s1 := returnVacant t (withdraw (.tx t) s)
    let s2 := if c.cmd = none then s1 else answerTx t .done 0 0 s1
    endClose t s = { s2 with port := (s2.port.post (.trunkGone .transmit t (txAt s t).tag
      ((txAt s t).sink.getD nobody) (c.reason.getD .closed))).1 }) ∧
  (∀ (t : RecIx) (tag : Tag) (s : State), (txAt s t).state = .closing →
    txSent t (.close tag) s = endClose t s) ∧
  (∀ (sender : StationId) (tag : Tag) (why : DismissReason) (s : State),
    ((∀ t, ¬ NamesTx s sender tag t) → txNotice sender (.dismiss tag why) s = s) ∧
    (∀ t, NamesTx s sender tag t → txNotice sender (.dismiss tag why) s = txEnd t .dismissed s)) ∧
  (∀ (t : RecIx) (reason : GoneReason) (s : State),
    ((txAt s t).state = .vacant → txEnd t reason s = s) ∧
    ((txAt s t).state = .closing → txEnd t reason s = endClose t s) ∧
    ((txAt s t).state = .offering ∨ (txAt s t).state = .opened →
      let s1 := abortChange t s
      let s2 := if (txAt s1 t).state = .offering then answerTx t .aborted 0 0 s1 else s1
      let s3 := returnVacant t (withdraw (.tx t) s2)
      txEnd t reason s = { s3 with port := (s3.port.post (.trunkGone .transmit t (txAt s t).tag
        ((txAt s t).sink.getD nobody) reason)).1 })) ∧
  (∀ (t : RecIx) (s : State), ∃ s1 s2,
    s1 = withdrawClaims t s ∧ Releases ((txAt s1 t).members.map (fun m => m.slot)) s1 s2 ∧
    let s3 := encoderCut t s2
    let queue := vget s3.buf.txQueue t
    let blocks := (queue.map (fun f => (f.len + 127) / 128)).sum
    returnVacant t s = { s3 with
      tx := vset s3.tx t (vacated (txAt s3 t))
      buf := { s3.buf with
        txFree := s3.buf.txFree + blocks
        txUse := vset s3.buf.txUse t (vget s3.buf.txUse t - blocks)
        txQueue := vset s3.buf.txQueue t []
        flushed := bumpBy s3.buf.flushed queue.length }
      port := { s3.port with parse := match s3.port.parse with
        | .data left dest => .data left (if dest = some t then none else dest)
        | p => p } })

/-! ### Dismissing and strays (chapter 7) -/

/-- A receive record back at VACANT (R105, R125): reset values but for its counters. -/
def emptied (r : RxRec) : RxRec :=
  { RxRec.reset with
    consistent := r.consistent, faults := r.faults, realigns := r.realigns, badChecks := r.badChecks
    delivered := r.delivered, dropped := r.dropped }

/-- DISMISS (R124): BAD_ARG for an index that names no record, NOT_OPEN for one that is not ACCEPTED; an ACCEPTED record
drains: its delineator is reset (log entry 72), its frame in progress gives back its blocks, a DISMISS is queued for its
source over whatever the entry held, TRUNK_GONE is posted, and the command stays in flight with 32 live cycles. Any
entry to DRAINING (R123) empties the alignment buffer, the view, the lane positions, the next cycle and the tally timer,
and the trunk skew (the model's choice, log entry 45), and keeps what R123 does not name (log entry 86); but for a
client DISMISS it withdraws the record's notice, and the record is VACANT at once where its receive queue is empty and
no dismiss is pending (R125). A CLOSE from a record's source with its tag, to this station, drains an ACCEPTED record
with reason CLOSED; another CLOSE is ignored. -/
def Obligations.DismissDrainsTheRecord : Prop :=
  (∀ (e : CmdEntry) (rest : List CmdEntry) (s : State), Takes s 6 1 e rest → s.loader.state = .attached →
    let tag := e.bytes.getD 1 0
    let ix := (e.bytes.getD 2 0).toNat
    (8 ≤ ix → exec .cmdDismiss s = .next (settle (answered (popped s rest) 6 tag .badArg))) ∧
    (∀ r : RecIx, r.val = ix →
      ((rxAt s r).state ≠ .accepted →
        exec .cmdDismiss s = .next (settle (answered (popped s rest) 6 tag .notOpen))) ∧
      ((rxAt s r).state = .accepted →
        let blocks := match (rxAt s r).delin.frame with
          | some f => f.blocks
          | none => 0
        let s1 := postNotice (.rx r) ((rxAt s r).source.getD nobody)
          (.dismiss ((rxAt s r).tag.getD 0) .client) (popped s rest)
        let s2 := s1.modRx r (fun x => { x with
          state := .draining, view := [], skew := 0, align := Vector.replicate 8 none, next := none
          lanePos := Vector.replicate 4 none, tally := none, dismiss := some { tag := tag, deadline := 32 }
          delin := .reset })
        exec .cmdDismiss s = .next (settle { s2 with
          buf := { s2.buf with
            rxFree := s2.buf.rxFree + blocks
            rxUse := vset s2.buf.rxUse r (vget s2.buf.rxUse r - blocks) }
          port := (({ s2.port with inFlight := s2.port.inFlight ++ [{ code := 6, tag := tag, record := .rx r }] } :
            Port).post (.trunkGone .receive r ((rxAt s r).tag.getD 0) ((rxAt s r).source.getD nobody)
              .dismissed)).1 })))) ∧
  (∀ (r : RecIx) (reason : GoneReason) (keep : Bool) (s : State),
    let blocks := match (rxAt s r).delin.frame with
      | some f => f.blocks
      | none => 0
    let s1 := if keep then s else withdraw (.rx r) s
    let s2 := s1.modRx r (fun x => { x with
      state := .draining, view := [], skew := 0, align := Vector.replicate 8 none, next := none
      lanePos := Vector.replicate 4 none, tally := none, delin := .reset })
    drain r reason keep s = testVacant r { s2 with
      buf := { s2.buf with
        rxFree := s2.buf.rxFree + blocks
        rxUse := vset s2.buf.rxUse r (vget s2.buf.rxUse r - blocks) }
      port := (s2.port.post (.trunkGone .receive r ((rxAt s r).tag.getD 0) ((rxAt s r).source.getD nobody)
        reason)).1 }) ∧
  (∀ (r : RecIx) (s : State),
    let ended := (rxAt s r).state = .draining ∧ (rxAt s r).dismiss = none ∧ vget s.buf.rxQueue r = []
    (ended → testVacant r s = s.modRx r emptied) ∧ (¬ ended → testVacant r s = s)) ∧
  (∀ (sender dest : StationId) (tag : Tag) (s : State),
    let held := fun r => (rxAt s r).state = .accepted ∧ (rxAt s r).source = some sender ∧ (rxAt s r).tag = some tag
    (dest ≠ ownId s ∨ (∀ r, ¬ held r) → rxNotice sender dest (.close tag) s = s) ∧
    (∀ r, dest = ownId s → held r → (∀ k < r, ¬ held k) →
      rxNotice sender dest (.close tag) s = drain r .closed false s))

/-- The record after a dismiss pending has ended (R124, R125): VACANT where it drains with an empty receive queue. -/
def afterDismiss (s : State) (r : RecIx) : State :=
  let s1 := s.modRx r (fun x => { x with dismiss := none })
  if (rxAt s r).state = .draining ∧ vget s.buf.rxQueue r = [] then s1.modRx r emptied else s1

/-- A stray takes one more header of a cycle (R121): of the cycle after its last the run rises to at most 16, of its
last it stays, of another it is 1. -/
def heardAgain (c : CycleNo) (y : Stray) : Stray :=
  { y with
    quiet := 0, last := c
    run := if c = y.last then y.run else if c = y.last + 1 then min 16 (y.run + 1) else 1 }

/-- DISMISS_DEADLINE_EXPIRY (R124, R125) and STRAY_ENTRY_EXPIRY (R121): at the deadline the DISMISS notice is withdrawn
and the dismiss pending ends; so it does when the notice was sent: the command is answered DONE, and a draining record
with an empty queue is VACANT. A stray quiet for 16 flywheel cycles with spacing 0 leaves the list. A stray header
(R121, R122) counts in its entry, makes a new one where fewer than four are listed, else is counted as ignored; at run
16 with spacing 0 a DISMISS with reason NO_TRUNK is requested (DeclineEntries), and where it was placed the spacing is
256 and the dismissal counted. No effect elsewhere (log entry 1). -/
def Obligations.DismissDeadlineAndStrayExpiry : Prop :=
  (∀ (r : RecIx) (owner : StationId) (tag : Tag) (s : State), s.pins.resetAsserted = false →
    (¬ s.Running → exec (.dismissDeadlineExpiry r) s = .next (settle s) ∧
      exec (.strayEntryExpiry owner tag) s = .next (settle s)) ∧
    ((rxAt s r).dismiss = none ∨ (∃ d, (rxAt s r).dismiss = some d ∧ d.deadline ≠ 0) →
      exec (.dismissDeadlineExpiry r) s = .next (settle s)) ∧
    (∀ d, s.Running → (rxAt s r).dismiss = some d → d.deadline = 0 →
      exec (.dismissDeadlineExpiry r) s = .next (settle (endDismiss r (withdraw (.rx r) s)))) ∧
    (s.Running → exec (.strayEntryExpiry owner tag) s = .next (settle { s with rx := { s.rx with
      strays := s.rx.strays.filter (fun y =>
        ¬ (y.owner = owner ∧ y.tag = tag ∧ y.quiet = 16 ∧ y.spacing = 0)) } }))) ∧
  (∀ (r : RecIx) (tag : Tag) (why : DismissReason) (s : State),
    rxSent r (.dismiss tag why) s = if (rxAt s r).dismiss = none then s else endDismiss r s) ∧
  (∀ (r : RecIx) (s : State),
    (∀ before x after, s.port.inFlight = before ++ x :: after → x.record = .rx r →
      (∀ y ∈ before, y.record ≠ .rx r) →
      endDismiss r s = afterDismiss { s with port := { s.port with
        inFlight := before ++ after
        responses := s.port.responses ++ [{ code := x.code, tag := x.tag, outcome := .done
                                            result := [byteOf r.val, 0xFF, 0, 0] }] } } r) ∧
    ((∀ x ∈ s.port.inFlight, x.record ≠ .rx r) → endDismiss r s = afterDismiss s r)) ∧
  (∀ (owner : StationId) (tag : Tag) (c : CycleNo) (s : State),
    let it := fun y : Stray => y.owner = owner ∧ y.tag = tag
    ((∀ y ∈ s.rx.strays, ¬ it y) →
      (s.rx.strays.length < 4 → takeStray owner tag c s = { s with rx := { s.rx with strays := s.rx.strays ++
        [{ owner := owner, tag := tag, run := 1, last := c, quiet := 0, spacing := 0 }] } }) ∧
      (4 ≤ s.rx.strays.length → takeStray owner tag c s =
        { s with rx := { s.rx with straysIgnored := bump s.rx.straysIgnored } })) ∧
    ((∃ y ∈ s.rx.strays, it y) →
      let s1 : State := { s with rx := { s.rx with
        strays := s.rx.strays.map (fun y => if y.owner = owner ∧ y.tag = tag then heardAgain c y else y) } }
      let due := ∃ y ∈ s1.rx.strays, it y ∧ y.run = 16 ∧ y.spacing = 0
      let asked := requestDecline owner (.dismiss tag .noTrunk) s1
      (¬ due → takeStray owner tag c s = s1) ∧
      (due → asked.2 = false → takeStray owner tag c s = asked.1) ∧
      (due → asked.2 = true → takeStray owner tag c s = { asked.1 with rx := { asked.1.rx with
        strays := asked.1.rx.strays.map (fun y =>
          if y.owner = owner ∧ y.tag = tag then { y with spacing := 256 } else y)
        straysDismissed := bump asked.1.rx.straysDismissed } })))

/-! ### Client input (chapters 9 and 10) -/

/-- A state with another parse state. -/
def parsed (s : State) (p : Parse) : State := { s with port := { s.port with parse := p } }

/-- The parse state with so many bytes of a frame still to come that go to a record or are dropped (R146). -/
def bytesDue (left : Nat) (dest : Option RecIx) : Parse := if left = 0 then .between else .data left dest

/-- CLIENT_INPUT_BYTE, HELD_STROBE and UNKNOWN_KIND_HEADER (R146, R147). Against the hold a byte is only counted. Else
it joins a header; a fourth header byte begins a body or ends the frame, by the header's kind; a body byte is written
into its frame, dropped, or kept for its command. No effect elsewhere (log entries 1 and 21). -/
def Obligations.ClientInputBytesAreParsed : Prop :=
  ∀ (b : Byte) (s : State), s.pins.resetAsserted = false →
    (24 ≤ s.port.outstanding →
      let held : State := { s with port := { s.port with heldStrobes := bump s.port.heldStrobes } }
      exec (.clientInputByte b) s = .next (settle held) ∧ exec .heldStrobe s = .next (settle held) ∧
      exec (.unknownKindHeader b) s = .next (settle s) ∧ exec (.dataFrameHeader b) s = .next (settle s) ∧
      exec (.dataFrameLastByte b) s = .next (settle s) ∧ exec (.commandReceived b) s = .next (settle s)) ∧
    (s.port.outstanding < 24 →
      exec .heldStrobe s = .next (settle s) ∧
      (s.port.parse = .between → exec (.clientInputByte b) s = .next (settle (parsed s (.header [b])))) ∧
      (∀ held, s.port.parse = .header held → held.length < 3 →
        exec (.clientInputByte b) s = .next (settle (parsed s (.header (held ++ [b]))))) ∧
      (∀ x y z, s.port.parse = .header [x, y, z] →
        let kind := x.toNat / 16
        let len := z.toNat * 256 + b.toNat
        (kind = 1 → exec (.clientInputByte b) s = exec (.dataFrameHeader b) s) ∧
        (kind = 2 → len = 0 → exec (.clientInputByte b) s = exec (.commandReceived b) s) ∧
        (kind = 2 → len ≠ 0 →
          exec (.clientInputByte b) s = .next (settle (parsed s (.command len len [])))) ∧
        (kind ≠ 1 → kind ≠ 2 →
          let u : State := { s with port := { s.port with
            parse := bytesDue len none, unknownKind := bump s.port.unknownKind } }
          exec (.clientInputByte b) s = .next (settle u) ∧ exec (.unknownKindHeader b) s = .next (settle u)) ∧
        (kind = 1 ∨ kind = 2 → exec (.unknownKindHeader b) s = .next (settle s))) ∧
      (∀ left dest, s.port.parse = .data left dest →
        (left ≤ 1 → exec (.clientInputByte b) s = exec (.dataFrameLastByte b) s) ∧
        (2 ≤ left → dest = none →
          exec (.clientInputByte b) s = .next (settle (parsed s (.data (left - 1) none)))) ∧
        (∀ t q f, 2 ≤ left → dest = some t → vget s.buf.txQueue t = q ++ [f] →
          exec (.clientInputByte b) s = .next (settle { s with
            buf := { s.buf with
              txQueue := vset s.buf.txQueue t (q ++ [{ f with data := f.data ++ [b], complete := false }]) }
            port := { s.port with parse := .data (left - 1) (some t) } }))) ∧
      (∀ left len kept, s.port.parse = .command left len kept →
        (left ≤ 1 → exec (.clientInputByte b) s = exec (.commandReceived b) s) ∧
        (2 ≤ left → exec (.clientInputByte b) s = .next (settle (parsed s
          (.command (left - 1) len (if kept.length < 16 then kept ++ [b] else kept)))))) ∧
      ((∀ x y z, s.port.parse ≠ .header [x, y, z]) → (∀ held, s.port.parse = .header held → held.length < 3) →
        exec (.unknownKindHeader b) s = .next (settle s)) ∧
      ((∀ x y, s.port.parse = .header [x, y, 0] → x.toNat / 16 = 2 → b ≠ 0) →
        (∀ left len kept, s.port.parse = .command left len kept → 2 ≤ left) →
        exec (.commandReceived b) s = .next (settle s)))

/-- A discard at admission counted on its record, or as unnamed (R139). -/
def discarded (s : State) (ix : Nat) (reason : DiscardReason) : State :=
  if h : ix < 8 then s.modTx ⟨ix, h⟩ (fun r =>
    match reason with
    | .notOpen => { r with discNotOpen := bump r.discNotOpen }
    | .full => { r with discFull := bump r.discFull }
    | .length => { r with discLength := bump r.discLength })
  else { s with buf := { s.buf with unnamed := bump s.buf.unnamed } }

/-- The discards counted so far for an index (R140). -/
def discards (s : State) (ix : Nat) : Nat :=
  if h : ix < 8 then
    let r := txAt s ⟨ix, h⟩
    r.discNotOpen.toNat + r.discFull.toNat + r.discLength.toNat
  else s.buf.unnamed.toNat

/-- DATA_FRAME_HEADER (R138 to R140, R146): a frame that passes the admission tests claims its blocks and joins its
record's queue, FILLING; one that fails is counted by its first failing test, and posts DISCARD unless its index's flag
is set; the flag is set where the report was taken. DATA_FRAME_LAST_BYTE: the last payload byte completes the newest
frame of its record's queue; a frame that is being dropped just ends; another byte is no such event, with no effect (log
entries 1 and 21), as a DATA_FRAME_HEADER has where no fourth header byte of a DATA frame is due, and both have while
the hold is asserted (R147). -/
def Obligations.DataFrameIsAdmittedThenCompleted : Prop :=
  (∀ (b x y z : Byte) (s : State), s.pins.resetAsserted = false → s.port.outstanding < 24 →
    s.port.parse = .header [x, y, z] → x.toNat / 16 = 1 →
    let ix := x.toNat % 16
    let len := z.toNat * 256 + b.toNat
    let need := (len + 127) / 128
    (∀ t : RecIx, t.val = ix → 1 ≤ len → len ≤ 1536 → (txAt s t).state = .opened → need ≤ s.buf.txFree →
      vget s.buf.txUse t + need ≤ (cfg s).txQuota →
      exec (.dataFrameHeader b) s = .next (settle { s with
        buf := { s.buf with
          txFree := s.buf.txFree - need
          txUse := vset s.buf.txUse t (vget s.buf.txUse t + need)
          txQueue := vset s.buf.txQueue t
            (vget s.buf.txQueue t ++ [{ len := len, cls := y, data := [], complete := false }]) }
        port := { s.port with parse := .data len (some t) } })) ∧
    (∀ reason : DiscardReason,
      (reason = .length ∧ (len = 0 ∨ 1536 < len)) ∨
      (reason = .notOpen ∧ 1 ≤ len ∧ len ≤ 1536 ∧ (8 ≤ ix ∨ ∃ t : RecIx, t.val = ix ∧ (txAt s t).state ≠ .opened)) ∨
      (reason = .full ∧ 1 ≤ len ∧ len ≤ 1536 ∧ ∃ t : RecIx, t.val = ix ∧ (txAt s t).state = .opened ∧
        (s.buf.txFree < need ∨ (cfg s).txQuota < vget s.buf.txUse t + need)) →
      ∀ flag : Fin 9, flag.val = min ix 8 →
        let s1 := discarded s ix reason
        let posted := s.port.post (.discard (BitVec.ofNat 4 ix) reason len (discards s1 ix))
        (vget s.buf.flags flag = true →
          exec (.dataFrameHeader b) s = .next (settle (parsed s1 (bytesDue len none)))) ∧
        (vget s.buf.flags flag = false →
          exec (.dataFrameHeader b) s = .next (settle (parsed { s1 with
            port := posted.1
            buf := { s1.buf with flags := vset s1.buf.flags flag posted.2 } } (bytesDue len none)))))) ∧
  (∀ (b : Byte) (s : State), s.pins.resetAsserted = false →
    ((∀ x held, s.port.parse = .header (x :: held) → held.length < 2 ∨ x.toNat / 16 ≠ 1) →
      exec (.dataFrameHeader b) s = .next (settle s)) ∧
    (24 ≤ s.port.outstanding → exec (.dataFrameHeader b) s = .next (settle s) ∧
      exec (.dataFrameLastByte b) s = .next (settle s))) ∧
  (∀ (b : Byte) (s : State), s.pins.resetAsserted = false → s.port.outstanding < 24 →
    (∀ left, s.port.parse = .data left none → left ≤ 1 →
      exec (.dataFrameLastByte b) s = .next (settle (parsed s .between))) ∧
    (∀ left t q f, s.port.parse = .data left (some t) → left ≤ 1 → vget s.buf.txQueue t = q ++ [f] →
      exec (.dataFrameLastByte b) s = .next (settle { s with
        buf := { s.buf with
          txQueue := vset s.buf.txQueue t (q ++ [{ f with data := f.data ++ [b], complete := true }]) }
        port := { s.port with parse := .between } })) ∧
    ((∀ left dest, s.port.parse = .data left dest → 2 ≤ left) →
      exec (.dataFrameLastByte b) s = .next (settle s)))

/-- COMMAND_RECEIVED (R146 to R149): the byte that ends a command frame counts it as outstanding and, where fewer than
eight wait, puts it at the end of the command queue with its first 16 body bytes; else it is answered QUEUE_FULL at once
and counted. A body shorter than 2 bytes is answered with code none and tag 0, here and at its taking. -/
def Obligations.CommandReceivedJoinsTheQueue : Prop :=
  ∀ (b : Byte) (s : State), s.pins.resetAsserted = false → s.port.outstanding < 24 →
    (∀ e : CmdEntry,
      (b = 0 ∧ e = { bytes := [], len := 0 } ∧ ∃ x y, s.port.parse = .header [x, y, 0] ∧ x.toNat / 16 = 2) ∨
      (∃ left kept, s.port.parse = .command left e.len kept ∧ left ≤ 1 ∧
        e.bytes = if kept.length < 16 then kept ++ [b] else kept) →
      let p : Port := { s.port with parse := .between, outstanding := s.port.outstanding + 1 }
      (s.port.cmdQueue.length < 8 →
        exec (.commandReceived b) s = .next (settle { s with port := { p with cmdQueue := p.cmdQueue ++ [e] } })) ∧
      (8 ≤ s.port.cmdQueue.length →
        exec (.commandReceived b) s = .next (settle { s with port := { p with
          queueFull := bump p.queueFull
          responses := p.responses ++ [{
            code := if e.len < 2 then 0 else e.bytes.getD 0 0
            tag := if e.len < 2 then 0 else e.bytes.getD 1 0
            outcome := .queueFull
            result := [] }] } }))) ∧
    (∀ e rest, s.port.restart = false → s.port.cmdQueue = e :: rest → e.len < 2 →
      exec .unknownCommand s = .next (settle (answered (popped s rest) 0 0 .badArg)))

/-! ### The command unit (chapter 10) -/

/-- The eleven commands the command unit takes, with their codes (12.3). -/
def commandCodes : List (Instr × Byte) :=
  [(.cmdOpen, 1), (.cmdGrow, 2), (.cmdShrink, 3), (.cmdDrop, 4), (.cmdClose, 5), (.cmdDismiss, 6),
   (.cmdTrunkStatus, 7), (.cmdRoster, 8), (.cmdSlots, 9), (.cmdCounters, 10), (.cmdRestart, 11)]

/-- The argument bytes of each code (12.3). -/
def argumentBytes : List (Byte × Nat) :=
  [(1, 2), (2, 2), (3, 2), (4, 2), (5, 1), (6, 1), (7, 2), (8, 0), (9, 0), (10, 1), (11, 0)]

/-- A body passes the form test (R149): code and tag are there, the code is known, and the arguments are as many as it
takes. -/
def WellFormedBody (e : CmdEntry) : Prop :=
  2 ≤ e.len ∧ argumentBytes.lookup (e.bytes.getD 0 0) = some (e.len - 2)

/-- The tests of the command unit (R149, R153): with a restart pending or no command waiting nothing is taken; a head
that fails the form test is answered BAD_ARG by UNKNOWN_COMMAND; one that passes it is taken only as its own command,
and before ATTACHED is answered NOT_READY but for TRUNK_STATUS, COUNTERS and RESTART. No effect elsewhere (log entry 1).
-/
def Obligations.HeadOfTheCommandQueueIsTested : Prop :=
  ∀ s : State, s.pins.resetAsserted = false →
    (s.port.restart = true ∨ s.port.cmdQueue = [] →
      exec .unknownCommand s = .next (settle s) ∧ ∀ p ∈ commandCodes, exec p.1 s = .next (settle s)) ∧
    (∀ e rest, s.port.restart = false → s.port.cmdQueue = e :: rest →
      (¬ WellFormedBody e →
        exec .unknownCommand s = .next (settle (answered (popped s rest)
          (if e.len < 2 then 0 else e.bytes.getD 0 0) (if e.len < 2 then 0 else e.bytes.getD 1 0) .badArg)) ∧
        ∀ p ∈ commandCodes, exec p.1 s = .next (settle s)) ∧
      (WellFormedBody e →
        exec .unknownCommand s = .next (settle s) ∧
        ∀ p ∈ commandCodes,
          (e.bytes.getD 0 0 ≠ p.2 → exec p.1 s = .next (settle s)) ∧
          (e.bytes.getD 0 0 = p.2 → p.2 ∉ [7, 10, 11] → s.loader.state ≠ .attached →
            exec p.1 s = .next (settle (answered (popped s rest) p.2 (e.bytes.getD 1 0) .notReady)))))

/-- An answer DONE with result bytes (R154). -/
def answeredWith (s : State) (code tag : Byte) (result : List Byte) : State :=
  { s with port := s.port.withResponse { code := code, tag := tag, outcome := .done, result := result } }

/-- The bytes of the item of a number in a list of items of one size. -/
def itemBytes (size i : Nat) (bytes : List Byte) : List Byte := (bytes.drop (size * i)).take size

/-- A counter in two bytes (12.3). -/
def two (x : BitVec 16) : List Byte := [x.extractLsb' 8 8, x.extractLsb' 0 8]

/-- A number in two bytes, FFFFh for none (12.3). -/
def twoOrNone (n : Option Nat) : List Byte := two ((n.map (BitVec.ofNat 16)).getD 0xFFFF)

/-- The fields of a transmit record in TRUNK_STATUS, in the order of 12.3. -/
def txFields (s : State) (k : RecIx) : List Byte :=
  let r := txAt s k
  let flag := fun b : Bool => if b then (1 : Byte) else 0
  let queue := vget s.buf.txQueue k
  [r.state.code, r.tag.setWidth 8, (r.sink.getD 63).setWidth 8, r.epoch.setWidth 8, flag r.due,
    (r.lastEcho.map (BitVec.setWidth 8)).getD 0xFF, byteOf (r.members.countP (fun m => m.role == .data)),
    byteOf r.initWidth, byteOf r.attempt] ++ twoOrNone r.offerWait ++ [flag r.silent] ++
  [byteOf r.members.length] ++
    r.members.zipIdx.flatMap (fun p => [byteOf p.1.slot.val, byteOf p.2, p.1.role.code, byteOf p.1.restore]) ++
  (match r.change with
    | none => [0xFF, 0, 0, 0, 0, 0, 0, 0, 0, 0]
    | some c => [c.kind.code, byteOf c.arg, c.phase.code] ++ twoOrNone c.deadline ++
      [flag c.cmd.isSome, c.cmd.getD 0, byteOf c.late, byteOf c.added,
        if c.kind = .closeAbort then (c.reason.map GoneReason.code).getD 0 else 0]) ++
  (match r.lastTally with
    | none => [0xFF, 0xFF, 0xFF, 0, 0, 0, 0, 0xFF]
    | some { age := age, info := none } => twoOrNone (some age) ++ [0xFF, 0, 0, 0, 0, 0xFF]
    | some { age := age, info := some i } => twoOrNone (some age) ++ [i.echo.setWidth 8] ++ two i.good ++
      [flag i.skew, flag i.delinLocked, i.width.setWidth 8]) ++
  twoOrNone (some (vget s.buf.txUse k)) ++ twoOrNone (some queue.length) ++
    [flag (queue.getLast?.any (fun f => !f.complete))]

/-- The fields of a receive record in TRUNK_STATUS, in the order of 12.3; the skew is one byte and the view stands in
the order its entries came (the model's choices, log entry 20). -/
def rxFields (s : State) (k : RecIx) : List Byte :=
  let r := rxAt s k
  [r.state.code, (r.source.getD 63).setWidth 8, (r.tag.map (BitVec.setWidth 8)).getD 0xFF, r.epochSeen.setWidth 8,
    r.widthSeen.setWidth 8, byteOf r.skew] ++
  [byteOf r.view.length] ++ r.view.flatMap (fun e =>
    [byteOf e.slot.val, e.seq.setWidth 8, e.role.code.setWidth 8, e.health.code, UncleanReason.code e.reason]) ++
  [r.delin.state.code] ++
  (match r.dismiss with
    | none => [0, 0, 0, 0]
    | some d => [1, d.tag] ++ twoOrNone (some d.deadline)) ++
  twoOrNone (some (vget s.buf.rxUse k)) ++ twoOrNone (some (vget s.buf.rxQueue k).length)

/-- TRUNK_STATUS, ROSTER and SLOTS (R151, 12.3): each is answered DONE at once with the fields it names as they stand.
TRUNK_STATUS gives the loader's fields and every field of 12.3 for the record; a value set's codes are those of 12.3, or
from 0 in the order of the table that defines it. Log entry 20 fixes the width of the trunk skew and the order of the
view, log entry 67 the FFh of heard by none and of no reason of last fault, log entry 73 the 0 of what a pending change
has no value for, log entry 89 the 0 of the two flags of a last tally that has none. -/
def Obligations.StatusCommandsAnswerFromTheState : Prop :=
  ∀ (e : CmdEntry) (rest : List CmdEntry) (s : State),
    let tag := e.bytes.getD 1 0
    (Takes s 7 2 e rest →
      let dir := e.bytes.getD 2 0
      let ix := (e.bytes.getD 3 0).toNat
      (8 ≤ ix ∨ 2 ≤ dir.toNat → exec .cmdTrunkStatus s = .next (settle (answered (popped s rest) 7 tag .badArg))) ∧
      (∀ k : RecIx, k.val = ix → dir.toNat ≤ 1 →
        exec .cmdTrunkStatus s = .next (settle (answeredWith (popped s rest) 7 tag
          ([s.loader.state.code, s.loader.reason.code, s.loader.reason.fieldNumber, dir, e.bytes.getD 3 0] ++
            if dir = 0 then txFields s k else rxFields s k))))) ∧
    ([TxState.vacant, .offering, .opened, .closing].map TxState.code = [0, 1, 2, 3] ∧
      [MemberRole.probe, .data, .leaving, .shunned].map MemberRole.code = [0, 1, 2, 3] ∧
      [ChangeKind.grow, .shrink, .drop, .closeAbort].map ChangeKind.code = [0, 1, 2, 3] ∧
      [ChangePhase.claim, .probe, .switchWait, .confirm].map ChangePhase.code = [0, 1, 2, 3] ∧
      [GoneReason.closed, .sinkLost, .dismissed, .peerAbsent, .superseded].map GoneReason.code = [1, 2, 3, 4, 5] ∧
      [RxState.vacant, .accepted, .draining].map RxState.code = [0, 1, 2] ∧
      [HeaderRole.data, .probe, .hold, .spare].map HeaderRole.code = [0, 1, 2, 3] ∧
      [Health.good, .suspect, .bad].map Health.code = [0, 1, 2] ∧
      [UncleanReason.lane, .header, .absent, .owner, .probe, .skew, .late].map
        (fun x => UncleanReason.code (some x)) = [0, 1, 2, 3, 4, 5, 6] ∧ UncleanReason.code none = 0xFF ∧
      [DelinState.hunt, .verify, .locked].map DelinState.code = [0, 1, 2] ∧
      [LoaderState.loading, .listening, .attached, .failed].map LoaderState.code = [0, 1, 2, 3] ∧
      [FailReason.none, .marker, .version, .check, .stationId, .laneMask, .idClash].map FailReason.code =
        [0, 1, 2, 3, 4, 5, 7] ∧
      (∀ n, (FailReason.field n).code = 6 ∧ (FailReason.field n).fieldNumber = byteOf n) ∧
      (∀ r, (∀ n, r ≠ FailReason.field n) → r.fieldNumber = 0) ∧
      [SlotState.unseen, .free, .claiming, .mine, .theirs, .barred].map SlotState.code = [0, 1, 2, 3, 4, 5] ∧
      [some HeardBy.notice, some .header, some .mark, none].map HeardBy.code = [0, 1, 2, 0xFF]) ∧
    (Takes s 8 0 e rest → s.loader.state = .attached → ∃ bytes,
      exec .cmdRoster s = .next (settle (answeredWith (popped s rest) 8 tag bytes)) ∧ bytes.length = 62 * 8 ∧
      ∀ i : Fin 62,
        let r := vget s.roster i
        itemBytes 8 i.val bytes = [if r.present then 1 else 0, byteOf (r.age / 256), byteOf r.age,
            HeardBy.code r.heardBy,
            if s.timing.pacer.map BitVec.toNat = some (i.val + 1) then 1 else 0] ++
          presenceBytes (if i.val + 1 = (ownId s).toNat then some (ownPresence s) else r.body)) ∧
    (Takes s 9 0 e rest → s.loader.state = .attached → ∃ bytes,
      exec .cmdSlots s = .next (settle (answeredWith (popped s rest) 9 tag bytes)) ∧ bytes.length = 64 * 5 ∧
      ∀ a : SlotAddr, itemBytes 5 a.val bytes = [(slotAt s a).state.code, byteOfId (slotAt s a).owner] ++
        (match (slotAt s a).assign with
          | .none => [0xFF, 0xFF]
          | .spare t => [byteOf t.val, 0xFF]
          | .member t seq => [byteOf t.val, byteOf seq]) ++ [(slotAt s a).headerErrors])

/-- What COUNTERS answers with, in the order of R152: each lane's state, lag and counters (R28), the counters of the
notice unit (R61), the slot unit (R76), each transmit record (R103), each receive record (R126) with the strays', the
buffer manager's with the free counts (R144) and the client port's (R162), then the loader's state and reason. -/
def countsOf (s : State) : List Byte :=
  allLanes.flatMap (fun l =>
    let x := laneAt s l
    [x.state.code, (x.lag.map (BitVec.ofInt 8)).getD 0x80] ++ two x.badMarks ++ two x.headerErrors ++
      two x.noticeErrors ++ two x.lagOutOfRange) ++
  allLanes.flatMap (fun l => two (vget s.notice.unknownKind l)) ++ two s.notice.declineFull ++
    two s.notice.declineExpired ++
  two s.slots.won ++ two s.slots.lost ++ two s.slots.abandoned ++ two s.slots.seizures ++ two s.slots.laneLosses ++
  allRecs.flatMap (fun t =>
    let r := txAt s t
    two r.framesSent ++ two r.discNotOpen ++ two r.discFull ++ two r.discLength ++ two r.epochs ++ two r.shuns ++
      two r.restores) ++
  allRecs.flatMap (fun k =>
    let r := rxAt s k
    two r.consistent ++ two r.faults ++ two r.realigns ++ two r.badChecks ++ two r.delivered ++ two r.dropped) ++
  two s.rx.straysDismissed ++ two s.rx.straysIgnored ++
  two s.buf.unnamed ++ two s.buf.flushed ++ two (BitVec.ofNat 16 s.buf.txFree) ++ two (BitVec.ofNat 16 s.buf.rxFree) ++
  two s.port.unknownKind ++ two s.port.heldStrobes ++ two s.port.queueFull ++ two s.port.reportsLost ++
  [s.loader.state.code, s.loader.reason.code] ++
    (match s.loader.reason with
      | .field n => [byteOf n]
      | _ => [])

/-- COUNTERS (R152): answered DONE in every loader state with every count as it stands, in the order of R152; the clear
flag sets every counter listed to 0 in the same event, with every slot's header error count, and changes nothing else;
another flag is BAD_ARG. -/
def Obligations.CountersAnswersAndClears : Prop :=
  ∀ (e : CmdEntry) (rest : List CmdEntry) (s : State), Takes s 10 1 e rest →
    let tag := e.bytes.getD 1 0
    let flag := (e.bytes.getD 2 0).toNat
    (flag = 0 → exec .cmdCounters s = .next (settle (answeredWith (popped s rest) 10 tag (countersBytes s)))) ∧
    (2 ≤ flag → exec .cmdCounters s = .next (settle (answered (popped s rest) 10 tag .badArg))) ∧
    (flag = 1 → ∃ u, exec .cmdCounters s = .next (settle u) ∧
      (let p : Port :=
        { s.port with cmdQueue := rest, unknownKind := 0, heldStrobes := 0, queueFull := 0, reportsLost := 0 }
       u.port = p.withResponse { code := 10, tag := tag, outcome := .done, result := countersBytes s }) ∧
      (∀ l, laneAt u l = { laneAt s l with badMarks := 0, headerErrors := 0, noticeErrors := 0, lagOutOfRange := 0 }) ∧
      u.notice = { s.notice with unknownKind := Vector.replicate 4 0, declineFull := 0, declineExpired := 0 } ∧
      (∀ a, slotAt u a = { slotAt s a with headerErrors := 0 }) ∧ u.slots.queue = s.slots.queue ∧
      (u.slots.won = 0 ∧ u.slots.lost = 0 ∧ u.slots.abandoned = 0 ∧ u.slots.seizures = 0 ∧ u.slots.laneLosses = 0) ∧
      (∀ t, txAt u t = { txAt s t with framesSent := 0, discNotOpen := 0, discFull := 0, discLength := 0, epochs := 0
                                       shuns := 0, restores := 0 }) ∧
      (∀ r, rxAt u r = { rxAt s r with consistent := 0, faults := 0, realigns := 0, badChecks := 0, delivered := 0
                                       dropped := 0 }) ∧
      u.rx.strays = s.rx.strays ∧ u.rx.straysDismissed = 0 ∧ u.rx.straysIgnored = 0 ∧
      u.buf = { s.buf with unnamed := 0, flushed := 0 } ∧ u.timing = s.timing ∧ u.roster = s.roster ∧
      u.loader = s.loader ∧ u.pins = s.pins) ∧
    countersBytes s = countsOf s ∧
    [LockState.disabled, .hunt, .confirm, .locked, .coast].map LockState.code = [0, 1, 2, 3, 4]

/-! ### Client output (chapters 9 and 10) -/

/-- The arbiter's choice at the end of a frame (R158): nothing while the hold is asserted; else a response before a
report. -/
def EndsAFrame (o : Host.Outcome State Fault Refusal) (u : State) : Prop :=
  (u.pins.outHold = true → o = .next u) ∧
  (∀ r rest, u.pins.outHold = false → u.port.responses = r :: rest →
    o = .next { u with port := { u.port with responses := rest, stage := .sending (.response r) r.frame.length } }) ∧
  (u.port.responses = [] → o = .next (settle u))

/-- RESTART and RESPONSE_SENT (R147, R153, R159, R164): RESTART is answered RESTARTING and holds back every later
command; when that answer has left, every block takes its reset values and the start-up memory is read again, the frame
on client input being dropped. Another answer's end lowers the outstanding count. No effect elsewhere (log entry 1). -/
def Obligations.RestartTakesEffectWhenItsAnswerHasLeft : Prop :=
  ∀ s : State,
    (∀ e rest, Takes s 11 0 e rest →
      let p : Port := { s.port with cmdQueue := rest, restart := true }
      exec .cmdRestart s = .next (settle { s with
        port := p.withResponse { code := 11, tag := e.bytes.getD 1 0, outcome := .restarting, result := [] } })) ∧
    (s.pins.resetAsserted = false →
      (∀ r left, s.port.stage = .sending (.response r) left → r.outcome = .restarting →
        exec .responseSent s = .next { State.reset with
          port := { State.reset.port with parse := match s.port.parse with
            | .data n _ => .data n none
            | p => p }
          pins := s.pins
          free := s.free
          pending := s.pending }) ∧
      (∀ r left, s.port.stage = .sending (.response r) left → r.outcome ≠ .restarting →
        EndsAFrame (exec .responseSent s)
          { s with port := { s.port with stage := .idle, outstanding := s.port.outstanding - 1 } }) ∧
      ((∀ r left, s.port.stage ≠ .sending (.response r) left) → exec .responseSent s = .next (settle s)))

/-- REPORT_SENT, RECEIVE_BLOCK_SENT and DATA_FRAME_SENT (R140, R143, R156, R159, R125, R161): the end of a DISCARD
report clears its index's flag; the end of a block returns it to the receive pool; the end of a data frame takes it off
its queue, returns the blocks not yet returned (log entry 22), counts it, and makes a draining record VACANT where it
was the last; the end of padding counts nothing. No effect elsewhere (log entry 1). -/
def Obligations.ReportsAndDataFramesLeave : Prop :=
  ∀ s : State, s.pins.resetAsserted = false →
    let idle : State := { s with port := { s.port with stage := .idle } }
    (∀ q left, s.port.stage = .sending (.report q) left →
      ((∀ ix reason len total, q ≠ .discard ix reason len total) → EndsAFrame (exec .reportSent s) idle) ∧
      (∀ ix reason len total, q = .discard ix reason len total → ∀ flag : Fin 9, flag.val = min ix.toNat 8 →
        EndsAFrame (exec .reportSent s)
          { idle with buf := { s.buf with flags := vset s.buf.flags flag false } })) ∧
    ((∀ q left, s.port.stage ≠ .sending (.report q) left) → exec .reportSent s = .next (settle s)) ∧
    (∀ r cls len left, s.port.stage = .sending (.data r cls len) left →
      let sent := len - min left len
      (1 ≤ left → exec .receiveBlockSent s = .next (settle { s with
        buf := { s.buf with rxFree := s.buf.rxFree + 1, rxUse := vset s.buf.rxUse r (vget s.buf.rxUse r - 1) }
        port := { s.port with stage := .sending (.data r cls len) (len - min len ((sent / 128 + 1) * 128)) } })) ∧
      (left = 0 → exec .receiveBlockSent s = .next (settle s)) ∧
      (let back := if left = 0 then 0 else (len + 127) / 128 - sent / 128
       let u : State := { idle with
         buf := { s.buf with
           rxFree := s.buf.rxFree + back
           rxUse := vset s.buf.rxUse r (vget s.buf.rxUse r - back)
           rxQueue := vset s.buf.rxQueue r ((vget s.buf.rxQueue r).drop 1) }
         rx := { s.rx with
           recs := vset s.rx.recs r { rxAt s r with delivered := bump (rxAt s r).delivered } } }
       let last := (rxAt s r).state = .draining ∧ (rxAt s r).dismiss = none ∧ (vget s.buf.rxQueue r).length ≤ 1
       (¬ last → EndsAFrame (exec .dataFrameSent s) u) ∧
       (last → EndsAFrame (exec .dataFrameSent s) (u.modRx r RxRec.clear)))) ∧
    ((∀ r cls len left, s.port.stage ≠ .sending (.data r cls len) left) →
      exec .receiveBlockSent s = .next (settle s)) ∧
    (∀ left, s.port.stage = .sending .padding left → EndsAFrame (exec .dataFrameSent s) idle) ∧
    ((∀ r cls len left, s.port.stage ≠ .sending (.data r cls len) left) →
      (∀ left, s.port.stage ≠ .sending .padding left) → exec .dataFrameSent s = .next (settle s))

/-! ### Reports (chapter 10) -/

/-- Posting a report (R155, R162): with fewer than 31 ordinary reports queued it joins the end; else it is dropped and
counted, in the REPORTS_LOST already queued, or in a new one at the end. Its count has no bound, and its body sends it
in one byte; above 255 that byte is a free value (the model's choice, log entry 31). -/
def Obligations.PostedReportJoinsOrIsCountedLost : Prop :=
  ∀ (p : Port) (rep : Report),
    let ordinary := (p.reports.filter (fun r => !r.isLost)).length
    (ordinary < 31 → p.post rep = ({ p with reports := p.reports ++ [rep] }, true)) ∧
    (31 ≤ ordinary → (∀ r ∈ p.reports, r.isLost = false) →
      p.post rep = ({ p with reports := p.reports ++ [.reportsLost 1], reportsLost := bump p.reportsLost }, false)) ∧
    (∀ before n after, 31 ≤ ordinary → p.reports = before ++ .reportsLost n :: after →
      (∀ r ∈ before ++ after, r.isLost = false) →
      p.post rep =
        ({ p with reports := before ++ .reportsLost (n + 1) :: after, reportsLost := bump p.reportsLost }, false)) ∧
    (∀ n, n ≤ 255 → (Report.reportsLost n).body = [19, BitVec.ofNat 8 n])

/-! ### Tallies at the source (chapter 6) -/

/-- What a tally echoing the epoch makes of a member (R91, R92). -/
def tallied (deferred good : Bool) (m : Member) : Member :=
  match m.role with
  | .data => if good then m else { m with role := .shunned, restore := 0 }
  | .shunned =>
    if !good then { m with restore := 0 }
    else if deferred || decide (m.restore < 2) then { m with restore := min 3 (m.restore + 1) }
    else { m with role := .data, restore := 0 }
  | .probe | .leaving => m

/-- Liveness (R90): the last tally and echoed epoch are the TALLY's, and SINK_SILENT is cleared, with SINK_HEARD where
it was set. -/
def heard (t : RecIx) (b : TallyBody) (s : State) : State :=
  let s1 := s.modTx t (fun r => { r with
    lastEcho := some b.echo, silent := false
    lastTally := some { age := 0, info := some {
      echo := b.echo, good := b.good, skew := b.skew, delinLocked := b.delinLocked, width := b.width } } })
  if (txAt s t).silent then { s1 with port := (s1.port.post (.sinkHeard t ((txAt s t).sink.getD nobody))).1 } else s1

/-- What follows where the TALLY echoes the epoch as it then stands (R90). -/
def thenHealth (t : RecIx) (b : TallyBody) (s : State) : State :=
  if (txAt s t).epoch = b.echo then tallyHealth t b.good s else s

/-- A TALLY (R90) is for the record outside VACANT with its sender as sink and its tag. OFFERING, the record first opens
as for an ACCEPT (R81). The last tally and echoed epoch become its own, and SINK_SILENT is cleared, with SINK_HEARD
where it was set, also while CLOSING (the model's choice, log entry 59), where nothing else happens. OPEN, where it
echoes the epoch, a change in CONFIRM ends: LEAVING members are released, and it is DONE, a GROW that added fewer than
asked PARTIAL (R87, R89); a GROW in PROBE whose probing members are all shown good, there being one (log entry 63), is
switched (R86). Then, where it echoes the epoch as it stands, DATA members shown not good are shunned and SHUNNED ones
shown good count towards their restore (put off while a voluntary change, a GROW of an OPEN among them, log entry 83, is
in SWITCH-WAIT or CONFIRM, R92), as one layout edit where a role changed, each with its report in sequence order (R91,
R92, R104). No effect elsewhere (log entry 1). -/
def Obligations.TallyShunsAndRestoresMembers : Prop :=
  (∀ (sender : StationId) (b : TallyBody) (s : State),
    ((∀ t, ¬ NamesTx s sender b.tag t) → txNotice sender (.tally b) s = s) ∧
    (∀ t, NamesTx s sender b.tag t → txNotice sender (.tally b) s = takeTally t b s)) ∧
  (∀ (t : RecIx) (b : TallyBody) (s : State),
    let h := heard t b s
    let r := txAt s t
    (r.state = .offering → takeTally t b s = takeTally t b (acceptTrunk t s) ∧
      (txAt (acceptTrunk t s) t).state = .opened) ∧
    (r.state = .closing → takeTally t b s = h) ∧
    (r.state = .opened →
      (b.echo ≠ r.epoch → takeTally t b s = h) ∧
      (b.echo = r.epoch →
        (r.change = none → takeTally t b s = tallyHealth t b.good h) ∧
        (∀ c, r.change = some c →
          (c.phase = .switchWait ∨ c.phase = .claim → takeTally t b s = tallyHealth t b.good h) ∧
          (c.phase = .confirm → takeTally t b s = thenHealth t b
            (endChange t (if c.kind = .grow ∧ c.added ≠ c.arg then .partially else .done)
              (dropMembers t (fun m => m.role == .leaving) h))) ∧
          (c.phase = .probe →
            let full := (∃ m ∈ r.members, m.role = .probe) ∧
              ∀ p ∈ r.members.zipIdx, p.1.role = .probe → b.good.getMsbD p.2 = true
            (¬ full → takeTally t b s = tallyHealth t b.good h) ∧
            (full → ∃ s1, Switched t b.good.getMsbD h s1 ∧ takeTally t b s = thenHealth t b s1)))))) ∧
  (∀ (t : RecIx) (good : BitVec 16) (s : State),
    let r := txAt s t
    let deferred := r.change.any (fun c => c.kind != .closeAbort && (c.phase == .switchWait || c.phase == .confirm))
    let after := r.members.zipIdx.map (fun p => tallied deferred (good.getMsbD p.2) p.1)
    let pairs := r.members.zip after
    let turned := fun (x y : MemberRole) => pairs.countP (fun p => p.1.role == x && p.2.role == y)
    let same := after.map (fun m => m.role) = r.members.map (fun m => m.role)
    ∃ s1, Reseated t (fun r =>
        let r' := if same then { r with members := after } else edited after r
        { r' with
        shuns := bumpBy r.shuns (turned .data .shunned), restores := bumpBy r.restores (turned .shunned .data) }) s s1 ∧
      let reports := pairs.zipIdx.filterMap (fun p =>
        if p.1.1.role = .data ∧ p.1.2.role = .shunned then
          some (Report.memberFault t p.1.1.slot p.2 (txAt s1 t).epoch)
        else if p.1.1.role = .shunned ∧ p.1.2.role = .data then
          some (.memberRestored t p.1.1.slot p.2 (txAt s1 t).epoch)
        else none)
      tallyHealth t good s = { s1 with port := reports.foldl (fun q rep => (q.post rep).1) s1.port })

/-! ### Cycles at the sink (chapter 7) -/

/-- A receive record's delineator is reset (R132, R136): HUNT with nothing stored (its parcel place then: log entry 72),
and the blocks of the frame in progress go back to the pool. -/
def delinCut (r : RecIx) (s : State) : State :=
  let blocks := match (rxAt s r).delin.frame with
    | some f => f.blocks
    | none => 0
  { s with
    rx := { s.rx with recs := vset s.rx.recs r { rxAt s r with
      delin := { state := .hunt, store := [], cand := none, place := .header [], frame := none } } }
    buf := { s.buf with
      rxFree := s.buf.rxFree + blocks, rxUse := vset s.buf.rxUse r (vget s.buf.rxUse r - blocks) } }

/-- The reasons of R115 in their order, each with its test, for a slot in a completed cycle. -/
def UncleanFor (s : State) (e : RxRec) (n : CycleNo) (kind : CycleKind) (a : SlotAddr) (item : Option Item) :
    UncleanReason → Prop
  | .lane => (laneAt s (laneOf a)).state ≠ .locked
  | .late => item = none
  | .header => item = some .faulty ∨ ∃ seq role epoch width payload re rw bytes,
      item = some (.header seq role epoch width payload) ∧ kind = .consistent re rw bytes ∧
        (epoch ≠ re ∨ width ≠ rw)
  | .owner => ∃ x, item = some (.foreign x) ∧ some x ≠ e.source
  | .absent => item = some .free ∨ ∃ x, item = some (.foreign x) ∧ some x = e.source
  | .probe => ∃ seq epoch width payload, item = some (.header seq .probe epoch width payload) ∧
      payload ≠ (List.replicate 8 [n, (e.source.getD nobody).setWidth 8, (e.tag.getD 0).setWidth 8,
        seq.setWidth 8]).flatten
  | .skew => ∃ lag x low, (laneAt s (laneOf a)).lag = some lag ∧ x ∈ e.view ∧ x.role = .data ∧
      (laneAt s (laneOf x.slot)).lag = some low ∧ ((cfg s).skewLimit * 16 : Int) < lag - low

/-- The order of R115. -/
def uncleanOrder : List UncleanReason := [.lane, .late, .header, .owner, .absent, .probe, .skew]

/-- The four kinds of a completed cycle (R113), and the table of R116 for one judgement. An entry is unclean with the
first reason of R115 that holds (SKEW is none where no lane of a DATA entry holds a lag, the model's choice, log entry
88). A cycle completes (log entry 24): a BLANK or FAULT one resets the delineator and is counted; a CONSISTENT one is
counted, gives its bytes to the delineator (FramePassesFromEncoderToReceiveQueue) and its epoch and width, with
WIDTH_CHANGED (R113, R114); unless BLANK every entry is judged, its absent run counts, and those absent 16 cycles leave,
the skew being recomputed (R110, R116, R117); the next cycle follows, none in an empty view; at most one TALLY is
posted, where the epoch seen or a member's health into or out of BAD changed (R119). The trunk skew is the spread of the
lags of the LOCKED lanes in view (R117), 0 where none is LOCKED (the model's choice, log entry 88). A lane that hands
its lag (R117, R118): each ACCEPTED record recomputes its skew; one with a slot on it realigns where the lane came from
CONFIRM with no other lane of the view LOCKED or COAST, or has an aligned lag and was renumbered or moved against
another lane's; then the alignment buffer is emptied, the delineator reset and REALIGNED posted; else it notes the lag.
No effect elsewhere (log entry 1). -/
def Obligations.CompletedCycleIsJudged : Prop :=
  (∀ items : List (Option Item),
    let hs := headersOf items
    let data := hs.filter (fun h => h.2.1 == .data)
    (cycleKind items = .blank ↔ ∀ x ∈ items, x = none) ∧
    (∀ epoch width bytes, cycleKind items = .consistent epoch width bytes ↔
      hs ≠ [] ∧
      (data ≠ [] → (∀ h ∈ data, h.2.2.1 = epoch ∧ h.2.2.2.1 = width) ∧ data.length = width.toNat ∧
        (data.map (fun h => h.1)).Nodup) ∧
      (data = [] → width = 0 ∧ ∀ h ∈ hs, h.2.2.1 = epoch ∧ h.2.2.2.1 = 0) ∧
      bytes = (List.range 16).flatMap (fun seq => match data.find? (fun h => h.1.toNat == seq) with
        | some h => h.2.2.2.2
        | none => [])) ∧
    (cycleKind items = .empty ↔ items ≠ [] ∧ hs = [] ∧ ∀ x ∈ items, ∃ i, x = some i ∧ i ≠ .faulty)) ∧
  (∀ x : ViewEntry,
    x.judge none = (match x.health with
      | .good => { x with clean := min 8 (x.clean + 1) }
      | .suspect => { x with health := .good, unclean := 0, clean := 1 }
      | .bad => if 7 ≤ x.clean then { x with health := .good, unclean := 0, clean := 8 }
        else { x with clean := x.clean + 1 }) ∧
    (∀ why, why = .lane ∨ why = .owner ∨ why = .skew →
      x.judge (some why) = { x with
        health := .bad, reason := some why, clean := 0, unclean := if x.health = .good then 1 else x.unclean }) ∧
    (∀ why, why = .header ∨ why = .absent ∨ why = .probe ∨ why = .late →
      x.judge (some why) = (match x.health with
        | .good => { x with health := .suspect, reason := some why, clean := 0, unclean := 1 }
        | .suspect => { x with
            health := if 2 ≤ x.unclean then .bad else .suspect, reason := some why, clean := 0
            unclean := x.unclean + 1 }
        | .bad => { x with reason := some why, clean := 0, unclean := min 3 (x.unclean + 1) }))) ∧
  (∀ (s : State) (e : RxRec) (n : CycleNo) (kind : CycleKind) (a : SlotAddr) (item : Option Item),
    let holds := UncleanFor s e n kind a item
    (∀ before why after, uncleanOrder = before ++ why :: after → holds why → (∀ x ∈ before, ¬ holds x) →
      uncleanReason s e n kind a item = some why) ∧
    ((∀ x ∈ uncleanOrder, ¬ holds x) → uncleanReason s e n kind a item = none)) ∧
  (∀ (r : RecIx) (s : State),
    let fault := (delinCut r s).modRx r (fun e => { e with faults := bump e.faults })
    takeCycle r .blank s = fault ∧ takeCycle r .faulty s = fault ∧ takeCycle r .empty s = s ∧
    (∀ epoch width bytes,
      let s1 := (delineate r bytes s).modRx r (fun e => { e with
        consistent := bump e.consistent, epochSeen := epoch, widthSeen := width })
      (width = (rxAt s r).widthSeen → takeCycle r (.consistent epoch width bytes) s = s1) ∧
      (width ≠ (rxAt s r).widthSeen → takeCycle r (.consistent epoch width bytes) s = { s1 with
        port := (s1.port.post (.widthChanged r (rxAt s r).widthSeen width epoch)).1 }))) ∧
  (∀ (r : RecIx) (n : CycleNo) (kind : CycleKind) (items : List (SlotAddr × Item)) (s : State),
    let judged := (rxAt s r).view.map (fun x =>
      let item := (items.find? (fun p => p.1 == x.slot)).map (fun p => p.2)
      let y := x.judge (uncleanReason s (rxAt s r) n kind x.slot item)
      { y with absent := if item.any Item.isHeader then 0 else y.absent + 1 })
    let stay := judged.filter (fun x => decide (x.absent < 16))
    (stay = judged → judgeView r n kind items s = s.modRx r (fun e => { e with view := judged })) ∧
    (stay ≠ judged → judgeView r n kind items s =
      s.modRx r (fun e => { e with view := stay, skew := viewSkew s stay }))) ∧
  (∀ (s : State) (v : List ViewEntry),
    let lag := fun x : Int => ∃ e ∈ v, (laneAt s (laneOf e.slot)).state = .locked ∧
      (laneAt s (laneOf e.slot)).lag = some x
    ((∀ x, ¬ lag x) → viewSkew s v = 0) ∧
    (∀ low high, lag low → lag high → (∀ x, lag x → low ≤ x ∧ x ≤ high) → viewSkew s v = (high - low).toNat)) ∧
  (∀ (r : RecIx) (s : State),
    ((rxAt s r).next = none → completeNext r s = s) ∧
    (∀ n, (rxAt s r).next = some n →
      let view := (rxAt s r).view
      let ix : Fin 8 := Fin.ofNat 8 n.toNat
      let items := match vget (rxAt s r).align ix with
        | some x => if x.cycle = n then x.items else []
        | none => []
      let item := fun a : SlotAddr => (items.find? (fun p => p.1 == a)).map (fun p => p.2)
      let kind := cycleKind (view.map (fun x => item x.slot))
      let s1 := takeCycle r kind s
      let s2 := if kind = .blank then s1 else judgeView r n kind items s1
      let s3 := s2.modRx r (fun e =>
        if e.view = [] then { e with align := Vector.replicate 8 none, next := none }
        else { e with align := vset e.align ix none, next := some (n + 1) })
      let turned := ∃ x ∈ view, ∃ y ∈ view, y.slot = x.slot ∧ ¬ (x.health = .bad ↔
        (y.judge (uncleanReason s1 (rxAt s1 r) n kind y.slot (item y.slot))).health = .bad)
      let tally := (rxAt s1 r).epochSeen ≠ (rxAt s r).epochSeen ∨ kind ≠ .blank ∧ turned
      (¬ tally → completeNext r s = s3) ∧
      (tally → completeNext r s =
        if (queued s3 (.rx r)).any (fun e => e.body.kind == 2) then s3
        else postNotice (.rx r) ((rxAt s3 r).source.getD nobody) (.tally (tallyBody s3 r)) s3))) ∧
  (∀ (r : RecIx) (l : LaneNo) (fromConfirm renumbered : Bool) (s : State),
    let e := rxAt s r
    let holds := fun m : LaneNo => ∃ x ∈ e.view, laneOf x.slot = m
    let s1 := s.modRx r (fun e => { e with skew := viewSkew s e.view })
    let fresh := fromConfirm = true ∧ ∀ m, m ≠ l → holds m →
      (laneAt s m).state ≠ .locked ∧ (laneAt s m).state ≠ .coast
    let moved := vget e.aligned l ≠ none ∧ (renumbered = true ∨
      (∃ m, m ≠ l ∧ holds m ∧ vget e.aligned m ≠ none) ∧ vget e.aligned l ≠ (laneAt s l).lag)
    (e.state ≠ .accepted → rxHanded r l fromConfirm renumbered s = s) ∧
    (e.state = .accepted →
      (¬ holds l → rxHanded r l fromConfirm renumbered s = s1) ∧
      (holds l → ¬ fresh → ¬ moved → rxHanded r l fromConfirm renumbered s =
        s1.modRx r (fun e => { e with aligned := vset e.aligned l (laneAt s l).lag })) ∧
      (holds l → fresh ∨ moved → ∃ aligned : Vector (Option Int) 4,
        (∀ m, (holds m → vget aligned m = (laneAt s m).lag) ∧ (¬ holds m → vget aligned m = none)) ∧
        let s2 := (delinCut r s1).modRx r (fun e => { e with
          align := Vector.replicate 8 none, next := none, aligned := aligned, realigns := bump e.realigns })
        rxHanded r l fromConfirm renumbered s =
          { s2 with port := (s2.port.post (.realigned r l (laneAt s l).lag)).1 })))

/-! ### Formats and parcels (chapters 8 and 12) -/

/-- The body test (R172): of a notice whose check, guard, class, sender and destination pass, an unlisted reason, an
attempt of 0 or above 3, a width above 16, or counts above 64, 8 and 8 make it a notice of unknown kind, which is
counted on its lane and does nothing else. A mark with a flag bit other than FRESH set is no valid mark (R10). -/
def Obligations.NoticeFailingTheBodyTestIsUnknown : Prop :=
  (∀ (l : LaneNo) (p : Fin 2) (c : CycleNo) (word : BitVec 112) (s : State), s.pins.resetAsserted = false →
    s.Running → (laneAt s l).state = .locked → Passing s l c → noticeCheckOk word = true → field word 106 6 = 0x3F#6 →
    (field word 2 6).toNat ∉ [0, 63] → (field word 12 6).toNat ≠ 0 →
    let kind := (field word 8 4).toNat
    let cls := (field word 0 2).toNat
    let second := (field word 22 4).toNat
    let fails :=
      (kind = 2 ∧ second ∉ [1, 2]) ∨ (kind = 5 ∧ second ∉ [1, 2]) ∨ (kind = 3 ∧ second ∉ [1, 2, 3]) ∨
      (kind = 6 ∧ 16 < (field word 45 5).toNat) ∨
      (kind = 7 ∧ (64 < (field word 18 7).toNat ∨ 8 < (field word 25 4).toNat ∨ 8 < (field word 29 4).toNat))
    ((kind = 1 ∨ kind = 2) ∧ cls = 0 ∨ (kind = 3 ∨ kind = 4 ∨ kind = 5) ∧ cls = 1 ∨ kind = 6 ∧ cls = 2 ∨
      kind = 7 ∧ cls = 3) →
    (readNotice word = .unknown ↔ fails) ∧
    (fails → exec (.noticeArrival l p c word) s = .next (settle { s with notice := { s.notice with
      won := vset s.notice.won l none
      unknownKind := vset s.notice.unknownKind l (bump (vget s.notice.unknownKind l)) } }))) ∧
  (∀ (l : LaneNo) (word : BitVec 64), field word 33 7 ≠ 0#7 → readMark l word = none)

/-- What a PT416 writes, a PT416 reads back (R10 to R13, R54, R128, R133, R171, R172, 12.1): for every mark, for every
notice with a body that passes R172 between named stations, for every slot header of an owner, and for every parcel
header, the receiver finds the fields that were sent. A mark's pacer is read as it stands, 0 and 63 too (log entry 17).
-/
def Obligations.LayoutsReadBackAsWritten : Prop :=
  (∀ (pacer : StationId) (l : LaneNo) (n : CycleNo) (fresh : Bool),
    readMark l (encodeMark pacer l n fresh) = some { pacer := pacer, number := n, fresh := fresh }) ∧
  (∀ (sender dest : StationId) (b : NoticeBody), sender.toNat ∉ [0, 63] → dest.toNat ≠ 0 →
    (∀ tag n, b = .offer tag n → 1 ≤ n.toNat ∧ n.toNat ≤ 3) → (∀ x, b = .tally x → x.width.toNat ≤ 16) →
    (∀ x, b = .presence x → x.owned.toNat ≤ 64 ∧ x.tx.toNat ≤ 8 ∧ x.rx.toNat ≤ 8) →
    readNotice (encodeNotice sender dest b) = .received sender dest b) ∧
  (∀ h : Header, h.owner.toNat ≠ 63 → h.width.toNat ≤ 16 → readHeader (encodeHeader h) = .valid h) ∧
  (∀ (len : Nat) (cls : Byte), len ≤ 1536 → readParcelHeader (parcelHeader len cls) = some (len, cls))

/-- The parcel of a frame (R128): header, payload, and the CRC-32 of the payload. -/
def parcelOf (cls : Byte) (data : List Byte) : List Byte :=
  parcelHeader data.length cls ++ data ++ bytes32 (crc32 data)

/-- A delineator in LOCKED at the start of a parcel (R132). -/
def AtBoundary (d : Delin) : Prop :=
  d = { state := .locked, store := [], cand := none, place := .header [], frame := none }

/-- An offset of the stored bytes is ruled out (R133, R134): no valid header stands there, or the header that should
follow its parcel has arrived and is not valid. -/
def RuledOut (bytes : List Byte) (i : Nat) : Prop :=
  i + 4 ≤ bytes.length ∧ ∀ len cls, readParcelHeader ((bytes.drop i).take 4) = some (len, cls) →
    let next := i + (if len = 0 then 4 else len + 8)
    next + 4 ≤ bytes.length ∧ readParcelHeader ((bytes.drop next).take 4) = none

/-- A frame passes the trunk whole (R128, R129, R135, R142): between parcels the encoder gives the head frame's parcel,
handing back its blocks and counting it, or a fill where no frame is complete; it goes on where it left off, however the
bytes are asked for. A delineator LOCKED at a parcel's start takes that parcel into the receive queue, with its class,
for the blocks it needs, or passes over the fill, however the parcel is split between cycles. Where a block is refused
the frame is dropped, its blocks returned, the drop counted and the rest skipped (R135, R142); where its check fails its
blocks are returned and the failure counted (R135); both stay LOCKED at the next parcel. An invalid header brings HUNT
with its last three bytes (R135). Out of LOCKED the search takes the stored and new bytes (R133, R134): the first offset
not ruled out is kept, in HUNT where its four bytes have not come, in VERIFY with its header until its successor has,
and LOCKED at a valid successor, the bytes stored after it being taken at once (the model's choice, log entry 60). A
reset event leaves HUNT with nothing stored and the frame's blocks returned (R136). Outside LOCKED the parcel place is
HEADER with no byte, the model's choice (log entry 72). -/
def Obligations.FramePassesFromEncoderToReceiveQueue : Prop :=
  (∀ (x : EncCtx) (f : TxFrame) (rest : List TxFrame), x.enc = .between → x.queue = f :: rest → f.complete = true →
    f.data.length = f.len → 1 ≤ f.len → f.len ≤ 1536 →
    encodeBytes (f.len + 8) x =
      ({ x with enc := .between, queue := rest, returned := x.returned + (f.len + 127) / 128, sent := bump x.sent },
        parcelOf f.cls f.data)) ∧
  (∀ x : EncCtx, x.enc = .between → (∀ f rest, x.queue = f :: rest → f.complete = false) →
    encodeBytes 4 x = (x, parcelHeader 0 0)) ∧
  (∀ (x : EncCtx) (k n : Nat), encodeBytes (k + n) x =
    ((encodeBytes n (encodeBytes k x).1).1, (encodeBytes k x).2 ++ (encodeBytes n (encodeBytes k x).1).2)) ∧
  (∀ (t : RecIx) (n : Nat) (s : State), ∃ out,
    out = encodeBytes n { enc := (txAt s t).enc, queue := vget s.buf.txQueue t, returned := 0
                          sent := (txAt s t).framesSent } ∧
    encode t n s = ({ s with
      tx := vset s.tx t { txAt s t with enc := out.1.enc, framesSent := out.1.sent }
      buf := { s.buf with
        txFree := s.buf.txFree + out.1.returned
        txUse := vset s.buf.txUse t (vget s.buf.txUse t - out.1.returned)
        txQueue := vset s.buf.txQueue t out.1.queue } }, out.2)) ∧
  (∀ (x : DelCtx) (cls : Byte) (data first second : List Byte) (m n : Nat), AtBoundary x.d → 1 ≤ data.length →
    data.length ≤ 1536 → first ++ second = parcelOf cls data → first.length ≤ m → second.length ≤ n →
    let need := (data.length + 127) / 128
    (need ≤ x.free → x.use + need ≤ x.quota → feed n second (feed m first x) = { x with
      free := x.free - need, use := x.use + need, queue := x.queue ++ [{ cls := cls, data := data }] }) ∧
    (x.free < need ∨ x.quota < x.use + need →
      feed n second (feed m first x) = { x with dropped := bump x.dropped })) ∧
  (∀ (x : DelCtx) (cls : Byte) (data check : List Byte) (n : Nat), AtBoundary x.d → 1 ≤ data.length →
    data.length ≤ 1536 → check.length = 4 → check ≠ bytes32 (crc32 data) →
    (data.length + 127) / 128 ≤ x.free → x.use + (data.length + 127) / 128 ≤ x.quota → data.length + 8 ≤ n →
    feed n (parcelHeader data.length cls ++ data ++ check) x = { x with badChecks := bump x.badChecks }) ∧
  (∀ (x : DelCtx) (n : Nat), AtBoundary x.d → 4 ≤ n → feed n (parcelHeader 0 0) x = x) ∧
  (∀ (x : DelCtx) (a b c d : Byte) (n : Nat), AtBoundary x.d → readParcelHeader [a, b, c, d] = none → 5 ≤ n →
    feed n [a, b, c, d] x = { x with d := { state := .hunt, store := [b, c, d], cand := none, place := .header []
                                            frame := none } }) ∧
  (∀ (x : DelCtx) (new : List Byte) (i n : Nat), x.d.state ≠ .locked →
    let bytes := x.d.store ++ new
    (∀ k < i, RuledOut bytes k) → ¬ RuledOut bytes i → i ≤ bytes.length →
    let rest := bytes.drop i
    (rest.length < 4 → feed (n + 1) new x =
      { x with d := { state := .hunt, store := rest, cand := none, place := .header [], frame := none } }) ∧
    (∀ len cls, 4 ≤ rest.length → readParcelHeader (rest.take 4) = some (len, cls) →
      let next := rest.drop (if len = 0 then 4 else len + 8)
      (next.length < 4 → feed (n + 1) new x = { x with
        d := { state := .verify, store := rest, cand := some (len, cls), place := .header [], frame := none } }) ∧
      (∀ len' cls', 4 ≤ next.length → readParcelHeader (next.take 4) = some (len', cls') →
        feed (n + 1) new x = feed n (next.drop 4) { x with d := {
          state := .locked, store := [], cand := none
          place := if len' = 0 then .header [] else .payload 0
          frame := if len' = 0 then none
            else some { len := len', cls := cls', data := [], blocks := 0, crc := crc32Init } } }))) ∧
  (∀ (r : RecIx) (s : State), resetDelin r s = delinCut r s ∧ delineate r [] s = s ∧
    (∀ bytes, bytes ≠ [] → ∃ out,
      out = feed (5 * ((rxAt s r).delin.store.length + bytes.length + 4)) bytes {
        d := (rxAt s r).delin, free := s.buf.rxFree, use := vget s.buf.rxUse r, quota := (cfg s).rxQuota
        queue := vget s.buf.rxQueue r, badChecks := (rxAt s r).badChecks, dropped := (rxAt s r).dropped } ∧
      delineate r bytes s = { s with
        rx := { s.rx with recs := vset s.rx.recs r { rxAt s r with
          delin := out.d, badChecks := out.badChecks, dropped := out.dropped } }
        buf := { s.buf with
          rxFree := out.free, rxUse := vset s.buf.rxUse r out.use, rxQueue := vset s.buf.rxQueue r out.queue } }))

/-! ### What every step keeps -/

/-- Every step keeps three things: each command counted as outstanding is in one place, at most 24 of them, at most 8 in
the command queue (R147 to R149, R154, R159); the report queue holds at most 31 ordinary reports and one REPORTS_LOST
(R155); and a station that is not LISTENING or ATTACHED is still: lanes disabled, timing QUIET, no notice, slot, request
or trunk (R163, R167). -/
def Obligations.EveryStepKeepsTheInvariants : Prop :=
  ∀ s t : State, step s = .next t →
    (s.CommandsKept → t.CommandsKept) ∧ (s.ReportsBounded → t.ReportsBounded) ∧
    (s.StillUnlessRunning → t.StillUnlessRunning)

/-- The invariants hold at reset. -/
def Obligations.InvariantsHoldAtReset : Prop :=
  State.reset.CommandsKept ∧ State.reset.ReportsBounded ∧ State.reset.StillUnlessRunning
end

