-- ==== Sys2Proof/Laws/State.lean ====
section
/-! SUPPORT. What each change of one record does to each field of the state, and the reading of a fixed table after a
write; every lemma about a field of State holds by rfl. -/

namespace Sys2Proof.Machine

/-! ### Fixed tables -/

section Tables

variable {α β : Type} {n : Nat}

@[simp] theorem vget_vset_same (v : Vector α n) (i : Fin n) (a : α) : vget (vset v i a) i = a := by
  simp [vget, vset]

theorem vget_vset_of_ne (v : Vector α n) {i j : Fin n} (h : j ≠ i) (a : α) : vget (vset v i a) j = vget v j := by
  have h' : i.val ≠ j.val := fun e => h (Fin.ext e.symm)
  simp [vget, vset, h']

@[simp] theorem vget_vmod_same (v : Vector α n) (i : Fin n) (f : α → α) : vget (vmod v i f) i = f (vget v i) := by
  simp [vmod]

theorem vget_vmod_of_ne (v : Vector α n) {i j : Fin n} (h : j ≠ i) (f : α → α) : vget (vmod v i f) j = vget v j := by
  simp [vmod, vget_vset_of_ne v h]

theorem vget_vset (v : Vector α n) (i j : Fin n) (a : α) : vget (vset v i a) j = if j = i then a else vget v j := by
  by_cases h : j = i
  · subst h; simp
  · simp [vget_vset_of_ne v h, h]

theorem vget_vmod (v : Vector α n) (i j : Fin n) (f : α → α) :
    vget (vmod v i f) j = if j = i then f (vget v i) else vget v j := by
  rw [vmod, vget_vset]

@[simp] theorem vget_vmap (f : α → β) (v : Vector α n) (i : Fin n) : vget (vmap f v) i = f (vget v i) := by
  simp [vget, vmap]

@[simp] theorem vget_replicate (a : α) (i : Fin n) : vget (Vector.replicate n a) i = a := by
  simp [vget]

/-- Two fixed tables that read alike everywhere are equal. -/
theorem vget_ext {v w : Vector α n} (h : ∀ i, vget v i = vget w i) : v = w :=
  Vector.ext fun i hi => h ⟨i, hi⟩

@[simp] theorem length_vlist (v : Vector α n) : (vlist v).length = n := by
  simp [vlist]

end Tables

section modLane

variable (s : State) (l : LaneNo) (f : Lane → Lane)

@[simp] theorem State.modLane_loader : (s.modLane l f).loader = s.loader := rfl
@[simp] theorem State.modLane_lanes : (s.modLane l f).lanes = vmod s.lanes l f := rfl
@[simp] theorem State.modLane_timing : (s.modLane l f).timing = s.timing := rfl
@[simp] theorem State.modLane_notice : (s.modLane l f).notice = s.notice := rfl
@[simp] theorem State.modLane_roster : (s.modLane l f).roster = s.roster := rfl
@[simp] theorem State.modLane_slots : (s.modLane l f).slots = s.slots := rfl
@[simp] theorem State.modLane_tx : (s.modLane l f).tx = s.tx := rfl
@[simp] theorem State.modLane_rx : (s.modLane l f).rx = s.rx := rfl
@[simp] theorem State.modLane_buf : (s.modLane l f).buf = s.buf := rfl
@[simp] theorem State.modLane_port : (s.modLane l f).port = s.port := rfl
@[simp] theorem State.modLane_pins : (s.modLane l f).pins = s.pins := rfl
@[simp] theorem State.modLane_free : (s.modLane l f).free = s.free := rfl
@[simp] theorem State.modLane_pending : (s.modLane l f).pending = s.pending := rfl

end modLane

section modTiming

variable (s : State) (f : Timing → Timing)

@[simp] theorem State.modTiming_loader : (s.modTiming f).loader = s.loader := rfl
@[simp] theorem State.modTiming_lanes : (s.modTiming f).lanes = s.lanes := rfl
@[simp] theorem State.modTiming_timing : (s.modTiming f).timing = f s.timing := rfl
@[simp] theorem State.modTiming_notice : (s.modTiming f).notice = s.notice := rfl
@[simp] theorem State.modTiming_roster : (s.modTiming f).roster = s.roster := rfl
@[simp] theorem State.modTiming_slots : (s.modTiming f).slots = s.slots := rfl
@[simp] theorem State.modTiming_tx : (s.modTiming f).tx = s.tx := rfl
@[simp] theorem State.modTiming_rx : (s.modTiming f).rx = s.rx := rfl
@[simp] theorem State.modTiming_buf : (s.modTiming f).buf = s.buf := rfl
@[simp] theorem State.modTiming_port : (s.modTiming f).port = s.port := rfl
@[simp] theorem State.modTiming_pins : (s.modTiming f).pins = s.pins := rfl
@[simp] theorem State.modTiming_free : (s.modTiming f).free = s.free := rfl
@[simp] theorem State.modTiming_pending : (s.modTiming f).pending = s.pending := rfl

end modTiming

section modNotice

variable (s : State) (f : NoticeUnit → NoticeUnit)

@[simp] theorem State.modNotice_loader : (s.modNotice f).loader = s.loader := rfl
@[simp] theorem State.modNotice_lanes : (s.modNotice f).lanes = s.lanes := rfl
@[simp] theorem State.modNotice_timing : (s.modNotice f).timing = s.timing := rfl
@[simp] theorem State.modNotice_notice : (s.modNotice f).notice = f s.notice := rfl
@[simp] theorem State.modNotice_roster : (s.modNotice f).roster = s.roster := rfl
@[simp] theorem State.modNotice_slots : (s.modNotice f).slots = s.slots := rfl
@[simp] theorem State.modNotice_tx : (s.modNotice f).tx = s.tx := rfl
@[simp] theorem State.modNotice_rx : (s.modNotice f).rx = s.rx := rfl
@[simp] theorem State.modNotice_buf : (s.modNotice f).buf = s.buf := rfl
@[simp] theorem State.modNotice_port : (s.modNotice f).port = s.port := rfl
@[simp] theorem State.modNotice_pins : (s.modNotice f).pins = s.pins := rfl
@[simp] theorem State.modNotice_free : (s.modNotice f).free = s.free := rfl
@[simp] theorem State.modNotice_pending : (s.modNotice f).pending = s.pending := rfl

end modNotice

section modRoster

variable (s : State) (i : Fin 62) (f : RosterEntry → RosterEntry)

@[simp] theorem State.modRoster_loader : (s.modRoster i f).loader = s.loader := rfl
@[simp] theorem State.modRoster_lanes : (s.modRoster i f).lanes = s.lanes := rfl
@[simp] theorem State.modRoster_timing : (s.modRoster i f).timing = s.timing := rfl
@[simp] theorem State.modRoster_notice : (s.modRoster i f).notice = s.notice := rfl
@[simp] theorem State.modRoster_roster : (s.modRoster i f).roster = vmod s.roster i f := rfl
@[simp] theorem State.modRoster_slots : (s.modRoster i f).slots = s.slots := rfl
@[simp] theorem State.modRoster_tx : (s.modRoster i f).tx = s.tx := rfl
@[simp] theorem State.modRoster_rx : (s.modRoster i f).rx = s.rx := rfl
@[simp] theorem State.modRoster_buf : (s.modRoster i f).buf = s.buf := rfl
@[simp] theorem State.modRoster_port : (s.modRoster i f).port = s.port := rfl
@[simp] theorem State.modRoster_pins : (s.modRoster i f).pins = s.pins := rfl
@[simp] theorem State.modRoster_free : (s.modRoster i f).free = s.free := rfl
@[simp] theorem State.modRoster_pending : (s.modRoster i f).pending = s.pending := rfl

end modRoster

section modSlots

variable (s : State) (f : SlotUnit → SlotUnit)

@[simp] theorem State.modSlots_loader : (s.modSlots f).loader = s.loader := rfl
@[simp] theorem State.modSlots_lanes : (s.modSlots f).lanes = s.lanes := rfl
@[simp] theorem State.modSlots_timing : (s.modSlots f).timing = s.timing := rfl
@[simp] theorem State.modSlots_notice : (s.modSlots f).notice = s.notice := rfl
@[simp] theorem State.modSlots_roster : (s.modSlots f).roster = s.roster := rfl
@[simp] theorem State.modSlots_slots : (s.modSlots f).slots = f s.slots := rfl
@[simp] theorem State.modSlots_tx : (s.modSlots f).tx = s.tx := rfl
@[simp] theorem State.modSlots_rx : (s.modSlots f).rx = s.rx := rfl
@[simp] theorem State.modSlots_buf : (s.modSlots f).buf = s.buf := rfl
@[simp] theorem State.modSlots_port : (s.modSlots f).port = s.port := rfl
@[simp] theorem State.modSlots_pins : (s.modSlots f).pins = s.pins := rfl
@[simp] theorem State.modSlots_free : (s.modSlots f).free = s.free := rfl
@[simp] theorem State.modSlots_pending : (s.modSlots f).pending = s.pending := rfl

end modSlots

section modSlot

variable (s : State) (a : SlotAddr) (f : SlotRec → SlotRec)

@[simp] theorem State.modSlot_loader : (s.modSlot a f).loader = s.loader := rfl
@[simp] theorem State.modSlot_lanes : (s.modSlot a f).lanes = s.lanes := rfl
@[simp] theorem State.modSlot_timing : (s.modSlot a f).timing = s.timing := rfl
@[simp] theorem State.modSlot_notice : (s.modSlot a f).notice = s.notice := rfl
@[simp] theorem State.modSlot_roster : (s.modSlot a f).roster = s.roster := rfl
@[simp] theorem State.modSlot_slots : (s.modSlot a f).slots = { s.slots with recs := vmod s.slots.recs a f } := rfl
@[simp] theorem State.modSlot_tx : (s.modSlot a f).tx = s.tx := rfl
@[simp] theorem State.modSlot_rx : (s.modSlot a f).rx = s.rx := rfl
@[simp] theorem State.modSlot_buf : (s.modSlot a f).buf = s.buf := rfl
@[simp] theorem State.modSlot_port : (s.modSlot a f).port = s.port := rfl
@[simp] theorem State.modSlot_pins : (s.modSlot a f).pins = s.pins := rfl
@[simp] theorem State.modSlot_free : (s.modSlot a f).free = s.free := rfl
@[simp] theorem State.modSlot_pending : (s.modSlot a f).pending = s.pending := rfl

end modSlot

section modTx

variable (s : State) (t : RecIx) (f : TxRec → TxRec)

@[simp] theorem State.modTx_loader : (s.modTx t f).loader = s.loader := rfl
@[simp] theorem State.modTx_lanes : (s.modTx t f).lanes = s.lanes := rfl
@[simp] theorem State.modTx_timing : (s.modTx t f).timing = s.timing := rfl
@[simp] theorem State.modTx_notice : (s.modTx t f).notice = s.notice := rfl
@[simp] theorem State.modTx_roster : (s.modTx t f).roster = s.roster := rfl
@[simp] theorem State.modTx_slots : (s.modTx t f).slots = s.slots := rfl
@[simp] theorem State.modTx_tx : (s.modTx t f).tx = vmod s.tx t f := rfl
@[simp] theorem State.modTx_rx : (s.modTx t f).rx = s.rx := rfl
@[simp] theorem State.modTx_buf : (s.modTx t f).buf = s.buf := rfl
@[simp] theorem State.modTx_port : (s.modTx t f).port = s.port := rfl
@[simp] theorem State.modTx_pins : (s.modTx t f).pins = s.pins := rfl
@[simp] theorem State.modTx_free : (s.modTx t f).free = s.free := rfl
@[simp] theorem State.modTx_pending : (s.modTx t f).pending = s.pending := rfl

end modTx

section modRx

variable (s : State) (r : RecIx) (f : RxRec → RxRec)

@[simp] theorem State.modRx_loader : (s.modRx r f).loader = s.loader := rfl
@[simp] theorem State.modRx_lanes : (s.modRx r f).lanes = s.lanes := rfl
@[simp] theorem State.modRx_timing : (s.modRx r f).timing = s.timing := rfl
@[simp] theorem State.modRx_notice : (s.modRx r f).notice = s.notice := rfl
@[simp] theorem State.modRx_roster : (s.modRx r f).roster = s.roster := rfl
@[simp] theorem State.modRx_slots : (s.modRx r f).slots = s.slots := rfl
@[simp] theorem State.modRx_tx : (s.modRx r f).tx = s.tx := rfl
@[simp] theorem State.modRx_rx : (s.modRx r f).rx = { s.rx with recs := vmod s.rx.recs r f } := rfl
@[simp] theorem State.modRx_buf : (s.modRx r f).buf = s.buf := rfl
@[simp] theorem State.modRx_port : (s.modRx r f).port = s.port := rfl
@[simp] theorem State.modRx_pins : (s.modRx r f).pins = s.pins := rfl
@[simp] theorem State.modRx_free : (s.modRx r f).free = s.free := rfl
@[simp] theorem State.modRx_pending : (s.modRx r f).pending = s.pending := rfl

end modRx

section modBuf

variable (s : State) (f : Buffers → Buffers)

@[simp] theorem State.modBuf_loader : (s.modBuf f).loader = s.loader := rfl
@[simp] theorem State.modBuf_lanes : (s.modBuf f).lanes = s.lanes := rfl
@[simp] theorem State.modBuf_timing : (s.modBuf f).timing = s.timing := rfl
@[simp] theorem State.modBuf_notice : (s.modBuf f).notice = s.notice := rfl
@[simp] theorem State.modBuf_roster : (s.modBuf f).roster = s.roster := rfl
@[simp] theorem State.modBuf_slots : (s.modBuf f).slots = s.slots := rfl
@[simp] theorem State.modBuf_tx : (s.modBuf f).tx = s.tx := rfl
@[simp] theorem State.modBuf_rx : (s.modBuf f).rx = s.rx := rfl
@[simp] theorem State.modBuf_buf : (s.modBuf f).buf = f s.buf := rfl
@[simp] theorem State.modBuf_port : (s.modBuf f).port = s.port := rfl
@[simp] theorem State.modBuf_pins : (s.modBuf f).pins = s.pins := rfl
@[simp] theorem State.modBuf_free : (s.modBuf f).free = s.free := rfl
@[simp] theorem State.modBuf_pending : (s.modBuf f).pending = s.pending := rfl

end modBuf

section modPort

variable (s : State) (f : Port → Port)

@[simp] theorem State.modPort_loader : (s.modPort f).loader = s.loader := rfl
@[simp] theorem State.modPort_lanes : (s.modPort f).lanes = s.lanes := rfl
@[simp] theorem State.modPort_timing : (s.modPort f).timing = s.timing := rfl
@[simp] theorem State.modPort_notice : (s.modPort f).notice = s.notice := rfl
@[simp] theorem State.modPort_roster : (s.modPort f).roster = s.roster := rfl
@[simp] theorem State.modPort_slots : (s.modPort f).slots = s.slots := rfl
@[simp] theorem State.modPort_tx : (s.modPort f).tx = s.tx := rfl
@[simp] theorem State.modPort_rx : (s.modPort f).rx = s.rx := rfl
@[simp] theorem State.modPort_buf : (s.modPort f).buf = s.buf := rfl
@[simp] theorem State.modPort_port : (s.modPort f).port = f s.port := rfl
@[simp] theorem State.modPort_pins : (s.modPort f).pins = s.pins := rfl
@[simp] theorem State.modPort_free : (s.modPort f).free = s.free := rfl
@[simp] theorem State.modPort_pending : (s.modPort f).pending = s.pending := rfl

end modPort

section modLoader

variable (s : State) (f : Loader → Loader)

@[simp] theorem State.modLoader_loader : (s.modLoader f).loader = f s.loader := rfl
@[simp] theorem State.modLoader_lanes : (s.modLoader f).lanes = s.lanes := rfl
@[simp] theorem State.modLoader_timing : (s.modLoader f).timing = s.timing := rfl
@[simp] theorem State.modLoader_notice : (s.modLoader f).notice = s.notice := rfl
@[simp] theorem State.modLoader_roster : (s.modLoader f).roster = s.roster := rfl
@[simp] theorem State.modLoader_slots : (s.modLoader f).slots = s.slots := rfl
@[simp] theorem State.modLoader_tx : (s.modLoader f).tx = s.tx := rfl
@[simp] theorem State.modLoader_rx : (s.modLoader f).rx = s.rx := rfl
@[simp] theorem State.modLoader_buf : (s.modLoader f).buf = s.buf := rfl
@[simp] theorem State.modLoader_port : (s.modLoader f).port = s.port := rfl
@[simp] theorem State.modLoader_pins : (s.modLoader f).pins = s.pins := rfl
@[simp] theorem State.modLoader_free : (s.modLoader f).free = s.free := rfl
@[simp] theorem State.modLoader_pending : (s.modLoader f).pending = s.pending := rfl

end modLoader

end Sys2Proof.Machine
end

