-- ==== Sys2Proof/Laws/Account.lean ====
section
/-! SUPPORT. What the operations of the blocks leave alone, as three nested views of the state, and the law of each
shared operation of Machine/Ops.lean in their terms. An engine's operation keeps all of `outside`; a lane unit's or the
timing unit's keeps `outside.fixed`; one that may enter FAILED keeps `outside.fixed.account`. -/

namespace Sys2Proof.Machine

/-- What no block's own effect changes: the model's queue and free values, the pins, the commands received and not yet
taken, the answers still owed for those taken, and the report queue's bound. -/
structure Account where
  pending : List Instr
  pins : Pins
  free : Nat
  outstanding : Nat
  cmdQueue : List CmdEntry
  owed : Nat
  restart : Bool
  replying : Nat
  arb : RecIx
  reports : Bool

/-- The account, with the loader and the output stage. -/
structure Fixed where
  loader : Loader
  stage : Stage
  account : Account

/-- What the engines and the claim arbiter leave alone. -/
structure Outside where
  roster : Vector RosterEntry 62
  lanes : Vector Lane 4
  timing : Timing
  fixed : Fixed

/-- What an engine's operation leaves alone. -/
def State.outside (s : State) : Outside where
  roster := s.roster
  lanes := s.lanes
  timing := s.timing
  fixed :=
    { loader := s.loader
      stage := s.port.stage
      account :=
        { pending := s.pending, pins := s.pins, free := s.free, outstanding := s.port.outstanding
          cmdQueue := s.port.cmdQueue, owed := s.port.owed, restart := s.port.restart
          replying := s.port.stage.replying, arb := s.port.arb, reports := reportsOk s.port.reports } }

/-! ### Every report a block posts is an ordinary one -/

@[simp] theorem isLost_ready {id mask role number} :
    (Report.ready id mask role number).isLost = false := by simp [Report.isLost]
@[simp] theorem isLost_startFailed {reason} : (Report.startFailed reason).isLost = false := by simp [Report.isLost]
@[simp] theorem isLost_idClash {place padding} :
    (Report.idClash place padding).isLost = false := by simp [Report.isLost]
@[simp] theorem isLost_timingRole {left entered pacer number} :
    (Report.timingRole left entered pacer number).isLost = false := by simp [Report.isLost]
@[simp] theorem isLost_laneState {lane left entered lag} :
    (Report.laneState lane left entered lag).isLost = false := by simp [Report.isLost]
@[simp] theorem isLost_laneRenumbered {lane expected adopted lag} :
    (Report.laneRenumbered lane expected adopted lag).isLost = false := by simp [Report.isLost]
@[simp] theorem isLost_peerJoined {id by_} : (Report.peerJoined id by_).isLost = false := by simp [Report.isLost]
@[simp] theorem isLost_peerLeft {id} : (Report.peerLeft id).isLost = false := by simp [Report.isLost]
@[simp] theorem isLost_trunkArrived {r source tag} :
    (Report.trunkArrived r source tag).isLost = false := by simp [Report.isLost]
@[simp] theorem isLost_trunkGone {dir record tag station reason} :
    (Report.trunkGone dir record tag station reason).isLost = false := by simp [Report.isLost]
@[simp] theorem isLost_memberFault {t slot seq epoch} :
    (Report.memberFault t slot seq epoch).isLost = false := by simp [Report.isLost]
@[simp] theorem isLost_memberRestored {t slot seq epoch} :
    (Report.memberRestored t slot seq epoch).isLost = false := by simp [Report.isLost]
@[simp] theorem isLost_widthChanged {r before after epoch} :
    (Report.widthChanged r before after epoch).isLost = false := by simp [Report.isLost]
@[simp] theorem isLost_realigned {r lane lag} :
    (Report.realigned r lane lag).isLost = false := by simp [Report.isLost]
@[simp] theorem isLost_sinkSilent {t sink age} :
    (Report.sinkSilent t sink age).isLost = false := by simp [Report.isLost]
@[simp] theorem isLost_sinkHeard {t sink} : (Report.sinkHeard t sink).isLost = false := by simp [Report.isLost]
@[simp] theorem isLost_slotSeized {t slot seq role by_ epoch} :
    (Report.slotSeized t slot seq role by_ epoch).isLost = false := by simp [Report.isLost]
@[simp] theorem isLost_discard {index reason len total} :
    (Report.discard index reason len total).isLost = false := by simp [Report.isLost]

/-! ### Reports -/

theorem ordinaryCount_append (rs : List Report) (r : Report) :
    ordinaryCount (rs ++ [r]) = ordinaryCount rs + if r.isLost then 0 else 1 := by
  cases h : r.isLost <;> simp [ordinaryCount, h]

theorem countP_append_one (rs : List Report) (r : Report) :
    (rs ++ [r]).countP Report.isLost = rs.countP Report.isLost + if r.isLost then 1 else 0 := by
  cases h : r.isLost <;> simp [h]

theorem isLost_countLost (r : Report) : r.countLost.isLost = r.isLost := by cases r <;> rfl

theorem ordinaryCount_map_countLost (rs : List Report) : ordinaryCount (rs.map Report.countLost) = ordinaryCount rs := by
  simp only [ordinaryCount, List.countP_map]
  exact List.countP_congr fun r _ => by simp [isLost_countLost]

theorem lost_map_countLost (rs : List Report) :
    (rs.map Report.countLost).countP Report.isLost = rs.countP Report.isLost := by
  rw [List.countP_map]
  exact List.countP_congr fun r _ => by simp [isLost_countLost]

/-- Posting an ordinary report changes neither side of the report queue's bound (R155). -/
theorem reportsOk_post (p : Port) (rep : Report) (h : rep.isLost = false) :
    reportsOk (p.post rep).1.reports = reportsOk p.reports := by
  have key : ∀ {a b c d : Nat}, (a ≤ 31 ↔ c ≤ 31) → (b ≤ 1 ↔ d ≤ 1) →
      (decide (a ≤ 31) && decide (b ≤ 1)) = (decide (c ≤ 31) && decide (d ≤ 1)) := by
    intro a b c d h1 h2
    simp only [h1, h2]
  unfold Port.post
  by_cases hlt : ordinaryCount p.reports < 31
  · simp only [hlt, if_true]
    exact key (by rw [ordinaryCount_append, h]; simp; omega) (by rw [countP_append_one, h]; simp)
  · cases hl : p.reports.any Report.isLost with
    | true =>
      simp only [hlt, if_false, if_true]
      exact key (by rw [ordinaryCount_map_countLost]) (by rw [lost_map_countLost])
    | false =>
      have h0 : p.reports.countP Report.isLost = 0 := by
        rw [List.countP_eq_zero]
        exact fun r hr hrl => by simp [List.any_eq_false] at hl; simp [hl r hr] at hrl
      simp only [hlt, if_false, Bool.false_eq_true]
      exact key (by rw [ordinaryCount_append]; simp [Report.isLost]) (by rw [countP_append_one, h0]; simp [Report.isLost])

/-- What posting a report leaves alone. -/
theorem post_fields (p : Port) (rep : Report) :
    (p.post rep).1 = { p with reports := (p.post rep).1.reports, reportsLost := (p.post rep).1.reportsLost } := by
  unfold Port.post
  split
  · rfl
  · split <;> rfl

@[simp] theorem outside_report (rep : Report) (h : rep.isLost = false) (s : State) :
    (report rep s).outside = s.outside := by
  have h1 := reportsOk_post s.port rep h
  have h2 := post_fields s.port rep
  unfold State.outside report
  dsimp only
  rw [h1, h2]
  rfl

/-! ### Assembly -/

/-- The view of a state given field by field. -/
@[simp] theorem outside_mk (loader : Loader) (lanes : Vector Lane 4) (timing : Timing) (notice : NoticeUnit)
    (roster : Vector RosterEntry 62) (slots : SlotUnit) (tx : Vector TxRec 8) (rx : RxEngine) (buf : Buffers)
    (s : State) :
    State.outside ⟨loader, lanes, timing, notice, roster, slots, tx, rx, buf, s.port, s.pins, s.free, s.pending⟩ =
      { s.outside with roster := roster, lanes := lanes, timing := timing, fixed := { s.outside.fixed with loader := loader } } := rfl

@[simp] theorem outside_loader (s : State) : s.outside.fixed.loader = s.loader := rfl

@[simp] theorem outside_roster (s : State) : s.outside.roster = s.roster := rfl

@[simp] theorem outside_lanes (s : State) : s.outside.lanes = s.lanes := rfl

@[simp] theorem outside_timing (s : State) : s.outside.timing = s.timing := rfl

@[simp] theorem outside_eta (s : State) :
    ({ roster := s.roster, lanes := s.lanes, timing := s.timing,
       fixed := { loader := s.loader, stage := s.outside.fixed.stage, account := s.outside.fixed.account } } : Outside) =
      s.outside := rfl

theorem outside_ite (c : Prop) [Decidable c] (a b : State) :
    (if c then a else b).outside = if c then a.outside else b.outside := by
  split <;> rfl

/-- What every step of a fold keeps, the fold keeps. -/
theorem foldl_keeps {α β : Type} (g : State → β) (f : State → α → State) (h : ∀ x a, g (f x a) = g x) (l : List α)
    (s : State) : g (l.foldl f s) = g s := by
  induction l generalizing s with
  | nil => rfl
  | cons a l ih => rw [List.foldl_cons, ih, h]

theorem foldl_outside {α : Type} (f : State → α → State) (h : ∀ x a, (f x a).outside = x.outside) (l : List α)
    (s : State) : (l.foldl f s).outside = s.outside := foldl_keeps State.outside f h l s

theorem foldl_fixed {α : Type} (f : State → α → State) (h : ∀ x a, (f x a).outside.fixed = x.outside.fixed)
    (l : List α) (s : State) : (l.foldl f s).outside.fixed = s.outside.fixed :=
  foldl_keeps (fun x => x.outside.fixed) f h l s

end Sys2Proof.Machine
end

