-- ==== Sys2Proof/Laws/Ops.lean ====
section
/-! SUPPORT. The laws of the shared operations of Machine/Ops.lean and of the buffer manager: what each leaves alone,
and what the answers, the arbiter and entry to FAILED do to the account. -/

namespace Sys2Proof.Machine

section Mods

variable (s : State)

@[simp] theorem outside_modNotice (f : NoticeUnit → NoticeUnit) : (s.modNotice f).outside = s.outside := rfl
@[simp] theorem fixed_modRoster (i : Fin 62) (f : RosterEntry → RosterEntry) :
    (s.modRoster i f).outside.fixed = s.outside.fixed := rfl
@[simp] theorem outside_modSlots (f : SlotUnit → SlotUnit) : (s.modSlots f).outside = s.outside := rfl
@[simp] theorem outside_modSlot (a : SlotAddr) (f : SlotRec → SlotRec) : (s.modSlot a f).outside = s.outside := rfl
@[simp] theorem outside_modTx (t : RecIx) (f : TxRec → TxRec) : (s.modTx t f).outside = s.outside := rfl
@[simp] theorem outside_modRx (r : RecIx) (f : RxRec → RxRec) : (s.modRx r f).outside = s.outside := rfl
@[simp] theorem outside_modBuf (f : Buffers → Buffers) : (s.modBuf f).outside = s.outside := rfl
@[simp] theorem fixed_modLane (l : LaneNo) (f : Lane → Lane) : (s.modLane l f).outside.fixed = s.outside.fixed := rfl
@[simp] theorem fixed_modTiming (f : Timing → Timing) : (s.modTiming f).outside.fixed = s.outside.fixed := rfl
@[simp] theorem account_modLoader (f : Loader → Loader) :
    (s.modLoader f).outside.fixed.account = s.outside.fixed.account := rfl

end Mods

/-! ### Responses and the in-flight list (R149, R154) -/

/-- A response queued is one more answer owed. -/
theorem outside_respond (r : Response) (s : State) :
    (respond r s).outside = { s.outside with fixed := { s.outside.fixed with
      account := { s.outside.fixed.account with owed := s.outside.fixed.account.owed + 1 } } } := by
  simp [respond, State.outside, Port.owed, Nat.add_assoc]

/-- A command in flight is one more answer owed. -/
theorem outside_putInFlight (e : InFlight) (s : State) :
    (putInFlight e s).outside = { s.outside with fixed := { s.outside.fixed with
      account := { s.outside.fixed.account with owed := s.outside.fixed.account.owed + 1 } } } := by
  simp [putInFlight, State.outside, Port.owed, Nat.add_right_comm]

/-- Answering a command in flight moves it from the in-flight list to the response queue: no answer is added or lost
(R149). -/
@[simp] theorem outside_answer (record : CmdRecord) (outcome : CmdOutcome) (ix tag count decline : Byte) (s : State) :
    (answer record outcome ix tag count decline s).outside = s.outside := by
  unfold answer
  split
  · rfl
  · rename_i e he
    have hm : e ∈ s.port.inFlight := List.mem_of_find?_eq_some he
    have hl := List.length_erase_of_mem hm
    have hp : 0 < s.port.inFlight.length := List.length_pos_of_mem hm
    have : (s.port.inFlight.erase e).length + (s.port.responses.length + 1) =
        s.port.inFlight.length + s.port.responses.length := by omega
    simp [respond, State.outside, Port.owed, this]

@[simp] theorem outside_answerTx (t : RecIx) (outcome : CmdOutcome) (count : Nat) (decline : Byte) (s : State) :
    (answerTx t outcome count decline s).outside = s.outside := by simp [answerTx]

@[simp] theorem outside_answerRx (r : RecIx) (outcome : CmdOutcome) (s : State) :
    (answerRx r outcome s).outside = s.outside := by simp [answerRx]

/-! ### The roster and the notice queue -/

/-- A refresh changes the roster alone of what the engines leave alone. -/
@[simp] theorem outside_refresh (id : StationId) (by_ : HeardBy) (s : State) :
    (refresh id by_ s).outside = { s.outside with roster := (refresh id by_ s).roster } := by
  unfold refresh
  split
  · rfl
  · split
    · rfl
    · split
      · rfl
      · rw [outside_report _ isLost_peerJoined]
        rfl

@[simp] theorem outside_postNotice (o : OwnerEntry) (dest : StationId) (body : NoticeBody) (s : State) :
    (postNotice o dest body s).outside = s.outside := by
  unfold postNotice
  dsimp only
  split <;> simp

@[simp] theorem outside_withdraw (o : OwnerEntry) (s : State) : (withdraw o s).outside = s.outside := by
  unfold withdraw
  split <;> simp

@[simp] theorem outside_requestDecline (dest : StationId) (body : NoticeBody) (s : State) :
    (requestDecline dest body s).1.outside = s.outside := by
  unfold requestDecline
  split <;> simp

/-! ### FAILED (R161, R167) -/

theorem replying_pad (x : Stage) : x.pad.replying = x.replying := by
  cases x with
  | idle => rfl
  | sending f left => cases f <;> rfl

/-- Entry to FAILED answers every command in flight, and adds or loses no other answer (R161). -/
@[simp] theorem account_enterFailed (reason : FailReason) (rep : Nat → Report) (h : ∀ n, (rep n).isLost = false)
    (s : State) : (enterFailed reason rep s).outside.fixed.account = s.outside.fixed.account := by
  unfold enterFailed
  rw [outside_report _ (h _)]
  simp [State.outside, Port.owed, Port.fail, replying_pad, Nat.add_comm]

@[simp] theorem account_idClash (place : ClashPlace) (s : State) :
    (idClash place s).outside.fixed.account = s.outside.fixed.account := by
  unfold idClash
  split
  · exact account_enterFailed _ _ (fun _ => rfl) s
  · rfl

/-! ### The buffer manager -/

@[simp] theorem outside_returnTx (t : RecIx) (n : Nat) (s : State) : (returnTx t n s).outside = s.outside := rfl

@[simp] theorem outside_returnRx (r : RecIx) (n : Nat) (s : State) : (returnRx r n s).outside = s.outside := rfl

@[simp] theorem outside_abandonParcel (t : RecIx) (s : State) : (abandonParcel t s).outside = s.outside := rfl

@[simp] theorem outside_flushTx (t : RecIx) (s : State) : (flushTx t s).outside = s.outside := rfl

@[simp] theorem outside_countDiscard (ix : Nat) (reason : DiscardReason) (s : State) :
    (countDiscard ix reason s).outside = s.outside := by
  unfold countDiscard
  split <;> rfl

@[simp] theorem outside_discardFrame (ix len : Nat) (reason : DiscardReason) (s : State) :
    (discardFrame ix len reason s).outside = s.outside := by
  unfold discardFrame
  dsimp only
  split
  · simp
  · exact (outside_report (.discard (BitVec.ofNat 4 ix) reason len (discardTotal ix (countDiscard ix reason s))) rfl
      (countDiscard ix reason s)).trans (outside_countDiscard ix reason s)

@[simp] theorem outside_admitFrame (t : RecIx) (len : Nat) (cls : Byte) (s : State) :
    (admitFrame t len cls s).outside = s.outside := rfl

@[simp] theorem outside_admit (ix len : Nat) (cls : Byte) (s : State) :
    (admitData ix len cls s).1.outside = s.outside := by
  unfold admitData
  split
  · simp
  · split <;> simp

@[simp] theorem outside_payloadByte (dest : Option RecIx) (b : Byte) (last : Bool) (s : State) :
    (payloadByte dest b last s).outside = s.outside := by
  unfold payloadByte
  split <;> rfl

@[simp] theorem outside_clearFlag (ix : BitVec 4) (s : State) : (clearFlag ix s).outside = s.outside := rfl

end Sys2Proof.Machine
end

