-- ==== Sys2Proof/Laws/Parcels.lean ====
section
/-! SUPPORT. What the parcel encoder and the delineator leave alone. -/

namespace Sys2Proof.Machine

@[simp] theorem outside_encode (t : RecIx) (n : Nat) (s : State) : (encode t n s).1.outside = s.outside := rfl

@[simp] theorem outside_putDelCtx (r : RecIx) (x : DelCtx) (s : State) : (putDelCtx r x s).outside = s.outside := rfl

@[simp] theorem outside_delineate (r : RecIx) (bytes : List Byte) (s : State) :
    (delineate r bytes s).outside = s.outside := by
  unfold delineate
  split <;> simp

@[simp] theorem outside_resetDelin (r : RecIx) (s : State) : (resetDelin r s).outside = s.outside := rfl

end Sys2Proof.Machine
end

