-- ==== Sys2Proof/Laws/Layout.lean ====
section
/-! SUPPORT. What the layout operations leave alone. -/

namespace Sys2Proof.Machine

@[simp] theorem outside_releaseSlot (a : SlotAddr) (s : State) : (releaseSlot a s).outside = s.outside := rfl

/-- What a release does to every slot record (R65). -/
theorem slotAt_releaseSlot (a b : SlotAddr) (s : State) : slotAt (releaseSlot a s) b =
    if b = a ∧ (slotAt s a).state = .mine then
      { (slotAt s a).barred with began := mayHaveBegun s a, underWay := cyclesUnderWay s a }
    else slotAt s b := by
  by_cases h : b = a
  · subst h
    simp [releaseSlot, slotAt, State.modSlot]
  · simp [releaseSlot, slotAt, State.modSlot, vget_vmod, h]

@[simp] theorem outside_assignSlot (t : RecIx) (seq : Nat) (a : SlotAddr) (s : State) :
    (assignSlot t seq a s).outside = s.outside := rfl

@[simp] theorem outside_syncAssign (t : RecIx) (s : State) : (syncAssign t s).outside = s.outside := by
  unfold syncAssign
  exact foldl_outside _ (fun x a => by simp) _ _

@[simp] theorem outside_setMembers (t : RecIx) (ms : List Member) (s : State) :
    (setMembers t ms s).outside = s.outside := by simp [setMembers]

@[simp] theorem outside_editMembers (t : RecIx) (ms : List Member) (s : State) :
    (editMembers t ms s).outside = s.outside := by simp [editMembers]

@[simp] theorem outside_releaseMembers (ms : List Member) (s : State) :
    (releaseMembers ms s).outside = s.outside := by
  unfold releaseMembers
  exact foldl_outside _ (fun x a => by simp) _ _

@[simp] theorem outside_dropMembers (t : RecIx) (p : Member → Bool) (s : State) :
    (dropMembers t p s).outside = s.outside := by simp [dropMembers]

@[simp] theorem outside_setChange (t : RecIx) (c : Option Change) (s : State) :
    (setChange t c s).outside = s.outside := rfl

@[simp] theorem outside_reportMembers (t : RecIx) (ms : List (Member × Nat)) (rep : SlotAddr → Nat → Epoch → Report)
    (h : ∀ a q e, (rep a q e).isLost = false) (s : State) : (reportMembers t ms rep s).outside = s.outside :=
  foldl_outside _ (fun x _ => outside_report _ (h _ _ _) x) _ _

@[simp] theorem outside_restoreDeferred (t : RecIx) (s : State) : (restoreDeferred t s).outside = s.outside := by
  unfold restoreDeferred
  dsimp only
  repeat' split
  all_goals simp

@[simp] theorem outside_endChange (t : RecIx) (outcome : CmdOutcome) (s : State) :
    (endChange t outcome s).outside = s.outside := by simp [endChange]

@[simp] theorem outside_testProbe (t : RecIx) (s : State) : (testProbe t s).outside = s.outside := by
  unfold testProbe
  repeat' split
  all_goals simp

@[simp] theorem outside_confirmIfEmpty (t : RecIx) (s : State) : (confirmIfEmpty t s).outside = s.outside := by
  unfold confirmIfEmpty
  repeat' split
  all_goals simp

@[simp] theorem outside_addProbes (t : RecIx) (slots : List SlotAddr) (s : State) :
    (addProbes t slots s).outside = s.outside := by
  unfold addProbes
  dsimp only
  repeat' split
  all_goals simp

@[simp] theorem outside_growResult (t : RecIx) (won : List SlotAddr) (running : Nat) (s : State) :
    (growResult t won running s).outside = s.outside := by
  unfold growResult
  repeat' split
  all_goals simp

@[simp] theorem outside_countLate (t : RecIx) (s : State) : (countLate t s).outside = s.outside := rfl

@[simp] theorem outside_lateResult (t : RecIx) (win : Option SlotAddr) (s : State) :
    (lateResult t win s).outside = s.outside := by
  unfold lateResult
  repeat' split
  all_goals simp

@[simp] theorem outside_memberLost (t : RecIx) (a : SlotAddr) (newOwner : Option StationId) (s : State) :
    (memberLost t a newOwner s).outside = s.outside := by
  unfold memberLost
  dsimp only
  repeat' split
  all_goals simp

/-- What a formation does to the record of one slot that began before it (R102). -/
theorem slotAt_keepSpare (c : CycleNo) (a b : SlotAddr) (s : State) : slotAt (keepSpare c a s) b =
    if b = a then { slotAt s a with began := (slotAt s a).began ++ [(c, spareSlot s a)] } else slotAt s b := by
  simp [keepSpare, slotAt, State.modSlot, vget_vmod]

@[simp] theorem outside_keepSpare (c : CycleNo) (a : SlotAddr) (s : State) :
    (keepSpare c a s).outside = s.outside := rfl

@[simp] theorem outside_formCycle (t : RecIx) (c : CycleNo) (begun : Vector (Fin 17) 4) (s : State) :
    (formCycle t c begun s).outside = s.outside := by
  unfold formCycle
  exact (foldl_outside _ (fun x a => by simp) _ _).trans (by simp)

end Sys2Proof.Machine
end

