-- ==== Sys2Proof/Laws/Slots.lean ====
section
/-! SUPPORT. What the slot unit leaves alone. -/

namespace Sys2Proof.Machine

@[simp] theorem outside_modService (f : ClaimReq → ClaimReq) (s : State) : (modService f s).outside = s.outside := rfl

@[simp] theorem outside_beginClaim (a : SlotAddr) (s : State) : (beginClaim a s).outside = s.outside := rfl

@[simp] theorem outside_beginClaims (n : Nat) (s : State) : (beginClaims n s).outside = s.outside := by
  induction n generalizing s with
  | zero => rfl
  | succ n ih =>
    unfold beginClaims
    repeat' split
    all_goals simp [ih]

@[simp] theorem outside_markHanded (won : List SlotAddr) (s : State) : (markHanded won s).outside = s.outside := by
  unfold markHanded
  exact foldl_outside _ (fun x a => by simp) _ _

@[simp] theorem outside_pruneQueue (s : State) : (pruneQueue s).outside = s.outside := rfl

@[simp] theorem outside_endService (s : State) : (endService s).outside = s.outside := by
  unfold endService
  split <;> simp

@[simp] theorem outside_serve (n : Nat) (s : State) : (serve n s).outside = s.outside := by
  induction n generalizing s with
  | zero => rfl
  | succ n ih =>
    unfold serve
    dsimp only
    repeat' split
    all_goals simp [ih]

@[simp] theorem outside_look (s : State) : (look s).outside = s.outside := by simp [look]

@[simp] theorem outside_postClaim (t : RecIx) (k : Nat) (s : State) : (postClaim t k s).outside = s.outside := by
  unfold postClaim
  repeat' split
  all_goals simp

@[simp] theorem outside_stopClaim (a : SlotAddr) (s : State) : (stopClaim a s).outside = s.outside := rfl

/-- What a stopped claim does to every slot record (R67). -/
theorem slotAt_stopClaim (a b : SlotAddr) (s : State) : slotAt (stopClaim a s) b =
    if b = a ∧ (slotAt s a).state = .claiming then
      { (slotAt s a).barred with stopped := true, underWay := cyclesUnderWay s a }
    else slotAt s b := by
  by_cases h : b = a
  · subst h
    simp [stopClaim, slotAt, State.modSlot]
  · simp [stopClaim, slotAt, State.modSlot, vget_vmod, h]

@[simp] theorem outside_lookIf (b : Bool) (s : State) : (lookIf b s).outside = s.outside := by
  unfold lookIf
  split <;> simp

@[simp] theorem outside_withdrawClaims (t : RecIx) (s : State) : (withdrawClaims t s).outside = s.outside := by
  unfold withdrawClaims
  dsimp only
  split
  · rfl
  · rw [outside_lookIf, outside_modSlots, foldl_outside _ (fun x a => outside_releaseSlot a x),
      foldl_outside _ (fun x a => outside_stopClaim a x)]

@[simp] theorem outside_dropRunning (a : SlotAddr) (won : Bool) (s : State) :
    (dropRunning a won s).outside = s.outside := rfl

@[simp] theorem outside_handEnd (a : SlotAddr) (won : Bool) (s : State) : (handEnd a won s).outside = s.outside := by
  unfold handEnd
  repeat' split
  all_goals simp

@[simp] theorem outside_abandonClaim (a : SlotAddr) (f : SlotRec → SlotRec) (s : State) :
    (abandonClaim a f s).outside = s.outside := by simp [abandonClaim]

@[simp] theorem outside_loseClaim (a : SlotAddr) (x : StationId) (s : State) :
    (loseClaim a x s).outside = s.outside := by simp [loseClaim]

@[simp] theorem outside_winClaim (a : SlotAddr) (s : State) : (winClaim a s).outside = s.outside := by
  unfold winClaim
  split <;> simp

@[simp] theorem outside_mineLost (a : SlotAddr) (old : SlotRec) (newOwner : Option StationId) (s : State) :
    (mineLost a old newOwner s).outside = s.outside := by
  unfold mineLost
  repeat' split
  all_goals simp

@[simp] theorem outside_seize (a : SlotAddr) (x : StationId) (s : State) : (seize a x s).outside = s.outside := by
  simp [seize]

@[simp] theorem account_ownHeader (a : SlotAddr) (s : State) :
    (ownHeader a s).outside.fixed.account = s.outside.fixed.account := by
  unfold ownHeader
  split <;> simp

@[simp] theorem fixed_foreignHeader (a : SlotAddr) (drivenNow : Bool) (x : StationId) (s : State) :
    (foreignHeader a drivenNow x s).outside.fixed = s.outside.fixed := by
  unfold foreignHeader
  dsimp only
  repeat' split
  all_goals simp

@[simp] theorem account_learn (a : SlotAddr) (c : CycleNo) (h : HeaderRead) (s : State) :
    (learn a c h s).outside.fixed.account = s.outside.fixed.account := by
  unfold learn
  dsimp only
  repeat' split
  all_goals simp

@[simp] theorem account_lostAfterHeader (a : SlotAddr) (checkOk : Bool) (s : State) :
    (lostAfterHeader a checkOk s).outside.fixed.account = s.outside.fixed.account := by
  unfold lostAfterHeader
  split <;> simp

@[simp] theorem outside_clearOwnRun (a : SlotAddr) (s : State) : (clearOwnRun a s).outside = s.outside := rfl

@[simp] theorem account_claimOutcome (a : SlotAddr) (o : SendOutcome) (read : StationId) (s : State) :
    (claimOutcome a o read s).outside.fixed.account = s.outside.fixed.account := by
  unfold claimOutcome
  repeat' split
  all_goals simp

@[simp] theorem account_mineOutcome (a : SlotAddr) (o : SendOutcome) (read : StationId) (s : State) :
    (mineOutcome a o read s).outside.fixed.account = s.outside.fixed.account := by
  unfold mineOutcome
  split <;> simp

@[simp] theorem account_releasedOutcome (a : SlotAddr) (o : SendOutcome) (s : State) :
    (releasedOutcome a o s).outside.fixed.account = s.outside.fixed.account := by
  unfold releasedOutcome
  split <;> simp

@[simp] theorem outside_markDriven (a : SlotAddr) (c : CycleNo) (o : SendOutcome) (s : State) :
    (markDriven a c o s).outside = s.outside := by
  unfold markDriven
  split <;> simp

@[simp] theorem account_headerOutcome (a : SlotAddr) (c : CycleNo) (result : ReadBack 40) (s : State) :
    (headerOutcome a c result s).outside.fixed.account = s.outside.fixed.account := by
  unfold headerOutcome
  dsimp only
  repeat' split
  all_goals simp

@[simp] theorem outside_slotsLocked (l : LaneNo) (s : State) : (slotsLocked l s).outside = s.outside := by
  unfold slotsLocked
  exact foldl_outside _ (fun x a => by simp) _ _

@[simp] theorem outside_slotCoasts (a : SlotAddr) (s : State) : (slotCoasts a s).outside = s.outside := by
  unfold slotCoasts
  split <;> simp

@[simp] theorem outside_slotLost (a : SlotAddr) (s : State) : (slotLost a s).outside = s.outside := by
  unfold slotLost
  split <;> simp

@[simp] theorem outside_slotsCoast (l : LaneNo) (s : State) : (slotsCoast l s).outside = s.outside := by
  simp [slotsCoast, foldl_outside]

@[simp] theorem outside_slotsLost (l : LaneNo) (s : State) : (slotsLost l s).outside = s.outside := by
  simp [slotsLost, foldl_outside]

end Sys2Proof.Machine
end

