-- ==== Sys2Proof/Laws/Transmit.lean ====
section
/-! SUPPORT. What the transmit engine leaves alone. -/

namespace Sys2Proof.Machine

@[simp] theorem outside_vacateOwned (t : RecIx) (s : State) : (vacateOwned t s).outside = s.outside := by
  simp [vacateOwned]

@[simp] theorem outside_returnVacant (t : RecIx) (s : State) : (returnVacant t s).outside = s.outside := by
  simp [returnVacant]

@[simp] theorem outside_txGone (t : RecIx) (tag : Tag) (sink : Option StationId) (reason : GoneReason) (s : State) :
    (txGone t tag sink reason s).outside = s.outside := by simp [txGone]

@[simp] theorem outside_abortChange (t : RecIx) (s : State) : (abortChange t s).outside = s.outside := by
  unfold abortChange
  repeat' split
  all_goals simp

@[simp] theorem outside_abortOffer (t : RecIx) (s : State) : (abortOffer t s).outside = s.outside := by
  unfold abortOffer
  split <;> simp

@[simp] theorem outside_holdAll (t : RecIx) (s : State) : (holdAll t s).outside = s.outside := by
  unfold holdAll
  dsimp only
  repeat' split
  all_goals simp

@[simp] theorem outside_closeTrunk (t : RecIx) (cmd : Option Byte) (reason : GoneReason) (s : State) :
    (closeTrunk t cmd reason s).outside = s.outside := by simp [closeTrunk]

@[simp] theorem outside_endClose (t : RecIx) (s : State) : (endClose t s).outside = s.outside := by
  unfold endClose
  dsimp only
  repeat' split
  all_goals simp

@[simp] theorem outside_teardown (t : RecIx) (reason : GoneReason) (s : State) :
    (teardown t reason s).outside = s.outside := by simp [teardown]

@[simp] theorem outside_txEnd (t : RecIx) (reason : GoneReason) (s : State) :
    (txEnd t reason s).outside = s.outside := by
  unfold txEnd
  split <;> simp

@[simp] theorem outside_txAbsence (id : StationId) (s : State) : (txAbsence id s).outside = s.outside := by
  simp [txAbsence, foldl_outside, outside_ite]

@[simp] theorem outside_startGrow (t : RecIx) (k : Nat) (cmd : Option Byte) (s : State) :
    (startGrow t k cmd s).outside = s.outside := by simp [startGrow]

@[simp] theorem outside_acceptTrunk (t : RecIx) (s : State) : (acceptTrunk t s).outside = s.outside := by
  unfold acceptTrunk
  dsimp only
  repeat' split
  all_goals simp

@[simp] theorem outside_declineTrunk (t : RecIx) (reason : DeclineReason) (s : State) :
    (declineTrunk t reason s).outside = s.outside := by simp [declineTrunk]

@[simp] theorem outside_offerExpired (t : RecIx) (s : State) : (offerExpired t s).outside = s.outside := by
  unfold offerExpired
  dsimp only
  repeat' split
  all_goals simp

@[simp] theorem outside_switchGrow (t : RecIx) (good : BitVec 16) (s : State) :
    (switchGrow t good s).outside = s.outside := by simp [switchGrow]

@[simp] theorem outside_finishChange (t : RecIx) (outcome : CmdOutcome) (s : State) :
    (finishChange t outcome s).outside = s.outside := by simp [finishChange]

@[simp] theorem outside_probeExpired (t : RecIx) (s : State) : (probeExpired t s).outside = s.outside := by
  unfold probeExpired
  dsimp only
  repeat' split
  all_goals simp

@[simp] theorem outside_tallyHeard (t : RecIx) (b : TallyBody) (s : State) :
    (tallyHeard t b s).outside = s.outside := by
  unfold tallyHeard
  dsimp only
  repeat' split
  all_goals simp

@[simp] theorem outside_tallyChange (t : RecIx) (b : TallyBody) (s : State) :
    (tallyChange t b s).outside = s.outside := by
  unfold tallyChange
  dsimp only
  repeat' split
  all_goals simp

/-- Posting ordinary reports. -/
theorem outside_reports (reps : List Report) (h : ∀ r ∈ reps, r.isLost = false) (s : State) :
    (reps.foldl (fun x rep => report rep x) s).outside = s.outside := by
  induction reps generalizing s with
  | nil => rfl
  | cons r rest ih =>
    rw [List.foldl_cons, ih (fun x hx => h x (List.mem_cons_of_mem _ hx)), outside_report r (h r List.mem_cons_self)]

theorem isLost_memberReport (t : RecIx) (e : Epoch) (seq : Nat) (old new : Member) (rep : Report)
    (h : memberReport t e seq old new = some rep) : rep.isLost = false := by
  unfold memberReport at h
  split at h
  · cases h; rfl
  · split at h
    · cases h; rfl
    · cases h

@[simp] theorem outside_tallyHealth (t : RecIx) (good : BitVec 16) (s : State) :
    (tallyHealth t good s).outside = s.outside := by
  unfold tallyHealth
  dsimp only
  rw [outside_reports]
  · rw [outside_modTx]
    split <;> simp
  · intro rep hrep
    obtain ⟨p, _, hp⟩ := List.mem_filterMap.mp hrep
    exact isLost_memberReport _ _ _ _ _ _ hp

@[simp] theorem outside_takeTally (t : RecIx) (b : TallyBody) (s : State) :
    (takeTally t b s).outside = s.outside := by
  unfold takeTally
  dsimp only
  repeat' split
  all_goals simp

@[simp] theorem outside_txNotice (sender : StationId) (b : NoticeBody) (s : State) :
    (txNotice sender b s).outside = s.outside := by
  unfold txNotice
  repeat' split
  all_goals simp

@[simp] theorem outside_txSent (t : RecIx) (b : NoticeBody) (s : State) : (txSent t b s).outside = s.outside := by
  unfold txSent
  split <;> simp

@[simp] theorem outside_sinkSilenced (t : RecIx) (s : State) : (sinkSilenced t s).outside = s.outside := by
  simp [sinkSilenced]

@[simp] theorem outside_markLeaving (t : RecIx) (kind : ChangeKind) (arg : Nat) (cmd : Byte) (sel : List Nat)
    (s : State) : (markLeaving t kind arg cmd sel s).outside = s.outside := by simp [markLeaving]

end Sys2Proof.Machine
end

