-- ==== Sys2Proof/Laws/Receive.lean ====
section
/-! SUPPORT. What the receive engine leaves alone. -/

namespace Sys2Proof.Machine

theorem outside_setRx (x : RxEngine) (s : State) : State.outside { s with rx := x } = s.outside := rfl

@[simp] theorem outside_postAccept (r : RecIx) (s : State) : (postAccept r s).outside = s.outside := by
  unfold postAccept
  dsimp only
  repeat' split
  all_goals simp

@[simp] theorem outside_postTally (r : RecIx) (s : State) : (postTally r s).outside = s.outside := by
  unfold postTally
  split <;> simp

@[simp] theorem outside_testVacant (r : RecIx) (s : State) : (testVacant r s).outside = s.outside := by
  unfold testVacant
  split <;> simp

@[simp] theorem outside_drain (r : RecIx) (reason : GoneReason) (keepEntry : Bool) (s : State) :
    (drain r reason keepEntry s).outside = s.outside := by
  unfold drain
  split <;> simp

@[simp] theorem outside_endDismiss (r : RecIx) (s : State) : (endDismiss r s).outside = s.outside := by
  simp [endDismiss]

@[simp] theorem outside_rxSent (r : RecIx) (b : NoticeBody) (s : State) : (rxSent r b s).outside = s.outside := by
  unfold rxSent
  repeat' split
  all_goals simp

@[simp] theorem outside_rxAbsence (id : StationId) (s : State) : (rxAbsence id s).outside = s.outside := by
  unfold rxAbsence
  refine (outside_setRx _ _).trans (foldl_outside _ (fun x r => ?_) _ _)
  repeat' split
  all_goals simp

@[simp] theorem outside_acceptOffer (r : RecIx) (source : StationId) (tag : Tag) (s : State) :
    (acceptOffer r source tag s).outside = s.outside := by
  unfold acceptOffer
  refine (outside_setRx _ _).trans ?_
  simp

@[simp] theorem outside_decline (source : StationId) (tag : Tag) (reason : DeclineReason) (s : State) :
    (decline source tag reason s).outside = s.outside := by simp [decline]

@[simp] theorem outside_takeOffer (source : StationId) (tag : Tag) (s : State) :
    (takeOffer source tag s).outside = s.outside := by
  unfold takeOffer
  dsimp only
  repeat' split
  all_goals simp

@[simp] theorem outside_rxNotice (sender dest : StationId) (b : NoticeBody) (s : State) :
    (rxNotice sender dest b s).outside = s.outside := by
  unfold rxNotice
  repeat' split
  all_goals simp

@[simp] theorem outside_recomputeSkew (r : RecIx) (s : State) : (recomputeSkew r s).outside = s.outside := rfl

@[simp] theorem outside_judgeView (r : RecIx) (n : CycleNo) (kind : CycleKind) (items : List (SlotAddr × Item))
    (s : State) : (judgeView r n kind items s).outside = s.outside := by
  unfold judgeView
  dsimp only
  split <;> simp

@[simp] theorem outside_takeCycle (r : RecIx) (kind : CycleKind) (s : State) :
    (takeCycle r kind s).outside = s.outside := by
  unfold takeCycle
  dsimp only
  repeat' split
  all_goals simp

@[simp] theorem outside_completeNext (r : RecIx) (s : State) : (completeNext r s).outside = s.outside := by
  unfold completeNext
  dsimp only
  repeat' split
  all_goals simp

@[simp] theorem outside_addEntry (r : RecIx) (a : SlotAddr) (v : List ViewEntry) (s : State) :
    (addEntry r a v s).outside = s.outside := by simp [addEntry]

@[simp] theorem outside_seeHeader (r : RecIx) (a : SlotAddr) (seq : BitVec 4) (role : HeaderRole) (s : State) :
    (seeHeader r a seq role s).outside = s.outside := by
  unfold seeHeader
  dsimp only
  repeat' split
  all_goals simp

@[simp] theorem outside_store (r : RecIx) (c : CycleNo) (a : SlotAddr) (item : Item) (s : State) :
    (store r c a item s).outside = s.outside := by
  unfold store
  dsimp only
  repeat' split
  all_goals simp

@[simp] theorem outside_completeDue (r : RecIx) (c : CycleNo) (n : Nat) (s : State) :
    (completeDue r c n s).outside = s.outside := by
  induction n generalizing s with
  | zero => rfl
  | succ n ih =>
    unfold completeDue
    repeat' split
    all_goals simp [ih]

@[simp] theorem outside_completeDone (r : RecIx) (n : Nat) (s : State) :
    (completeDone r n s).outside = s.outside := by
  induction n generalizing s with
  | zero => rfl
  | succ n ih =>
    unfold completeDone
    repeat' split
    all_goals simp [ih]

@[simp] theorem outside_takeArrival (r : RecIx) (a : SlotAddr) (c : CycleNo) (x : Taken) (s : State) :
    (takeArrival r a c x s).outside = s.outside := by
  unfold takeArrival
  dsimp only
  repeat' split
  all_goals simp

@[simp] theorem outside_setLanePos (a : SlotAddr) (c : CycleNo) (s : State) :
    (setLanePos a c s).outside = s.outside := rfl

@[simp] theorem outside_dismissStray (owner : StationId) (tag : Tag) (s : State) :
    (dismissStray owner tag s).outside = s.outside := by
  unfold dismissStray
  dsimp only
  repeat' split
  · exact outside_requestDecline _ _ _
  · exact outside_requestDecline _ _ _
  · rfl

@[simp] theorem outside_takeStray (owner : StationId) (tag : Tag) (c : CycleNo) (s : State) :
    (takeStray owner tag c s).outside = s.outside := by
  unfold takeStray
  repeat' split
  all_goals simp

@[simp] theorem outside_rxArrival (a : SlotAddr) (c : CycleNo) (h : HeaderRead) (payload : List Byte) (s : State) :
    (rxArrival a c h payload s).outside = s.outside := by
  unfold rxArrival
  dsimp only
  have h : ∀ x : State, ∀ r : RecIx, (if (rxAt x r).state = .accepted then
      takeArrival r a c (takenBy (setLanePos a c s) r h payload) x else x).outside = x.outside := by
    intro x r
    split <;> simp
  split <;> simp [foldl_outside _ h]

@[simp] theorem fixed_countFault (l : LaneNo) (h : HeaderRead) (s : State) :
    (countFault l h s).outside.fixed = s.outside.fixed := by
  unfold countFault
  split <;> simp

@[simp] theorem outside_realign (r : RecIx) (l : LaneNo) (s : State) : (realign r l s).outside = s.outside := by
  simp [realign]

@[simp] theorem outside_rxHanded (r : RecIx) (l : LaneNo) (fromConfirm renumbered : Bool) (s : State) :
    (rxHanded r l fromConfirm renumbered s).outside = s.outside := by
  unfold rxHanded
  dsimp only
  repeat' split
  all_goals simp

@[simp] theorem outside_rxLagHanded (l : LaneNo) (fromConfirm renumbered : Bool) (s : State) :
    (rxLagHanded l fromConfirm renumbered s).outside = s.outside := by
  unfold rxLagHanded
  exact foldl_outside _ (fun x a => by simp) _ _

end Sys2Proof.Machine
end

