-- ==== Sys2Proof/Laws/Notices.lean ====
section
/-! SUPPORT. What the notice unit and the roster leave alone. -/

namespace Sys2Proof.Machine

@[simp] theorem outside_tellSent (o : OwnerEntry) (b : NoticeBody) (s : State) :
    (tellSent o b s).outside = s.outside := by
  unfold tellSent
  split <;> simp

@[simp] theorem outside_offerOutcome (l : LaneNo) (f : Offer) (o : SendOutcome) (s : State) :
    (offerOutcome l f o s).outside = s.outside := by
  unfold offerOutcome
  repeat' split
  all_goals simp

@[simp] theorem fixed_storePresence (sender : StationId) (b : PresenceBody) (s : State) :
    (storePresence sender b s).outside.fixed = s.outside.fixed := by
  unfold storePresence
  split <;> simp

@[simp] theorem fixed_dispatch (sender dest : StationId) (b : NoticeBody) (s : State) :
    (dispatch sender dest b s).outside.fixed = s.outside.fixed := by
  unfold dispatch
  repeat' split
  all_goals simp

@[simp] theorem account_received (l : LaneNo) (position : Fin 2) (wonHere : Bool) (sender dest : StationId) (b : NoticeBody)
    (s : State) : (received l position wonHere sender dest b s).outside.fixed.account = s.outside.fixed.account := by
  unfold received
  repeat' split
  all_goals simp

@[simp] theorem fixed_peerLost (i : Fin 62) (id : StationId) (s : State) :
    (peerLost i id s).outside.fixed = s.outside.fixed := by simp [peerLost]

end Sys2Proof.Machine
end

