-- ==== Sys2Proof/Laws/Timing.lean ====
section
/-! SUPPORT. What the timing unit leaves alone. -/

namespace Sys2Proof.Machine

/-! ### The flywheel within its cycle -/

@[simp] theorem stands_moveTo (p : Int) (t : Timing) : (t.moveTo p).stands = p := by
  simp only [Timing.moveTo, Timing.stands]
  omega

theorem position_moveTo_le (p : Int) (t : Timing) : (t.moveTo p).position ≤ 5119 := by
  simp only [Timing.moveTo]
  omega

/-- Within the cycle, the flywheel stands at its position. -/
theorem moveTo_within {p : Int} (t : Timing) (h0 : 0 ≤ p) (h1 : p ≤ 5119) :
    t.moveTo p = { t with position := p.toNat, slip := 0 } := by
  have h : min 5119 (max 0 p) = p := by omega
  simp only [Timing.moveTo, h]
  congr 1
  omega

/-! ### What each operation leaves alone -/

@[simp] theorem fixed_renumber (k : CycleNo) (s : State) : (renumber k s).outside.fixed = s.outside.fixed := rfl

@[simp] theorem fixed_shiftConfirm (d : Int) (s : State) : (shiftConfirm d s).outside.fixed = s.outside.fixed := rfl

@[simp] theorem fixed_phaseOn (l : LaneNo) (m : Nat) (num : CycleNo) (s : State) :
    (phaseOn l m num s).outside.fixed = s.outside.fixed := rfl

@[simp] theorem fixed_rephaseOn (l : LaneNo) (e m : Nat) (num : CycleNo) (s : State) :
    (rephaseOn l e m num s).outside.fixed = s.outside.fixed := rfl

@[simp] theorem fixed_trimFlywheel (offset : Int) (s : State) :
    (trimFlywheel offset s).outside.fixed = s.outside.fixed := rfl

@[simp] theorem fixed_latchR8 (now : Nat) (s : State) : (latchR8 now s).outside.fixed = s.outside.fixed := rfl

@[simp] theorem fixed_reportRole (left : Role) (s : State) : (reportRole left s).outside.fixed = s.outside.fixed := by
  simp [reportRole]

@[simp] theorem fixed_cutMarks (but : Option LaneNo) (s : State) :
    (cutMarks but s).outside.fixed = s.outside.fixed := rfl

@[simp] theorem outside_cutOffer (l : LaneNo) (s : State) : (cutOffer l s).outside = s.outside := rfl

@[simp] theorem outside_cutOffers (s : State) : (cutOffers s).outside = s.outside := rfl

@[simp] theorem outside_staleStaging (s : State) : (staleStaging s).outside = s.outside := rfl

/-- An election leaves each record as it was but for the marks on its staged cycles (R101). -/
@[simp] theorem txAt_staleStaging (t : RecIx) (s : State) : txAt (staleStaging s) t =
    { txAt s t with staging := vmap (Option.map StagedCycle.elect) (txAt s t).staging } := by
  simp [txAt, staleStaging]

@[simp] theorem fixed_enterElecting (s : State) : (enterElecting s).outside.fixed = s.outside.fixed := by
  unfold enterElecting
  split <;> simp

@[simp] theorem fixed_endElection (pacer : StationId) (now : Nat) (s : State) :
    (endElection pacer now s).outside.fixed = s.outside.fixed := by simp [endElection]

@[simp] theorem fixed_yield_ (l : LaneNo) (pacer : StationId) (s : State) :
    (yield_ l pacer s).outside.fixed = s.outside.fixed := by simp [yield_]

@[simp] theorem fixed_emitMarks (s : State) : (emitMarks s).outside.fixed = s.outside.fixed := by
  unfold emitMarks
  dsimp only
  rw [fixed_modTiming]
  refine foldl_fixed _ (fun x l => ?_) _ _
  split
  · rfl
  · exact fixed_modLane x l _

@[simp] theorem fixed_enterPacing (s : State) : (enterPacing s).outside.fixed = s.outside.fixed := by
  unfold enterPacing
  split <;> simp

@[simp] theorem fixed_lossTest (s : State) : (lossTest s).outside.fixed = s.outside.fixed := by
  unfold lossTest
  split <;> simp

@[simp] theorem fixed_laneLeft (l : LaneNo) (s : State) : (laneLeft l s).outside.fixed = s.outside.fixed := by
  simp [laneLeft]

@[simp] theorem fixed_liveTick (s : State) : (liveTick s).outside.fixed = s.outside.fixed := rfl

@[simp] theorem fixed_declareLive (c : CycleNo) (s : State) : (declareLive c s).outside.fixed = s.outside.fixed := by
  unfold declareLive
  split <;> simp

@[simp] theorem fixed_foreignMark (l : LaneNo) (pacer : StationId) (s : State) :
    (foreignMark l pacer s).outside.fixed = s.outside.fixed := by
  unfold foreignMark
  repeat' split
  all_goals simp

@[simp] theorem fixed_timingMark (l : LaneNo) (m : Nat) (word : BitVec 64) (f : MarkFields) (s : State) :
    (timingMark l m word f s).outside.fixed = s.outside.fixed := by
  unfold timingMark
  dsimp only
  repeat' split
  all_goals simp

@[simp] theorem fixed_timingSilence (l : LaneNo) (s : State) :
    (timingSilence l s).outside.fixed = s.outside.fixed := by
  unfold timingSilence
  split <;> simp

@[simp] theorem fixed_timingExpected (l : LaneNo) (offset : Int) (s : State) :
    (timingExpected l offset s).outside.fixed = s.outside.fixed := by
  unfold timingExpected
  repeat' split
  all_goals simp

@[simp] theorem fixed_adoptPacer (pacer : StationId) (s : State) :
    (adoptPacer pacer s).outside.fixed = s.outside.fixed := by
  unfold adoptPacer
  split <;> simp

@[simp] theorem fixed_markOutcome (l : LaneNo) (o : SendOutcome) (read : StationId) (s : State) :
    (markOutcome l o read s).outside.fixed = s.outside.fixed := by
  unfold markOutcome
  repeat' split
  all_goals simp

@[simp] theorem fixed_rosterTick (s : State) : (rosterTick s).outside.fixed = s.outside.fixed := rfl

@[simp] theorem account_flywheelTick (s : State) :
    (flywheelTick s).outside.fixed.account = s.outside.fixed.account := by
  unfold flywheelTick
  dsimp only
  rw [outside_lookIf]
  refine Eq.trans (b := (State.outside (rosterTick (if s.timing.tick.role = .pacing then
    emitMarks { s with timing := s.timing.tick, lanes := vmap Lane.tick s.lanes }
    else { s with timing := s.timing.tick, lanes := vmap Lane.tick s.lanes }))).fixed.account) rfl ?_
  rw [fixed_rosterTick]
  split
  · rw [fixed_emitMarks]
    rfl
  · rfl

end Sys2Proof.Machine
end

