-- ==== Sys2Proof/Laws/Lanes.lean ====
section
/-! SUPPORT. What the lane units leave alone. -/

namespace Sys2Proof.Machine

@[simp] theorem fixed_reportLane (l : LaneNo) (left : LockState) (s : State) :
    (reportLane l left s).outside.fixed = s.outside.fixed := by simp [reportLane]

@[simp] theorem fixed_handLock (l : LaneNo) (fromConfirm renumbered : Bool) (s : State) :
    (handLock l fromConfirm renumbered s).outside.fixed = s.outside.fixed := by simp [handLock]

@[simp] theorem fixed_loseLane (l : LaneNo) (s : State) : (loseLane l s).outside.fixed = s.outside.fixed := by
  simp [loseLane]

@[simp] theorem fixed_coastLane (l : LaneNo) (s : State) : (coastLane l s).outside.fixed = s.outside.fixed := by
  simp [coastLane]

@[simp] theorem fixed_leaveLocked (l : LaneNo) (s : State) : (leaveLocked l s).outside.fixed = s.outside.fixed := by
  unfold leaveLocked
  split <;> simp

@[simp] theorem fixed_lockLane (l : LaneNo) (m : Nat) (num : CycleNo) (s : State) :
    (lockLane l m num s).outside.fixed = s.outside.fixed := by
  unfold lockLane
  repeat' split
  all_goals simp

@[simp] theorem fixed_confirmMark (l : LaneNo) (m : Nat) (num : CycleNo) (s : State) :
    (confirmMark l m num s).outside.fixed = s.outside.fixed := by
  unfold confirmMark
  dsimp only
  repeat' split
  all_goals simp

@[simp] theorem fixed_missMark (l : LaneNo) (cand : Option CycleNo) (bad : Bool) (s : State) :
    (missMark l cand bad s).outside.fixed = s.outside.fixed := by
  unfold missMark
  dsimp only
  repeat' split
  all_goals simp

@[simp] theorem fixed_expectedMark (l : LaneNo) (offset : Int) (s : State) :
    (expectedMark l offset s).outside.fixed = s.outside.fixed := by simp [expectedMark]

@[simp] theorem fixed_takeTrim (l : LaneNo) (s : State) : (takeTrim l s).outside.fixed = s.outside.fixed := rfl

@[simp] theorem fixed_adoptNumbering (l : LaneNo) (e m : Nat) (num : CycleNo) (s : State) :
    (adoptNumbering l e m num s).1.outside.fixed = s.outside.fixed := by
  unfold adoptNumbering
  repeat' split
  all_goals simp

@[simp] theorem fixed_reportRenumbered (l : LaneNo) (old num : CycleNo) (lag : Option Int) (s : State) :
    (reportRenumbered l old num lag s).outside.fixed = s.outside.fixed := by simp [reportRenumbered]

@[simp] theorem fixed_adoptFailed (l : LaneNo) (old num : CycleNo) (s : State) :
    (adoptFailed l old num s).outside.fixed = s.outside.fixed := by simp [adoptFailed]

@[simp] theorem fixed_adoptLocked (l : LaneNo) (m : Nat) (f : MarkFields) (s : State) :
    (adoptLocked l m f s).outside.fixed = s.outside.fixed := by
  unfold adoptLocked
  dsimp only
  repeat' split
  all_goals simp

@[simp] theorem fixed_lockedMark (l : LaneNo) (m : Nat) (offset : Int) (f : MarkFields) (s : State) :
    (lockedMark l m offset f s).outside.fixed = s.outside.fixed := by
  unfold lockedMark
  dsimp only
  repeat' split
  all_goals simp

@[simp] theorem fixed_relock (l : LaneNo) (num : CycleNo) (lag : Int) (residue : Nat) (s : State) :
    (relock l num lag residue s).outside.fixed = s.outside.fixed := by simp [relock]

@[simp] theorem fixed_resumeLane (l : LaneNo) (m : Nat) (num : CycleNo) (s : State) :
    (resumeLane l m num s).outside.fixed = s.outside.fixed := by
  unfold resumeLane
  repeat' split
  all_goals simp

@[simp] theorem fixed_adoptCoast (l : LaneNo) (m : Nat) (f : MarkFields) (s : State) :
    (adoptCoast l m f s).outside.fixed = s.outside.fixed := by
  unfold adoptCoast
  dsimp only
  repeat' split
  all_goals simp

@[simp] theorem fixed_coastToConfirm (l : LaneNo) (m : Nat) (num : CycleNo) (s : State) :
    (coastToConfirm l m num s).outside.fixed = s.outside.fixed := by simp [coastToConfirm]

@[simp] theorem fixed_coastMark (l : LaneNo) (m : Nat) (f : MarkFields) (s : State) :
    (coastMark l m f s).outside.fixed = s.outside.fixed := by
  unfold coastMark
  repeat' split
  all_goals simp

@[simp] theorem fixed_confirmFailed (l : LaneNo) (bad : Bool) (s : State) :
    (confirmFailed l bad s).outside.fixed = s.outside.fixed := rfl

@[simp] theorem fixed_confirmVerdict (l : LaneNo) (v : Verdict) (s : State) :
    (confirmVerdict l v s).outside.fixed = s.outside.fixed := by
  unfold confirmVerdict
  split <;> simp

@[simp] theorem fixed_lockedVerdict (l : LaneNo) (v : Verdict) (s : State) :
    (lockedVerdict l v s).outside.fixed = s.outside.fixed := by
  unfold lockedVerdict
  split <;> simp

end Sys2Proof.Machine
end

