-- ==== Sys2Proof/Laws/PerInstr.lean ====
section
/-! SUPPORT. Statements made for each command in turn. -/

/-- No word of the opcode table spells the command: no row gives bits. -/
def Sys2Proof.Laws.WireForm.Statement (i : Sys2Proof.Instr) : Prop :=
  ∀ nbits w : Nat, Sys2Proof.decodeTableWord nbits w ≠ some i

namespace Sys2Proof.Laws.WireForm

theorem resetPinAsserted : Statement .resetPinAsserted := nofun

theorem resetPinReleased : Statement .resetPinReleased := nofun

theorem startUpRecordRead (record : Vector Byte 32) : Statement (.startUpRecordRead record) := nofun

theorem flywheelCycleStart : Statement .flywheelCycleStart := nofun

theorem markVerdict (lane : LaneNo) (window : Window) : Statement (.markVerdict lane window) := nofun

theorem openSearchMarkFound (lane : LaneNo) (cycle : CycleNo) (bit : Nat) (word : BitVec 64) : Statement (.openSearchMarkFound lane cycle bit word) := nofun

theorem markOutcome (lane : LaneNo) (result : ReadBack 64) : Statement (.markOutcome lane result) := nofun

theorem electionWaitExpiry : Statement .electionWaitExpiry := nofun

theorem coastTimeExpiry (lane : LaneNo) : Statement (.coastTimeExpiry lane) := nofun

theorem quietCountLimit : Statement .quietCountLimit := nofun

theorem listenTimeExpiry : Statement .listenTimeExpiry := nofun

theorem attachment : Statement .attachment := nofun

theorem noticePositionStart (lane : LaneNo) (position : Fin 2) (cycle : CycleNo) : Statement (.noticePositionStart lane position cycle) := nofun

theorem noticeOutcome (lane : LaneNo) (result : ReadBack 112) : Statement (.noticeOutcome lane result) := nofun

theorem noticeArrival (lane : LaneNo) (position : Fin 2) (cycle : CycleNo) (word : BitVec 112) : Statement (.noticeArrival lane position cycle word) := nofun

theorem slotArrival (slot : SlotAddr) (cycle : CycleNo) (header : BitVec 40) (payload : Vector Byte 32) : Statement (.slotArrival slot cycle header payload) := nofun

theorem slotHeaderOutcome (slot : SlotAddr) (cycle : CycleNo) (result : ReadBack 40) : Statement (.slotHeaderOutcome slot cycle result) := nofun

theorem trunkCycleFormation (record : RecIx) (moment : FormationMoment) :
    Statement (.trunkCycleFormation record moment) := nofun

theorem barCountdownExpiry (slot : SlotAddr) : Statement (.barCountdownExpiry slot) := nofun

theorem rosterAgeExpiry (station : StationId) : Statement (.rosterAgeExpiry station) := nofun

theorem presenceCountdownExpiry : Statement .presenceCountdownExpiry := nofun

theorem strayEntryExpiry (owner : StationId) (tag : Tag) : Statement (.strayEntryExpiry owner tag) := nofun

theorem claimWaitExpiry : Statement .claimWaitExpiry := nofun

theorem offerWaitExpiry (record : RecIx) : Statement (.offerWaitExpiry record) := nofun

theorem probeWaitExpiry (record : RecIx) : Statement (.probeWaitExpiry record) := nofun

theorem confirmWaitExpiry (record : RecIx) : Statement (.confirmWaitExpiry record) := nofun

theorem closeWaitExpiry (record : RecIx) : Statement (.closeWaitExpiry record) := nofun

theorem sinkSilenceExpiry (record : RecIx) : Statement (.sinkSilenceExpiry record) := nofun

theorem sinkLossExpiry (record : RecIx) : Statement (.sinkLossExpiry record) := nofun

theorem tallyTimerExpiry (record : RecIx) : Statement (.tallyTimerExpiry record) := nofun

theorem declineEntryExpiry (entry : Fin 4) : Statement (.declineEntryExpiry entry) := nofun

theorem dismissDeadlineExpiry (record : RecIx) : Statement (.dismissDeadlineExpiry record) := nofun

theorem dataFrameHeader (byte : Byte) : Statement (.dataFrameHeader byte) := nofun

theorem dataFrameLastByte (byte : Byte) : Statement (.dataFrameLastByte byte) := nofun

theorem unknownKindHeader (byte : Byte) : Statement (.unknownKindHeader byte) := nofun

theorem heldStrobe : Statement .heldStrobe := nofun

theorem commandReceived (byte : Byte) : Statement (.commandReceived byte) := nofun

theorem unknownCommand : Statement .unknownCommand := nofun

theorem cmdOpen : Statement .cmdOpen := nofun

theorem cmdGrow : Statement .cmdGrow := nofun

theorem cmdShrink : Statement .cmdShrink := nofun

theorem cmdDrop : Statement .cmdDrop := nofun

theorem cmdClose : Statement .cmdClose := nofun

theorem cmdDismiss : Statement .cmdDismiss := nofun

theorem cmdTrunkStatus : Statement .cmdTrunkStatus := nofun

theorem cmdRoster : Statement .cmdRoster := nofun

theorem cmdSlots : Statement .cmdSlots := nofun

theorem cmdCounters : Statement .cmdCounters := nofun

theorem cmdRestart : Statement .cmdRestart := nofun

theorem clientOutputHoldReleased : Statement .clientOutputHoldReleased := nofun

theorem clientOutputHoldAsserted : Statement .clientOutputHoldAsserted := nofun

theorem responseSent : Statement .responseSent := nofun

theorem reportSent : Statement .reportSent := nofun

theorem receiveBlockSent : Statement .receiveBlockSent := nofun

theorem dataFrameSent : Statement .dataFrameSent := nofun

theorem clientInputByte (byte : Byte) : Statement (.clientInputByte byte) := nofun

theorem claimCycleNotDriven (slot : SlotAddr) (cycle : CycleNo) : Statement (.claimCycleNotDriven slot cycle) := nofun

end Sys2Proof.Laws.WireForm
end

