-- ==== Sys2Proof/Laws/Port.lean ====
section
/-! SUPPORT. The laws of the loader and of the client port: what they leave alone, what the arbiter's choice changes,
and what it keeps of the account. -/

namespace Sys2Proof.Machine

/-! ### The arbiter's choice (R158) -/

/-- A choice changes the response queue, the report queue, the output stage and the arbiter position, nothing else. -/
theorem choose_eta (s : State) :
    choose s = { s with port := { s.port with
      responses := (choose s).port.responses
      reports := (choose s).port.reports
      stage := (choose s).port.stage
      arb := (choose s).port.arb } } := by
  unfold choose
  split
  · unfold takeResponse takeReport takeData
    repeat' split
    all_goals rfl
  · rfl

theorem chooseReport_eta (s : State) :
    chooseReport s = { s with port := { s.port with
      reports := (chooseReport s).port.reports
      stage := (chooseReport s).port.stage } } := by
  unfold chooseReport
  split
  · unfold takeReport
    split <;> rfl
  · rfl

/-- Settling changes what a choice changes, and the place at which the next free value is read. -/
theorem settle_eta (s : State) :
    settle s = { s with free := (settle s).free, port := { s.port with
      responses := (settle s).port.responses
      reports := (settle s).port.reports
      stage := (settle s).port.stage
      arb := (settle s).port.arb } } := by
  unfold settle
  dsimp only
  split
  · split
    · rw [chooseReport_eta]
    · rw [choose_eta]
  · rw [choose_eta]

theorem mayChoose_idle {s : State} (h : mayChoose s = true) : s.port.stage = .idle := by
  simp [mayChoose] at h
  exact h.1

/-- A choice neither adds nor loses an answer owed. -/
theorem answers_choose (s : State) :
    (choose s).port.owed + (choose s).port.stage.replying = s.port.owed + s.port.stage.replying := by
  unfold choose
  split
  · rename_i h
    have hi := mayChoose_idle h
    unfold takeResponse takeReport takeData
    repeat' split
    all_goals simp_all [Port.owed, Stage.replying, Nat.add_assoc]
  · rfl

theorem answers_chooseReport (s : State) :
    (chooseReport s).port.owed + (chooseReport s).port.stage.replying = s.port.owed + s.port.stage.replying := by
  unfold chooseReport
  split
  · rename_i h
    have hi := mayChoose_idle h
    unfold takeReport
    split
    all_goals simp_all [Port.owed, Stage.replying]
  · rfl

/-- Settling neither adds nor loses an answer owed. -/
theorem answers_settle (s : State) :
    (settle s).port.owed + (settle s).port.stage.replying = s.port.owed + s.port.stage.replying := by
  unfold settle
  dsimp only
  split
  · split
    · rw [answers_chooseReport]
    · rw [answers_choose]
  · rw [answers_choose]

/-- A report that leaves keeps the bound (R155). -/
theorem reportsOk_tail (r : Report) (rs : List Report) (h : reportsOk (r :: rs) = true) : reportsOk rs = true := by
  unfold reportsOk ordinaryCount at *
  rw [List.countP_cons, List.countP_cons] at h
  simp at h ⊢
  omega

theorem reportsOk_choose (s : State) (h : reportsOk s.port.reports = true) :
    reportsOk (choose s).port.reports = true := by
  unfold choose
  split
  · unfold takeResponse takeReport takeData
    repeat' split
    all_goals simp_all
    all_goals exact reportsOk_tail _ _ h
  · exact h

theorem reportsOk_chooseReport (s : State) (h : reportsOk s.port.reports = true) :
    reportsOk (chooseReport s).port.reports = true := by
  unfold chooseReport
  split
  · unfold takeReport
    split
    all_goals simp_all
    exact reportsOk_tail _ _ h
  · exact h

/-- Settling keeps the bound (R155). -/
theorem reportsOk_settle (s : State) (h : reportsOk s.port.reports = true) :
    reportsOk (settle s).port.reports = true := by
  unfold settle
  dsimp only
  split
  · split
    · exact reportsOk_chooseReport _ h
    · exact reportsOk_choose _ h
  · exact reportsOk_choose _ h

theorem reportsBounded_iff (s : State) : s.ReportsBounded ↔ reportsOk s.port.reports = true := by
  simp [State.ReportsBounded, reportsOk]

/-! ### The loader (R163 to R169) -/

@[simp] theorem fixed_ownPresent (id : StationId) (s : State) :
    (ownPresent id s).outside.fixed = s.outside.fixed := by
  unfold ownPresent
  split <;> simp

@[simp] theorem fixed_huntLanes (mask : BitVec 4) (s : State) :
    (huntLanes mask s).outside.fixed = s.outside.fixed := by
  unfold huntLanes
  refine foldl_fixed _ (fun x l => ?_) _ _
  split <;> simp

@[simp] theorem account_enterListening (rec : StartRecord) (s : State) :
    (enterListening rec s).outside.fixed.account = s.outside.fixed.account := by
  simp [enterListening]

@[simp] theorem account_judgeRecord (record : Vector Byte 32) (s : State) :
    (judgeRecord record s).outside.fixed.account = s.outside.fixed.account := by
  unfold judgeRecord
  split
  · simp
  · exact account_enterFailed _ _ (fun _ => isLost_startFailed) s

@[simp] theorem account_attach (s : State) :
    (attach s).outside.fixed.account = s.outside.fixed.account := by
  simp [attach]

/-! ### Client input (R146 to R148) -/

@[simp] theorem outside_setParse (x : Parse) (s : State) : (setParse x s).outside = s.outside := rfl

@[simp] theorem outside_heldByte (s : State) : (heldByte s).outside = s.outside := rfl

@[simp] theorem outside_dataHeader (ix : BitVec 4) (cls : Byte) (len : Nat) (s : State) :
    (dataHeader ix cls len s).outside = s.outside := by
  simp [dataHeader]

@[simp] theorem outside_unknownHeader (len : Nat) (s : State) : (unknownHeader len s).outside = s.outside := rfl

/-- A command received is one more outstanding, and one more in the command queue where it has room, else one more
answer owed (R148). -/
theorem outside_commandReceived (e : CmdEntry) (s : State) :
    (commandReceived e s).outside = { s.outside with fixed := { s.outside.fixed with
      account := { s.outside.fixed.account with
        outstanding := s.port.outstanding + 1
        cmdQueue := if 8 ≤ s.port.cmdQueue.length then s.port.cmdQueue else s.port.cmdQueue ++ [e]
        owed := if 8 ≤ s.port.cmdQueue.length then s.port.owed + 1 else s.port.owed } } } := by
  unfold commandReceived
  dsimp only
  split
  · rename_i h
    simp only [State.modPort] at h
    rw [outside_respond]
    simp [State.outside, State.modPort, h, Port.owed]
  · rename_i h
    simp only [State.modPort] at h
    simp [State.outside, State.modPort, h, Port.owed]

/-! ### The command unit (R149) -/

/-- A command taken is one fewer in the command queue (R149). -/
theorem outside_popCommand (s : State) :
    (popCommand s).outside = { s.outside with fixed := { s.outside.fixed with
      account := { s.outside.fixed.account with cmdQueue := s.port.cmdQueue.drop 1 } } } := rfl

@[simp] theorem account_clearCounters (s : State) :
    (clearCounters s).outside.fixed.account = s.outside.fixed.account := rfl

end Sys2Proof.Machine
end

