-- ==== Sys2Proof/WellFormed.lean ====
section
/-! DEFINITION. Which commands can occur at the pins: the operand ranges that the operand types do not already hold. -/

namespace Sys2Proof

/-- The window of R18: a sync pattern begins at most 320 bit times from the expected position, and the 64 bits do
begin with it (Formats, E2D4h); with none in the window, the bits at the expected position do not. -/
def Window.wf : Window → Bool
  | .sync offset word => decide (-320 ≤ offset) && decide (offset ≤ 320) && word.extractLsb' 48 16 == 0xE2D4#16
  | .noSync word => word.extractLsb' 48 16 != 0xE2D4#16

/-- A command's operands lie in the ranges the spec gives them. -/
def Instr.wf : Instr → Bool
  | .markVerdict _ window => window.wf
  | .openSearchMarkFound _ _ bit word => decide (bit < Config.cycleBits) && word.extractLsb' 48 16 == 0xE2D4#16
  | .rosterAgeExpiry station => decide (1 ≤ station.toNat) && decide (station.toNat ≤ 62)
  | .strayEntryExpiry owner _ => owner != nobody
  | .resetPinAsserted | .resetPinReleased | .startUpRecordRead _ | .flywheelCycleStart | .markOutcome _ _
  | .electionWaitExpiry | .coastTimeExpiry _ | .quietCountLimit | .listenTimeExpiry | .attachment
  | .noticePositionStart _ _ _ | .noticeOutcome _ _ | .noticeArrival _ _ _ _ | .slotArrival _ _ _ _
  | .slotHeaderOutcome _ _ _ | .trunkCycleFormation _ _ | .barCountdownExpiry _ | .presenceCountdownExpiry
  | .claimWaitExpiry | .offerWaitExpiry _ | .probeWaitExpiry _ | .confirmWaitExpiry _ | .closeWaitExpiry _
  | .sinkSilenceExpiry _ | .sinkLossExpiry _ | .tallyTimerExpiry _ | .declineEntryExpiry _
  | .dismissDeadlineExpiry _ | .dataFrameHeader _ | .dataFrameLastByte _ | .unknownKindHeader _ | .heldStrobe
  | .commandReceived _ | .unknownCommand | .cmdOpen | .cmdGrow | .cmdShrink | .cmdDrop | .cmdClose | .cmdDismiss
  | .cmdTrunkStatus | .cmdRoster | .cmdSlots | .cmdCounters | .cmdRestart | .clientOutputHoldReleased
  | .clientOutputHoldAsserted | .responseSent | .reportSent | .receiveBlockSent | .dataFrameSent
  | .clientInputByte _ | .claimCycleNotDriven _ _ => true

/-- A command that can occur. -/
abbrev WellFormed (i : Instr) : Prop := i.wf = true

end Sys2Proof
end

