-- ==== Sys2Proof/Tests/Slice0.lean ====
section
/-! SUPPORT. The model's own tests: ill-formed commands, worked layouts, and for each statement of
Sys2Proof/Certificates/Slice0/Obligations.lean concrete states that meet its hypotheses. -/

open Sys2Proof Sys2Proof.Machine

/-! ### Helpers -/

namespace Sys2Proof.Tests

-- The kernel's evaluations run one after another: all at once they would take a thread each.
set_option Elab.async false

/-- The state a step answers, if it answers a next state. -/
def got (o : Host.Outcome State Fault Refusal) : Option State :=
  match o with
  | .next t => some t
  | .fault _ => none
  | .refused _ => none

/-- A test on the next state of a step. -/
def gives (o : Host.Outcome State Fault Refusal) (p : State → Bool) : Bool := (got o).any p

/-- The record of station 5 on lanes 0 to 3 (12.4): ELECT_BASE 4, TALLY_PERIOD 16, SKEW_LIMIT 3, MAX_OWNED 16, quotas
64. -/
def record5 : Vector Byte 32 :=
  #v[0x71, 0xC3, 1, 5, 15, 4, 16, 3, 16, 0, 64, 0, 64, 0, 0, 0, 0, 0, 0, 0, 0, 0, 0, 0, 0, 0, 0, 0, 0, 0, 0x95, 0xAA]

/-- Its fields. -/
def fields5 : StartRecord where
  id := 5
  mask := 15
  electBase := 4
  tallyPeriod := 16
  skewLimit := 3
  maxOwned := 16
  txQuota := 64
  rxQuota := 64
  accept := []

/-- A station 5 that listens, with its roster entry PRESENT. -/
def listening : State :=
  { State.reset with
    loader := { state := .listening, bytesRead := 32, reading := false, record := some fields5, listenAge := 0
                reason := .none }
    roster := vset State.reset.roster 4 { RosterEntry.reset with present := true }
    timing := { Timing.reset with role := .following } }

/-- The same, ATTACHED. -/
def attached5 : State := { listening with loader := { listening.loader with state := .attached } }

/-- The same with the reset pin asserted. -/
def inReset : State := { State.reset with pins := { resetAsserted := true, outHold := false } }

/-- A lane LOCKED at lag 0, expecting cycle 7 at its start, for so many cycles. -/
def lockedLane (age : Nat) : Lane :=
  { Lane.reset with state := .locked, expNum := some 7, expPos := some 35840, lag := some 0, residue := some 0
                    lockAge := age }

/-- With a lane. -/
def withLane (l : LaneNo) (x : Lane) (s : State) : State := s.modLane l (fun _ => x)

/-- With a transmit record. -/
def withTx (t : RecIx) (r : TxRec) (s : State) : State := s.modTx t (fun _ => r)

/-- With a receive record. -/
def withRx (r : RecIx) (e : RxRec) (s : State) : State := s.modRx r (fun _ => e)

/-- With a slot record. -/
def withSlot (a : SlotAddr) (r : SlotRec) (s : State) : State := s.modSlot a (fun _ => r)

/-- With a peer PRESENT for a number of flywheel cycles. -/
def withPeer (i : Fin 62) (age : Nat) (s : State) : State :=
  s.modRoster i (fun e => { e with present := true, age := age })

/-- With one command waiting. -/
def withCmd (bytes : List Byte) (s : State) : State :=
  s.modPort (fun p => { p with outstanding := 1, cmdQueue := [{ bytes := bytes, len := bytes.length }] })

/-- With a client-input parse state. -/
def withParse (p : Parse) (s : State) : State := s.modPort (fun q => { q with parse := p })

/-- With an output stage. -/
def withStage (x : Stage) (s : State) : State := s.modPort (fun q => { q with stage := x })

/-- With a timing record change. -/
def withTiming (f : Timing → Timing) (s : State) : State := s.modTiming f

/-- A member on a slot. -/
def member (a : SlotAddr) (role : MemberRole) : Member where
  slot := a
  role := role
  restore := 0
  deadline := 0

/-- A transmit record OPEN to station 9 with tag 2. -/
def openTx (ms : List Member) : TxRec :=
  { TxRec.reset 2 with state := .opened, sink := some 9, members := ms, lastEcho := some 0
                       lastTally := some { age := 0, info := none } }

/-- A transmit record OFFERING to station 9. -/
def offeringTx (attempt : Nat) (wait : Option Nat) : TxRec :=
  { TxRec.reset 2 with state := .offering, sink := some 9, openCmd := some 1, attempt := attempt, offerWait := wait }

/-- A change in a phase. -/
def change (kind : ChangeKind) (phase : ChangePhase) (deadline : Option Nat) : Change where
  kind := kind
  arg := 1
  phase := phase
  deadline := deadline
  cmd := some 1
  late := 0
  added := 0
  reason := none

/-- A receive record ACCEPTED from station 9 with tag 2. -/
def acceptedRx : RxRec := { RxRec.reset with state := .accepted, source := some 9, tag := some 2, tally := some 16 }

/-- A slot record in a state. -/
def slotIn (x : SlotState) : SlotRec := { SlotRec.reset with state := x }

/-- A claim request of record 0 in service for one slot. -/
def request (running won : List SlotAddr) (wait : Option Nat) : ClaimReq where
  tx := 0
  count := 1
  won := won
  running := running
  wait := wait
  phase := .inService

/-- With a request in service. -/
def withRequest (q : ClaimReq) (s : State) : State := s.modSlots (fun u => { u with queue := [q] })

/-- A response and a report to have queued. -/
def someResponse : Response := { code := 8, tag := 3, outcome := .done, result := [] }
def someReport : Report := .peerLeft 9

/-- A transmit frame of one byte, FILLING and empty. -/
def fillingFrame : TxFrame := { len := 1, cls := 0, data := [], complete := false }

/-! ### WellFormed: one ill-formed term for each check (R18, R59, R121) -/

theorem test_wf_window_offset_high : (Instr.markVerdict 0 (.sync 321 0xE2D4000000000000)).wf = false := by decide +kernel
theorem test_wf_window_offset_low : (Instr.markVerdict 0 (.sync (-321) 0xE2D4000000000000)).wf = false := by decide +kernel
theorem test_wf_window_sync : (Instr.markVerdict 0 (.sync 0 0xE2D5000000000000)).wf = false := by decide +kernel
theorem test_wf_window_noSync : (Instr.markVerdict 0 (.noSync 0xE2D4000000000000)).wf = false := by decide +kernel
theorem test_wf_search_bit : (Instr.openSearchMarkFound 0 0 5120 0xE2D4000000000000).wf = false := by decide +kernel
theorem test_wf_search_sync : (Instr.openSearchMarkFound 0 0 0 0).wf = false := by decide +kernel
theorem test_wf_station : (Instr.rosterAgeExpiry 63).wf = false := by decide +kernel
theorem test_wf_station_zero : (Instr.rosterAgeExpiry 0).wf = false := by decide +kernel
theorem test_wf_stray : (Instr.strayEntryExpiry nobody 0).wf = false := by decide +kernel
theorem test_wf_accepts : (Instr.markVerdict 3 (.sync 320 0xE2D4000000000000)).wf = true ∧
    (Instr.rosterAgeExpiry 62).wf = true ∧ (Instr.openSearchMarkFound 0 255 5119 0xE2D4000000000000).wf = true := by
  decide +kernel

/-! ### Checks and layouts (chapter 12) -/

/-- The nine bytes "123456789" of R171. -/
def nine : List Byte := [0x31, 0x32, 0x33, 0x34, 0x35, 0x36, 0x37, 0x38, 0x39]

theorem test_crc16_value : crc16 (nine.flatMap bitsOf) = 0x29B1#16 := by decide +kernel
theorem test_crc8_value : crc8 (nine.flatMap bitsOf) = 0xF4#8 := by decide +kernel
theorem test_crc32_value : crc32 nine = 0xFC891918#32 := by decide +kernel

/-- A mark of pacer 5 on lane 2 with cycle number 200, FRESH: sync, ID 000101, lane 10, number 11001000, flags 10000000.
-/
theorem test_mark_bits : (encodeMark 5 2 200 true).extractLsb' 24 40 = 0xE2D416C880#40 := by decide +kernel

/-- An OFFER of station 5 to station 9, tag 3, attempt 1: class 01, sender 000101, kind 0011, destination 001001. -/
theorem test_notice_bits : (encodeNotice 5 9 (.offer 3 1)).extractLsb' 86 26 = 0b01000101001100100100110001#26 := by decide +kernel

/-- A DATA header of station 5 to 9, tag 3, sequence 4, epoch 6, width 2. -/
theorem test_header_bits : (encodeHeader { owner := 5, sink := 9, tag := 3, seq := 4, role := .data, epoch := 6
                                           width := 2 }).extractLsb' 8 32 = 0b00010100100100110100000011000010#32 := by
  decide +kernel

/-- The header of a frame parcel of 1536 bytes, class 7. -/
theorem test_parcel_header : (parcelHeader 1536 7).take 3 = [6, 0, 7] ∧
    readParcelHeader (parcelHeader 1536 7) = some (1536, 7) ∧ readParcelHeader (parcelHeader 1537 7) = none := by decide +kernel

/-- A COMMAND response to OPEN on client output (12.3). -/
theorem test_response_frame : someResponse.frame = [0x30, 0, 0, 3, 8, 3, 1] := by decide +kernel

/-- A PEER_LEFT report on client output (12.3). -/
theorem test_report_frame : someReport.frame = [0x40, 0, 0, 2, 8, 9] := by decide +kernel

theorem test_record_valid : (validate record5).toOption = some fields5 := by decide +kernel

/-! ### Witnesses: states that meet the hypotheses of each statement, clause by clause -/

/-- IdleStepPassesTime: with the pin released and asserted. -/
theorem test_witness_IdleStepPassesTime :
    State.reset.pending = [] ∧ State.reset.pins.resetAsserted = false ∧ inReset.pending = [] ∧
    inReset.pins.resetAsserted = true ∧ State.reset.timing.role = .quiet ∧ listening.timing.role ≠ .quiet := by
  decide +kernel

/-- EveryCommandAnswersANextState: a command in reset. -/
theorem test_witness_EveryCommandAnswersANextState :
    inReset.pins.resetAsserted = true ∧ (Instr.cmdOpen ≠ .resetPinAsserted ∧ Instr.cmdOpen ≠ .resetPinReleased) ∧
    (Instr.cmdOpen ≠ .clientOutputHoldAsserted ∧ Instr.cmdOpen ≠ .clientOutputHoldReleased) := by decide +kernel

/-- ArbiterTakesTheOldestOfTheFirstReadyKind: stage busy, a response, a report, both, a frame in the first and the last
queue tested, nothing. -/
theorem test_witness_ArbiterTakesTheOldestOfTheFirstReadyKind :
    (withStage (.sending .padding 3) attached5).port.stage ≠ .idle ∧
    attached5.port.stage = .idle ∧ attached5.pins.outHold = false ∧
    (attached5.modPort (fun p => { p with responses := [someResponse] })).port.reports = [] ∧
    (attached5.modPort (fun p => { p with reports := [someReport] })).port.responses = [] ∧
    (attached5.modPort (fun p => { p with reports := [someReport], responses := [someResponse] })).port.reports =
      [someReport] ∧
    (let s := (attached5.modPort (fun p => { p with arb := 7 })).modBuf (fun b =>
        { b with rxQueue := vset b.rxQueue 7 [{ cls := 0, data := [1] }] });
      (7 : RecIx) = Fin.ofNat 8 (s.port.arb.val + 0) ∧ vget s.buf.rxQueue 7 = [{ cls := 0, data := [1] }]) ∧
    (let s := attached5.modBuf (fun b => { b with rxQueue := vset b.rxQueue 7 [{ cls := 0, data := [1] }] });
      (7 : RecIx) = Fin.ofNat 8 (s.port.arb.val + 7) ∧
      (∀ j, j < 7 → vget s.buf.rxQueue (Fin.ofNat 8 (s.port.arb.val + j)) = [])) ∧
    (∀ i : RecIx, vget attached5.buf.rxQueue i = []) := by decide +kernel

/-- The choice is the response of two that wait, or the report, and never a frame. -/
theorem test_arbiter_choice :
    (choose (attached5.modPort (fun p => { p with reports := [someReport], responses := [someResponse] }))).port.stage =
      .sending (.response someResponse) 7 := by decide +kernel

/-- ResetPin: asserted, released, and released again. -/
theorem test_witness_ResetPin : inReset.pins.resetAsserted = true ∧ State.reset.pins.resetAsserted = false := by
  decide +kernel

/-- StartUpRecordIsJudgedInOrder: a record whose first failing test is the first, and the last; one that passes. -/
theorem test_witness_StartUpRecordIsJudgedInOrder :
    ((recordTests (record5.set 0 0)).find? (fun t => !t.1)).map Prod.snd = some .marker ∧
    ((recordTests ((((record5.set 13 1).set 14 63).set 30 0x99).set 31 0x4C)).find? (fun t => !t.1)).map Prod.snd =
      some (.field 8) ∧
    (recordTests record5).all (fun t => t.1) = true ∧ State.reset.pins.resetAsserted = false ∧
    State.reset.loader.state = .loading ∧ State.reset.loader.reading = true := by decide +kernel

theorem test_startUpRecordRead :
    gives (exec (.startUpRecordRead record5) State.reset) (fun t => t.loader.state == .listening &&
      (laneAt t 3).state == .hunt && t.timing.role == .following && cfg t == fields5) = true ∧
    gives (exec (.startUpRecordRead (record5.set 2 2)) State.reset) (fun t =>
      t.loader.state == .failed && t.loader.reason == .version) = true := by decide +kernel

/-- AttachmentPostsReady: pacing; the listen age and lock age just reached; and one short of each. -/
theorem test_witness_AttachmentPostsReady :
    let paced := withTiming (fun t => { t with role := .pacing }) listening
    let aged := fun n (s : State) => { s with loader := { s.loader with listenAge := n } }
    paced.timing.role = .pacing ∧ attached5.loader.state ≠ .listening ∧
    (aged 256 (withLane 3 (lockedLane 8) listening)).loader.listenAge = 256 ∧
    (laneAt (withLane 3 (lockedLane 8) listening) 3).state = .locked ∧ (lockedLane 8).lockAge = 8 ∧
    listening.timing.role ≠ .pacing ∧ (aged 255 listening).loader.listenAge < 256 ∧
    (∀ l : LaneNo, (laneAt (withLane 0 (lockedLane 7) listening) l).state = .locked →
      (laneAt (withLane 0 (lockedLane 7) listening) l).lockAge < 8) ∧
    gives (exec .attachment (aged 256 (withLane 3 (lockedLane 8) listening)))
      (fun t => t.loader.state == .attached && t.notice.countdown == 20) = true := by decide +kernel

/-- FlywheelCycleStartAdvancesEveryTimer: a station that runs and one that does not. -/
theorem test_witness_FlywheelCycleStartAdvancesEveryTimer :
    State.Running listening ∧ ¬ State.Running State.reset ∧
    gives (exec .flywheelCycleStart attached5) (fun t => t.loader.listenAge == 1) = true := by
  unfold State.Running; decide +kernel

/-- SilenceBringsAnElection: phased and unphased, at the counts and one short; a verdict that brings the loss of the
pacer and one short of it; a lane that leaves as trim lane. -/
theorem test_witness_SilenceBringsAnElection :
    let phased := fun n => withTiming (fun t => { t with phased := true, quiet := n }) listening
    let silent := fun n => withTiming (fun t => { t with silent := vset t.silent 0 n, trim := some 1 })
      (withLane 0 (lockedLane 9) (phased 0))
    (phased 3).timing.role = .following ∧ (phased 3).timing.phased = true ∧
    (∀ l : LaneNo, (laneAt (phased 3) l).state ≠ .locked) ∧ (phased 2).timing.quiet < 3 ∧
    listening.timing.phased = false ∧
    (withTiming (fun t => { t with quiet := 256 }) listening).timing.quiet = 256 ∧ listening.timing.quiet < 256 ∧
    gives (exec .quietCountLimit (phased 3)) (fun t => t.timing.role == .electing && t.timing.wait == 9) = true ∧
    gives (exec .listenTimeExpiry (withTiming (fun t => { t with quiet := 256 }) listening))
      (fun t => t.timing.role == .electing) = true ∧
    (laneAt (silent 2) 0).state = .locked ∧ (silent 2).timing.role = .following ∧
    (timingSilence 0 (silent 2)).timing.role = .electing ∧ (timingSilence 0 (silent 1)).timing.role = .following ∧
    (laneAt (silent 2) 1).state ≠ .locked ∧ (laneLeft 1 (silent 3)).timing.role = .electing ∧
    (laneLeft 1 (silent 2)).timing.trim = some 0 := by decide +kernel

/-- An electing station whose wait has ended. -/
def electing (wait : Nat) : State := withTiming (fun t => { t with role := .electing, wait := wait }) listening

/-- ElectionWaitExpiryBringsPacing: the wait ended, and not. -/
theorem test_witness_ElectionWaitExpiryBringsPacing :
    (electing 0).timing.role = .electing ∧ (electing 0).timing.wait = 0 ∧ (electing 1).timing.wait ≠ 0 ∧
    gives (exec .electionWaitExpiry (withLane 0 (lockedLane 0) (electing 0))) (fun t => t.timing.role == .pacing &&
      t.timing.fresh == 15 && (laneAt t 0).emitted.any (fun e => e.word == encodeMark 5 0 0 true)) = true := by
  decide +kernel

/-- The mark of cycle 7 that station 5 emits on lane 0. -/
def ownMark7 : Emission := { pos := 35840, word := encodeMark 5 0 7 false, awaited := true, cut := false }

/-- A pacing station whose mark of cycle 7 on lane 0 is being read back. -/
def pacing : State :=
  withLane 0 { lockedLane 9 with emitted := some ownMark7 }
    (withTiming (fun t => { t with role := .pacing, number := 7, phased := true }) listening)

/-- MarkOutcomeWhilePacing: each outcome, the loss to pacer 4, one cut off, and a mark no outcome is awaited of. -/
theorem test_witness_MarkOutcomeWhilePacing :
    let w := encodeMark 5 0 7 false
    let cut := withLane 0 { lockedLane 9 with emitted := some { pos := 35840, word := w, awaited := true, cut := true } }
      pacing
    pacing.timing.role = .pacing ∧
    (laneAt pacing 0).emitted = some { pos := 35840, word := w, awaited := true, cut := false } ∧
    markOutcomeOf w (.ended w) = .won ∧ markOutcomeOf w .abandoned = .abandoned ∧
    markOutcomeOf w (.ended (encodeMark 4 0 7 false)) = .lostIn ∧
    markOutcomeOf w (.ended (encodeMark 5 0 6 false)) = .lostAfter true ∧
    markOutcomeOf w (.ended 0) = .lostBefore ∧
    (laneAt listening 0).emitted = none ∧ listening.timing.role ≠ .pacing ∧
    gives (exec (.markOutcome 0 (.ended (encodeMark 4 0 7 false))) pacing)
      (fun t => t.timing.role == .following && t.timing.pacer == some 4) = true ∧
    gives (exec (.markOutcome 0 (.ended (encodeMark 4 0 7 false))) cut)
      (fun t => t.timing.role == .pacing && (laneAt t 0).emitted.any (fun e => !e.awaited)) = true := by decide +kernel

/-- MarkOutcomeWhilePacing, a mark met: QUIET, FOLLOWING, ELECTING and, PACING, its own, a lower, its own ID and a
higher. -/
theorem test_witness_timingMark :
    let w := fun id : StationId => encodeMark id 0 7 false
    let met := fun (id : StationId) (s : State) => timingMark 0 35840 (w id) { pacer := id, number := 7, fresh := false } s
    State.reset.timing.role = .quiet ∧ listening.timing.role = .following ∧
    (met 4 (withLane 0 (lockedLane 9) (electing 3))).timing.role = .following ∧
    (laneAt (met 4 (withLane 0 (lockedLane 9) (electing 3))) 0).r8Failed = some 7 ∧
    (met 5 pacing).timing.role = .pacing ∧ (met 4 pacing).timing.role = .following ∧
    (met 5 (withLane 0 (lockedLane 9) pacing)).timing.role = .electing ∧ (met 6 pacing).timing.role = .pacing ∧
    (met 4 listening).timing.live = [7] ∧ (vget (met 9 listening).roster 8).present = true := by decide +kernel

/-- A CONFIRM lane that expects cycle 7 at its start, with a confirm count. -/
def confirming (n : Nat) : Lane :=
  { Lane.reset with state := .confirm, expNum := some 7, expPos := some 35840, confirm := n }

/-- A valid window: the mark of pacer 4 on lane 0, on its expected position. -/
def markOf (n : CycleNo) (fresh : Bool) : Window := .sync 0 (encodeMark 4 0 n fresh)

/-- What that window reads as. -/
theorem test_verdict_valid (n : CycleNo) (h : n = 7 ∨ n = 9) :
    verdictOf 0 (markOf n false) = .valid { pacer := 4, number := n, fresh := false } 0 (encodeMark 4 0 n false) := by
  rcases h with h | h <;> subst h <;> decide +kernel

/-- MarkVerdictOnAnUnlockedLane: no expected position; bad; missing; the three cases of a valid mark; a third mark with
and without the reference, in range and out of range. -/
theorem test_witness_MarkVerdictOnAnUnlockedLane :
    (laneAt listening 0).state = .disabled ∧ (laneAt (withLane 0 (confirming 1) listening) 0).state = .confirm ∧
    verdictOf 0 (.noSync 0) = .bad ∧ verdictOf 0 (.noSync (BitVec.allOnes 64)) = .missing ∧
    (confirming 1).confirm < 2 ∧ 2 ≤ (confirming 2).confirm ∧ (confirming 1).expNum ≠ some 9 ∧
    isReference 0 (withLane 0 (confirming 2) listening) = true ∧
    isReference 0 (withLane 1 (lockedLane 9) (withTiming (fun t => { t with phased := true })
      (withLane 0 (confirming 2) listening))) = false ∧
    measure 35840 7 = some (0, 0) ∧ measure 35840 9 = some (-32, 0) ∧ measure 35840 200 = none ∧
    gives (exec (.markVerdict 0 (markOf 7 false)) (withLane 0 (confirming 2) listening)) (fun t =>
      (laneAt t 0).state == .locked && (laneAt t 0).lag == some 0 && t.timing.phased && t.timing.number == 7 &&
        (laneAt t 0).expNum == some 8 && (laneAt t 0).expPos == some 40960) = true ∧
    gives (exec (.markVerdict 0 (markOf 7 false)) (withLane 1 { lockedLane 9 with expPos := some 100 } (withTiming
      (fun t => { t with phased := true, rephase := true }) (withLane 0 { confirming 2 with expPos := some 38300 }
        listening)))) (fun t => (laneAt t 0).state == .locked && (laneAt t 1).expPos == some 100) = true := by
  decide +kernel

/-- MeasuredLagIsTheFlooredOffset: both ends of the range of lags, and one bit time beyond each. -/
theorem test_witness_MeasuredLagIsTheFlooredOffset :
    measure 20479 0 = some (63, 319) ∧ measure 20480 0 = none ∧ measure 1290240 0 = some (-64, 0) ∧
    measure 1290239 0 = none ∧ measure 1310719 0 = some (-1, 319) := by decide +kernel

/-- MarkVerdictOnALockedLane: the expected mark, with a re-phase pending, on the trim lane and neither; a bad, a missing
and an unexpected mark, as third and as fourth miss, ELECTING and not. -/
theorem test_witness_MarkVerdictOnALockedLane :
    let s := withLane 0 { lockedLane 9 with miss := 3 } listening
    let trims := withTiming (fun t => { t with trim := some 0, position := 100 }) s
    (laneAt s 0).state = .locked ∧ (laneAt s 0).expNum = some 7 ∧ 3 ≤ (laneAt s 0).miss ∧ (lockedLane 9).miss < 3 ∧
    verdictOf 0 (.noSync 0) = .bad ∧ verdictOf 0 (.noSync (BitVec.allOnes 64)) = .missing ∧
    (lockedLane 9).expNum ≠ some 9 ∧ (lockedLane 9).cand = none ∧
    gives (exec (.markVerdict 0 (.noSync 0)) s) (fun t => (laneAt t 0).state == .hunt) = true ∧
    gives (exec (.markVerdict 0 (.noSync 0)) (withTiming (fun t => { t with role := .electing }) s))
      (fun t => (laneAt t 0).state == .coast) = true ∧
    gives (exec (.markVerdict 0 (.noSync 0)) (withTiming (fun t => { t with role := .electing })
        (withSlot 3 (slotIn .claiming) (withSlot 2 { slotIn .mine with driven := some {
          cycle := 6, won := true, counted := false } } (withSlot 1 (slotIn .free) s)))))
      (fun t => (slotAt t 1).state == .unseen && slotAt t 2 == slotIn .mine && (slotAt t 3).state == .unseen &&
        t.slots.abandoned == 1) = true ∧
    gives (exec (.markVerdict 0 (markOf 9 false)) s) (fun t => (laneAt t 0).state == .hunt) = true ∧
    gives (exec (.markVerdict 0 (markOf 7 false)) s) (fun t => (laneAt t 0).miss == 0 &&
      (laneAt t 0).expNum == some 8 && (laneAt t 0).lockAge == 10 && t.timing.trim == none) = true ∧
    gives (exec (.markVerdict 0 (markOf 7 false)) (withTiming (fun t => { t with rephase := true }) s))
      (fun t => t.timing.rephase == false && t.timing.trim == some 0) = true ∧
    gives (exec (.markVerdict 0 (.sync 120 (encodeMark 4 0 7 false))) trims)
      (fun t => t.timing.position == 0 && t.timing.slip == -20) = true := by decide +kernel

/-- A LOCKED lane whose candidate is 8, so that 9 is adopted, on a phased flywheel in cycle 7. -/
def renumbering : State :=
  withLane 0 { lockedLane 9 with cand := some 8 } (withTiming (fun t => { t with phased := true, number := 7 }) listening)

/-- LockedLaneAdoptsANewNumbering: by the candidate and FRESH; the flywheel renumbered; kept with a re-phase pending;
the lag measured, ELECTING and where the flywheel carries it, in range and out. -/
theorem test_witness_LockedLaneAdoptsANewNumbering :
    let carried := withLane 0 { lockedLane 9 with expNum := some 8 } listening
    let far : Lane := { lockedLane 9 with expNum := some 200, lag := some 63, residue := some 319, expPos := some 56319 }
    (laneAt renumbering 0).expNum ≠ some 9 ∧ (laneAt renumbering 0).cand = some 8 ∧ (9 : CycleNo) = 8 + 1 ∧
    (laneAt renumbering 0).expPos = some 35840 ∧ (laneAt renumbering 0).lag = some 0 ∧
    (laneAt renumbering 0).residue = some 0 ∧ cycleHeld 35840 0 0 = 7 ∧ cycleHeld 56319 63 319 = 7 ∧
    measure 35840 7 = some (0, 0) ∧ measure 56320 7 = none ∧
    gives (exec (.markVerdict 0 (markOf 9 false)) renumbering) (fun t => (laneAt t 0).state == .locked &&
      (laneAt t 0).expNum == some 10 && (laneAt t 0).lag == some 0 && t.timing.number == 9 &&
      t.timing.pacer == some 4) = true ∧
    gives (exec (.markVerdict 0 (markOf 9 true)) (withLane 0 (lockedLane 9) renumbering)) (fun t =>
      (laneAt t 0).expNum == some 10 && t.timing.number == 9) = true ∧
    gives (exec (.markVerdict 0 (markOf 7 true)) (withTiming (fun t => { t with rephase := true }) carried)) (fun t =>
      (laneAt t 0).expNum == some 8 && t.timing.rephase == false && t.timing.trim == some 0) = true ∧
    gives (exec (.markVerdict 0 (markOf 7 true)) carried) (fun t =>
      (laneAt t 0).expNum == some 8 && t.timing.trim == none) = true ∧
    gives (exec (.markVerdict 0 (.sync 1 (encodeMark 4 0 7 true))) (withLane 0 far listening)) (fun t =>
      (laneAt t 0).state == .hunt && (laneAt t 0).lagOutOfRange == 1 && (laneAt t 0).lockAge == 10 &&
        t.port.reports.reverse.take 2 == [.laneState 0 .locked .hunt none, .laneRenumbered 0 200 7 none]) = true := by
  decide +kernel

/-- An adoption while ELECTING is not reached through a foreign mark, which ends the election; a station that paced and
met its own ID adopts in ELECTING (R33). -/
theorem test_adoption_while_electing :
    gives (exec (.markVerdict 0 (.sync 0 (encodeMark 5 0 9 true))) (withLane 0 (lockedLane 9) pacing)) (fun t =>
      t.timing.role == .electing && t.timing.number == 7 && (laneAt t 0).lag == some (-32)) = true := by decide +kernel

/-- A lane that coasts, expecting cycle 7 at its start. -/
def coasting (n : Nat) : Lane := { lockedLane 9 with state := .coast, coast := n }

/-- OpenSearchMarkFound: no mark; HUNT; COAST with a near number, with and without a pending re-phase, in and out of
range; a FRESH far number that renumbers, that is measured, out of range; another far number. -/
theorem test_witness_OpenSearchMarkFound :
    let near := withLane 0 (coasting 1) listening
    let rephasing := withTiming (fun t => { t with rephase := true, phased := true }) near
    let edge : Lane := { coasting 1 with lag := some 63, residue := some 319, expPos := some 56319 }
    let found := fun n fresh s => exec (.openSearchMarkFound 0 7 0 (encodeMark 4 0 n fresh)) s
    readMark 0 0 = none ∧
    readMark 0 (encodeMark 4 0 7 false) = some { pacer := 4, number := 7, fresh := false } ∧
    (laneAt (withLane 0 { Lane.reset with state := .hunt } listening) 0).state = .hunt ∧
    (laneAt near 0).state = .coast ∧ (laneAt near 0).expNum = some 7 ∧ (laneAt near 0).expPos = some 35840 ∧
    (laneAt near 0).lag = some 0 ∧ (laneAt near 0).residue = some 0 ∧
    (rephasing.timing.rephase = true ∧ rephasing.timing.role = .following) ∧ near.timing.rephase = false ∧
    measure 35840 8 = some (-16, 0) ∧ measure 56320 7 = none ∧
    gives (found 7 false near) (fun t => (laneAt t 0).state == .locked && (laneAt t 0).lag == some 0) = true ∧
    gives (found 7 false rephasing) (fun t => (laneAt t 0).state == .locked && t.timing.rephase == false &&
      t.timing.trim == some 0 && t.timing.number == 7 && t.timing.position == 64) = true ∧
    gives (exec (.openSearchMarkFound 0 11 0 (encodeMark 4 0 7 false)) (withLane 0 edge listening)) (fun t =>
      (laneAt t 0).state == .hunt && (laneAt t 0).lagOutOfRange == 1 &&
        t.port.reports == [.laneState 0 .coast .hunt none]) = true ∧
    gives (found 7 false (withLane 1 { lockedLane 9 with expPos := some 100 } rephasing)) (fun t =>
      (laneAt t 1).expPos == some 100) = true ∧
    gives (found 7 false (withLane 1 { confirming 1 with expPos := some 100 } (withLane 0
      { coasting 1 with expPos := some 35850 } rephasing))) (fun t => (laneAt t 1).expPos == some 110) = true ∧
    gives (found 20 true near) (fun t => (laneAt t 0).state == .locked && (laneAt t 0).lag == some 0 &&
      t.timing.number == 13 && t.timing.pacer == some 4) = true ∧
    gives (found 7 true (withLane 0 { coasting 1 with expNum := some 20 } listening)) (fun t =>
      (laneAt t 0).state == .locked && t.timing.number == 0) = true ∧
    gives (exec (.openSearchMarkFound 0 11 0 (encodeMark 4 0 7 true)) (withLane 0 { edge with expNum := some 20 }
      listening)) (fun t => (laneAt t 0).state == .hunt && (laneAt t 0).lagOutOfRange == 1) = true ∧
    gives (found 20 true (withLane 1 (lockedLane 9) near)) (fun t => (laneAt t 1).expPos == some 102400) = true ∧
    gives (found 9 false (withSlot 3 (slotIn .theirs) near)) (fun t => (laneAt t 0).state == .confirm &&
      (laneAt t 0).lag == none && (slotAt t 3).state == .unseen) = true := by
  decide +kernel

/-- CoastTimeExpiryBringsHunt: at the limit, one short of it; with nothing of the lane held; with a MINE slot won for
the request in service. -/
theorem test_witness_CoastTimeExpiryBringsHunt :
    let s := withLane 0 (coasting 96) listening
    let held := withRequest { tx := 0, count := 1, won := [15], running := [], wait := some 9, phase := .inService }
      (withSlot 15 { SlotRec.reset with state := .mine } s)
    (laneAt s 0).state = .coast ∧ (laneAt s 0).coast = 96 ∧ (coasting 95).coast ≠ 96 ∧ inService s = none ∧
    (∀ a, laneOf a = 0 → (slotAt s a).state ≠ .claiming ∧ (slotAt s a).state ≠ .mine) ∧
    (inService held).any (fun q => q.won == [15]) = true ∧ (15 : SlotAddr) ∈ ([] ++ [15] : List SlotAddr) ∧
    laneOf 15 = 0 ∧
    gives (exec (.coastTimeExpiry 0) held) (fun t => t.slots.laneLosses == 1 && t.slots.queue == [] &&
      (slotAt t 15).state == .unseen) = true := by decide +kernel
/-- A listening station with lane 0 LOCKED, which may drive. -/
def driving : State := withLane 0 (lockedLane 9) listening

/-- A queued entry. -/
def entry (o : OwnerEntry) (b : NoticeBody) : QueuedNotice := { owner := o, dest := 9, body := b, expiry := 0 }

/-- With a notice queue. -/
def withQueue (q : List QueuedNotice) (s : State) : State := s.modNotice (fun n => { n with queue := q })

/-- An offer in progress. -/
def offer (o : OwnerEntry) (b : NoticeBody) (withdrawn : Bool) : Offer where
  position := 0
  cycle := 7
  owner := o
  dest := 9
  body := b
  word := encodeNotice 5 9 b
  replaced := false
  withdrawn := withdrawn
  cut := false

/-- With that offer on lane 0. -/
def withOffer (f : Offer) (s : State) : State := s.modNotice (fun n => { n with offers := vset n.offers 0 (some f) })

/-- NoticePositionOffersTheFirstEntryNotInFlight: nothing to offer; an entry behind one in flight; alone; a cycle that
is not the lane's; one that may not be driven. -/
theorem test_witness_NoticePositionOffersTheFirstEntryNotInFlight :
    let q := [entry (.tx 0) (.close 2), entry (.tx 1) (.offer 3 1)]
    let s := (withQueue q driving).modNotice (fun n =>
      { n with offers := vset n.offers 3 (some (offer (.tx 0) (.close 2) false)) })
    drives s 0 7 = true ∧ (laneAt s 0).expNum = some 7 ∧ vget s.notice.offers 0 = none ∧
    inFlight s (.tx 0) = true ∧ inFlight s (.tx 1) = false ∧
    queueOrder s.notice.queue = [entry (.tx 0) (.close 2)] ++ entry (.tx 1) (.offer 3 1) :: [] ∧
    drives listening 0 7 = false ∧ drives (withLane 0 { lockedLane 9 with r8Failed := some 7 } s) 0 7 = false ∧
    gives (exec (.noticePositionStart 0 1 9) s) (fun t => vget t.notice.offers 0 == none) = true ∧
    gives (exec (.noticePositionStart 0 1 6) s) (fun t => (vget t.notice.offers 0).isSome) = true ∧
    gives (exec (.noticePositionStart 0 1 7) s) (fun t => (vget t.notice.offers 0).any (fun f =>
      f.owner == .tx 1 && f.word == encodeNotice 5 9 (.offer 3 1))) = true := by decide +kernel

/-- NoticeQueueOrderPostAndWithdraw: an empty entry, one of the same kind and one of another. -/
theorem test_witness_NoticeQueueOrderPostAndWithdraw :
    let s := withQueue [entry (.rx 0) (.accept 2)] listening
    queued listening (.rx 0) = none ∧ queued s (.rx 0) = some (entry (.rx 0) (.accept 2)) ∧
    (NoticeBody.accept 2).kind = (NoticeBody.accept 3).kind ∧
    (NoticeBody.accept 2).kind ≠ (NoticeBody.dismiss 2 .client).kind := by decide +kernel

/-- NoticeOutcomeEmptiesOrKeepsTheEntry: no offer; not WON; WON withdrawn; WON of each poster. -/
theorem test_witness_NoticeOutcomeEmptiesOrKeepsTheEntry :
    let won := fun b : NoticeBody => noticeOutcomeOf (encodeNotice 5 9 b) (.ended (encodeNotice 5 9 b))
    vget listening.notice.offers 0 = none ∧
    vget (withOffer (offer (.tx 0) (.close 2) true) listening).notice.offers 0 =
      some (offer (.tx 0) (.close 2) true) ∧
    won (.close 2) = .won ∧ won (.offer 2 1) = .won ∧ won (.dismiss 2 .client) = .won ∧
    noticeOutcomeOf (encodeNotice 5 9 (.close 2)) .abandoned ≠ .won ∧
    gives (exec (.noticeOutcome 0 (.ended (encodeNotice 5 9 (.close 2))))
      (withOffer { offer (.tx 0) (.close 2) false with cut := true } (withQueue [entry (.tx 0) (.close 2)] listening)))
      (fun t => t.notice.queue.length == 1 && vget t.notice.offers 0 == none) = true ∧
    (txAt (withTx 0 (offeringTx 1 none) attached5) 0).state = .offering ∧
    (txAt (withTx 0 { openTx [] with state := .closing } attached5) 0).state = .closing ∧
    (rxAt attached5 0).dismiss = none ∧
    (rxAt (withRx 0 { acceptedRx with dismiss := some { tag := 1, deadline := 32 } } attached5) 0).dismiss.isSome ∧
    gives (exec (.noticeOutcome 0 (.ended (encodeNotice 5 9 (.offer 2 1))))
        (withOffer (offer (.tx 0) (.offer 2 1) false) (withQueue [entry (.tx 0) (.offer 2 1)]
          (withTx 0 (offeringTx 1 none) attached5))))
      (fun t => t.notice.queue == [] && (txAt t 0).offerWait == some 64) = true := by decide +kernel

/-- HeardStationBecomesPresent: the lowest and the highest station, present and absent, and this one. -/
theorem test_witness_HeardStationBecomesPresent :
    (0 : Fin 62).val + 1 = (1 : StationId).toNat ∧ (61 : Fin 62).val + 1 = (62 : StationId).toNat ∧
    (vget (withPeer 61 3 listening).roster 61).present = true ∧ (vget listening.roster 0).present = false ∧
    ownId listening = 5 := by decide +kernel

/-- NoticeArrivalIsCountedOrDispatched: not received; empty; a check failure; unknown; its own; a clash; from a peer for
another, a PRESENCE, an ACCEPT while LISTENING and while ATTACHED. -/
theorem test_witness_NoticeArrivalIsCountedOrDispatched :
    (laneAt listening 0).state ≠ .locked ∧ (laneAt driving 0).state = .locked ∧ (laneAt driving 0).expNum = some 7 ∧
    gives (exec (.noticeArrival 0 1 9 0) driving) (fun t => (laneAt t 0).noticeErrors == 0) = true ∧
    readNotice (BitVec.allOnes 112) = .empty ∧ readNotice 0 = .checkFailure ∧
    readNotice (encodeNotice 9 5 (.offer 2 0)) = .unknown ∧
    readNotice (encodeNotice 5 9 (.accept 2)) = .received 5 9 (.accept 2) ∧
    vget (driving.modNotice (fun n => { n with won := vset n.won 0 (some (7, 1)) })).notice.won 0 = some (7, 1) ∧
    vget driving.notice.won 0 ≠ some (7, 1) ∧
    readNotice (encodeNotice 9 6 (.accept 2)) = .received 9 6 (.accept 2) ∧
    readNotice (encodeNotice 9 5 (.accept 2)) = .received 9 5 (.accept 2) ∧
    readNotice (encodeNotice 9 63 (.presence { owned := 64, tx := 8, rx := 8 })) =
      .received 9 63 (.presence { owned := 64, tx := 8, rx := 8 }) ∧
    gives (exec (.noticeArrival 0 1 7 (encodeNotice 5 9 (.accept 2))) driving) (fun t =>
      t.loader.state == .failed && t.port.stage == .sending (.report (.idClash (.notice 0 1) 0)) 10) = true ∧
    gives (exec (.noticeArrival 0 1 7 (encodeNotice 9 63 (.presence { owned := 2, tx := 1, rx := 1 }))) driving)
      (fun t => (vget t.roster 8).present && (vget t.roster 8).body == some { owned := 2, tx := 1, rx := 1 }) = true :=
  by decide +kernel

/-- DeclineEntries: the same request queued; the lowest empty entry; all full; the expiry. -/
theorem test_witness_DeclineEntries :
    let dec : Tag → NoticeBody := fun t => .decline t .noRoom
    let full := withQueue [entry (.decline 0) (dec 0), entry (.decline 1) (dec 1), entry (.decline 2) (dec 2),
      { entry (.decline 3) (dec 3) with expiry := 64 }] listening
    queued full (.decline 3) = some { entry (.decline 3) (dec 3) with expiry := 64 } ∧
    (∀ k : Fin 4, queued full (.decline k) ≠ none) ∧ queued listening (.decline 0) = none ∧
    State.reset.loader.state = .loading ∧
    (requestDecline 9 (dec 9) full).2 = false ∧ (requestDecline 9 (dec 3) full).2 = true ∧
    gives (exec (.declineEntryExpiry 3) full) (fun t => t.notice.queue.length == 3 && t.notice.declineExpired == 1) =
      true := by decide +kernel

/-- DeclineEntries, an OFFER: to all; of a record ACCEPTED, with the other tag and the same; of one that drains; not
listed; with no record VACANT; accepted. -/
theorem test_witness_takeOffer :
    let offered := fun s : State => rxNotice 9 5 (.offer 2 1) s
    let body := fun s : State => (queued s (.decline 0)).map (fun e => e.body)
    let full := allRecs.foldl (fun x r => withRx r { RxRec.reset with state := .draining } x) attached5
    let wary := { attached5 with loader := { attached5.loader with record := some { fields5 with accept := [8] } } }
    rxNotice 9 63 (.offer 2 1) attached5 = attached5 ∧ ownId attached5 = 5 ∧
    (rxAt (offered (withRx 3 { acceptedRx with tag := some 10 } attached5)) 0).tag = some 2 ∧
    (rxAt (offered (withRx 3 { acceptedRx with tag := some 10 } attached5)) 3).state = .vacant ∧
    (queued (offered (withRx 3 acceptedRx attached5)) (.rx 3)).map (fun e => e.body) = some (.accept 2) ∧
    body (offered (withRx 3 { acceptedRx with state := .draining } attached5)) = some (.decline 2 .noRoom) ∧
    body (offered wary) = some (.decline 2 .notListed) ∧ body (offered full) = some (.decline 2 .noRoom) ∧
    (rxAt (offered attached5) 0).state = .accepted ∧ (rxAt (offered attached5) 0).tally = some 16 := by decide +kernel

/-- PeriodicNoticesArePosted: countdown 0, and not; timer 0 with and without a DISMISS queued, and not 0. -/
theorem test_witness_PeriodicNoticesArePosted :
    let s := withRx 0 { acceptedRx with tally := some 0 } attached5
    attached5.loader.state = .attached ∧ attached5.notice.countdown = 0 ∧ listening.loader.state ≠ .attached ∧
    (rxAt s 0).state = .accepted ∧ (rxAt s 0).tally = some 0 ∧ queued s (.rx 0) = none ∧
    queued (withQueue [entry (.rx 0) (.dismiss 2 .client)] s) (.rx 0) = some (entry (.rx 0) (.dismiss 2 .client)) ∧
    acceptedRx.tally ≠ some 0 ∧
    gives (exec (.tallyTimerExpiry 0) s) (fun t =>
      (queued t (.rx 0)).any (fun e => e.dest == 9) && (rxAt t 0).tally == some 16) = true := by decide +kernel

/-- An entry of a member view on slot 0 with sequence 15. -/
def viewEntry : ViewEntry :=
  { newEntry 0 15 .data with health := .good }

/-- TallyBodySaysWhatTheRecordHolds. -/
theorem test_witness_TallyBodySaysWhatTheRecordHolds :
    let s := withRx 0 { acceptedRx with view := [viewEntry] } attached5
    (rxAt s 0).tag = some 2 ∧ (tallyBody s 0).good = 1#16 ∧ queued s (.rx 0) = none := by decide +kernel

/-- RosterAgeExpiryMakesAPeerAbsent: at the age, before it; with no trunk of the peer, and with one each way and a
stray. -/
theorem test_witness_RosterAgeExpiryMakesAPeerAbsent :
    let s := withPeer 61 1024 listening
    let stray : Stray := { owner := 9, tag := 4, run := 1, last := 7, quiet := 0, spacing := 0 }
    let trunks := withTx 0 (openTx []) (withRx 0 acceptedRx (withPeer 8 1024
      { attached5 with rx := { attached5.rx with strays := [stray] } }))
    (61 : Fin 62).val + 1 = (62 : StationId).toNat ∧ ownId s ≠ 62 ∧ (vget s.roster 61).present = true ∧
    (vget s.roster 61).age = 1024 ∧ (vget (withPeer 61 1023 listening).roster 61).age ≠ 1024 ∧
    (∀ k : RecIx, (txAt s k).sink ≠ some 62) ∧ (∀ k : RecIx, (rxAt s k).source ≠ some 62) ∧ s.rx.strays = [] ∧
    gives (exec (.rosterAgeExpiry 9) trunks) (fun t => (txAt t 0).state == .vacant && (rxAt t 0).state == .vacant &&
      t.rx.strays == [] && t.port.reports.length == 2) = true := by decide +kernel

/-- A DATA header of station 9, a peer, for station 6. -/
def peerHeader : BitVec 40 :=
  encodeHeader { owner := 9, sink := 6, tag := 2, seq := 0, role := .data, epoch := 0, width := 1 }

/-- A SPARE header of this station. -/
def ownHeader5 : BitVec 40 := encodeHeader (spareHeader 5)

/-- SlotArrivalTeachesTheSlotMap: free, fault, a peer's header on each record, this station's own once and twice; driven
in the cycle and not, with what a record keeps of a cycle under way; ATTACHED. -/
theorem test_witness_SlotArrivalTeachesTheSlotMap :
    let drove := withSlot 15 { slotIn .mine with driven := some { cycle := 7, won := true, counted := true } } driving
    let give := fun h s => exec (.slotArrival 15 7 h (Vector.replicate 32 0)) s
    listening.loader.state = .listening ∧ (laneAt driving (laneOf 15)).state = .locked ∧
    (laneAt driving (laneOf 15)).expNum = some 7 ∧
    (slotAt driving 15).driven = none ∧ (slotAt drove 15).driven = some { cycle := 7, won := true, counted := true } ∧
    readHeader (BitVec.allOnes 40) = .free ∧ readHeader 1 = .fault ∧
    (readHeader peerHeader matches .valid { owner := 9, .. }) ∧ (readHeader ownHeader5 matches .valid { owner := 5, .. }) ∧
    (slotAt driving 15).ownRun = 0 ∧ (slotAt (withSlot 15 { slotIn .free with ownRun := 1 } driving) 15).ownRun ≠ 0 ∧
    gives (give ownHeader5 (withSlot 15 { slotIn .free with ownRun := 1 } driving))
      (fun t => t.loader.state == .failed) = true ∧
    gives (give peerHeader (withSlot 15 (slotIn .claiming) driving)) (fun t => (slotAt t 15).state == .theirs) = true ∧
    gives (give peerHeader (withSlot 15 (slotIn .mine) driving)) (fun t => t.slots.seizures == 1) = true ∧
    ({ slotIn .claiming with underWay := [6, 5] }).underWay ≠ [] ∧
    gives (give peerHeader (withSlot 15 { slotIn .claiming with underWay := [6, 5] } driving)) (fun t =>
      (slotAt t 15).state == .theirs && (slotAt t 15).underWay == []) = true ∧
    gives (give peerHeader (withSlot 15 { slotIn .mine with began := [(7, spareSlot driving 15)] } driving)) (fun t =>
      (slotAt t 15).state == .theirs && (slotAt t 15).began == []) = true ∧
    gives (give peerHeader (withSlot 15 { slotIn .mine with stopped := true } driving)) (fun t =>
      (slotAt t 15).state == .theirs && (slotAt t 15).stopped == false) = true ∧
    gives (give peerHeader drove) (fun t => (slotAt t 15).state == .mine && (slotAt t 15).driven == none) = true ∧
    gives (give peerHeader (withLane 0 (lockedLane 9) attached5)) (fun t => (slotAt t 15).state == .theirs) = true ∧
    gives (give peerHeader driving)
      (fun t => (slotAt t 15).state == .theirs && (slotAt t 15).owner == some 9) = true := by decide +kernel

/-- Slot 15 of cycle 7 after the early verdict on the mark of cycle 8, and after its adoption; not before the cycle that
locked the lane, and no other slot. -/
theorem test_slotAfterAnEarlyMark :
    let at_ := fun (x : Lane) => withLane 0 x listening
    let later := { lockedLane 1 with expNum := some 9 }
    let give := fun (a : SlotAddr) s => exec (.slotArrival a 7 peerHeader (Vector.replicate 32 0)) s
    (slotIx (15 : SlotAddr)).val = 15 ∧ slotOfLane (at_ later) 15 7 = true ∧ ofLane (at_ later) 0 7 = false ∧
    slotOfLane (at_ { later with expNum := some 41, former := some 8 }) 15 7 = true ∧
    slotOfLane (at_ { later with lockAge := 0 }) 15 7 = false ∧ slotOfLane (at_ later) 14 7 = false ∧
    gives (give 15 (at_ later)) (fun t => (slotAt t 15).state == .theirs) = true ∧
    gives (give 14 (at_ later)) (fun t => (slotAt t 14).state == .unseen) = true := by decide +kernel

/-- A header of the trunk of station 9 with tag 2 to this station. -/
def trunkHeader9 : Header :=
  { owner := 9, sink := 5, tag := 2, seq := 0, role := .data, epoch := 0, width := 1 }

/-- SlotArrivalReachesBothBlocksOnceAttached: not delivered; free, faulty, foreign, of the trunk, stray. -/
theorem test_witness_SlotArrivalReachesBothBlocksOnceAttached :
    let s := withRx 0 acceptedRx (withLane 0 (lockedLane 9) attached5)
    let arrive := fun h s => rxArrival 15 7 (.valid h) (List.replicate 32 0) s
    ¬ (State.reset.loader.state = .listening ∨ State.reset.loader.state = .attached) ∧
    (laneAt attached5 0).state ≠ .locked ∧ s.loader.state = .attached ∧ (laneAt s (laneOf 0)).state = .locked ∧
    (laneAt s (laneOf 0)).expNum = some 7 ∧
    (learn 0 7 .free (countFault 0 .free s)).loader.state = .attached ∧
    (rxAt s 0).state ≠ .vacant ∧ (rxAt s 0).source = some 9 ∧ (rxAt s 0).tag = some 2 ∧
    ((rxAt (arrive trunkHeader9 s) 0).view.map (fun e => e.slot)) = [15] ∧ (rxAt (arrive trunkHeader9 s) 0).next = some 8 ∧
    (arrive { trunkHeader9 with tag := 3 } s).rx.strays.length = 1 ∧
    (arrive { trunkHeader9 with role := .spare } s).rx.strays = [] ∧
    (rxAt (arrive { trunkHeader9 with sink := 6 } s) 0).view = [] := by decide +kernel

/-- The receive engine's parts: a deadline that has come, and not; every lane done, and not; a full view with an entry
absent, and with none. -/
theorem test_witness_takeArrival :
    let open7 := fun view => withRx 0 { acceptedRx with view := view, next := some 7 } (withLane 0 (lockedLane 9) attached5)
    let past := fun pos => withRx 0 { acceptedRx with
        view := [newEntry 15 0 .data], next := some 7, lanePos := vset acceptedRx.lanePos 0 (some pos) }
      (withLane 0 (lockedLane 9) attached5)
    let full := fun n => (List.range 16).map (fun i => { newEntry (Fin.ofNat 64 i) 0 .data with absent := n })
    (rxAt (completeDue 0 11 1 (open7 [])) 0).next = none ∧
    (rxAt (completeDue 0 10 1 (open7 [])) 0).next = some 7 ∧ (rxAt (completeDone 0 1 (past (7, 14))) 0).next = some 7 ∧
    (rxAt (completeDone 0 1 (past (7, 15))) 0).next = some 8 ∧ (rxAt (completeDone 0 1 (past (8, 0))) 0).next = some 8 ∧
    (rxAt attached5 0).next = none ∧ (full 0).length = 16 ∧
    ((rxAt (seeHeader 0 20 3 .hold (open7 (full 0))) 0).view.map (fun e => e.slot)).contains 20 = false ∧
    ((rxAt (seeHeader 0 20 3 .hold (open7 (full 1))) 0).view.map (fun e => e.slot)).take 2 = [1, 2] ∧
    ((rxAt (seeHeader 0 15 3 .hold (past (7, 0))) 0).view.map (fun e => e.role)) = [.hold] ∧
    (rxAt (store 0 6 15 .free (past (7, 0))) 0).align = acceptedRx.align ∧
    (vget (rxAt (store 0 8 15 .free (past (7, 0))) 0).align 0).map (fun e => e.items) = some [(15, .free)] := by
  decide +kernel

/-- A station with a claim running on slot 15 for the request in service. -/
def claiming15 (n : Nat) : State :=
  withRequest (request [15] [] (some 24)) (withSlot 15 { slotIn .claiming with claim := n } (withLane 0 (lockedLane 9)
    attached5))

/-- SlotHeaderOutcomeSettlesTheClaim: every outcome for a claim, for a MINE slot, for a BARRED and another record; a
number the lane had before an adoption; the conditions of R8 failing. -/
theorem test_witness_SlotHeaderOutcomeSettlesTheClaim :
    let s := claiming15 2
    let sent := sentHeader s 15 7
    let mine := withSlot 15 { slotIn .mine with ownRun := 1 } s
    let clash := encodeHeader { spareHeader 5 with seq := 1 }
    (slotAt s 15).state = .claiming ∧ (slotAt (claiming15 1) 15).claim < 2 ∧ 2 ≤ (slotAt s 15).claim ∧
    (laneAt s (laneOf 15)).expNum = some 7 ∧ drives s (laneOf 15) 7 = true ∧ (laneAt s (laneOf 15)).r8Failed = none ∧
    (laneAt (withLane 0 { lockedLane 9 with former := some 3 } s) 0).former = some 3 ∧
    requestOf s 15 = some (request [15] [] (some 24)) ∧ claimInService s 15 = true ∧
    headerOutcomeOf sent (.ended sent) = .won ∧ headerOutcomeOf sent .abandoned = .abandoned ∧
    headerOutcomeOf sent (.ended (encodeHeader (spareHeader 4))) = .lostIn ∧
    headerOutcomeOf sent (.ended clash) = .lostAfter true ∧
    headerOutcomeOf sent (.ended (sent ^^^ 1)) = .lostAfter false ∧
    (slotAt (withSlot 15 (slotIn .mine) s) 15).state = .mine ∧ (slotAt s 15).ownRun = 0 ∧ (slotAt mine 15).ownRun ≠ 0 ∧
    (slotAt (withSlot 15 (slotIn .barred) s) 15).state = .barred ∧ (slotAt s 0).state = .unseen ∧
    gives (exec (.slotHeaderOutcome 15 7 (.ended clash)) (withSlot 15 (slotIn .barred) s))
      (fun t => (slotAt t 15).state == .barred && (slotAt t 15).ownRun == 1) = true ∧
    gives (exec (.slotHeaderOutcome 15 7 (.ended sent)) (withSlot 15 { slotIn .barred with ownRun := 1 } s))
      (fun t => (slotAt t 15).ownRun == 0) = true ∧
    gives (exec (.slotHeaderOutcome 15 7 (.ended clash)) (withSlot 15 { slotIn .barred with stopped := true } s))
      (fun t => (slotAt t 15).ownRun == 0 && (slotAt t 15).driven.isSome) = true ∧
    gives (exec (.slotHeaderOutcome 15 7 (.ended sent)) (withTx 0 { openTx [] with
      change := some (change .grow .claim none) } s)) (fun t => (slotAt t 15).state == .mine &&
        (txAt t 0).members == [probeMember 15] && t.slots.queue == []) = true ∧
    gives (exec (.slotHeaderOutcome 15 7 (.ended (encodeHeader (spareHeader 4)))) s)
      (fun t => (slotAt t 15).state == .theirs && (slotAt t 15).owner == some 4 && t.slots.lost == 1) = true ∧
    gives (exec (.slotHeaderOutcome 15 7 (.ended clash)) mine) (fun t => t.loader.reason == .idClash) = true ∧
    gives (exec (.slotHeaderOutcome 15 7 (.ended sent)) (withLane 0 { lockedLane 9 with r8Failed := some 7 } s))
      (fun t => (slotAt t 15).state == .barred && t.slots.abandoned == 1) = true := by decide +kernel

/-- SlotHeaderOutcomeSettlesTheClaim, what a slot carries: a claim, a spare slot, a member its trunk's staged cycle
lists; the payload only of a header WON; a release and a claim, of the cycle under way and of the next; not what an
election has overtaken. -/
theorem test_witness_headerDriven :
    let staged : StagedSlot := { slot := 15, header := { spareHeader 5 with sink := 9, role := .data }, payload := [1] }
    let entry : StagedCycle := { cycle := 7, epoch := 0, width := 1, slots := [staged], stale := false }
    let s := withTx 0 { openTx [] with staging := vset (openTx []).staging 7 (some entry) } (withSlot 15
      { slotIn .mine with assign := .member 0 0, driven := some { cycle := 7, won := true, counted := false } }
      (withLane 0 { lockedLane 9 with expNum := some 8 } (claiming15 0)))
    let claims := postClaim 0 1 (withSlot 3 (slotIn .free) (withLane 0 (lockedLane 9) attached5))
    (slotAt (claiming15 0) 15).state = .claiming ∧ sentHeader (claiming15 0) 15 7 = encodeHeader (spareHeader 5) ∧
    (slotAt s 15).assign = .member 0 0 ∧ headerDriven s 15 7 false = some staged.header ∧ payloadDriven s 15 7 = some [1] ∧
    payloadDriven (withSlot 15 { slotIn .mine with
      assign := .member 0 0, driven := some { cycle := 7, won := false, counted := false } } s) 15 7 = none ∧
    headerDriven (withSlot 15 { slotIn .mine with assign := .spare 0 } s) 15 7 false = some (spareHeader 5) ∧
    (slotAt (releaseSlot 15 s) 15).began = [(7, staged)] ∧ payloadDriven (releaseSlot 15 s) 15 7 = some [1] ∧
    headerDriven (releaseSlot 15 s) 15 7 true = some staged.header ∧ headerDriven (releaseSlot 15 s) 15 7 false = none ∧
    (slotAt (releaseSlot 15 s) 15).underWay = [7, 6] ∧ headerDriven (releaseSlot 15 s) 15 8 true = none ∧
    headerDriven (withSlot 15 (slotIn .barred) s) 15 7 true = none ∧
    headerDriven (withSlot 15 { slotIn .barred with underWay := [7] } s) 15 7 true = some (spareHeader 5) ∧
    (slotAt claims 3).underWay = [6] ∧ headerDriven claims 3 6 false = none ∧
    headerDriven claims 3 6 true = some (spareHeader 5) ∧ headerDriven claims 3 7 false = some (spareHeader 5) ∧
    cyclesUnderWay claims 0 = [6, 7] ∧ headerDriven (stopClaim 3 claims) 3 6 true = some (spareHeader 5) ∧
    headerDriven (stopClaim 3 claims) 3 7 true = none ∧
    headerDriven (staleStaging s) 15 7 false = some (spareHeader 5) ∧ (slotAt (staleStaging s) 15).began = [] := by
  decide +kernel

/-- ClaimNotDrivenBarsTheSlotAndTheBarEnds: a claim whose lane may not drive, and one that may; a bar ended and not. -/
theorem test_witness_ClaimNotDrivenBarsTheSlotAndTheBarEnds :
    let s := withLane 0 { lockedLane 9 with r8Failed := some 7 } (claiming15 0)
    (slotAt s 15).state = .claiming ∧ (laneAt s (laneOf 15)).expNum = some 7 ∧ drives s (laneOf 15) 7 = false ∧
    drives (claiming15 0) (laneOf 15) 7 = true ∧
    (slotAt (withSlot 15 (slotIn .barred) s) 15).bar = 0 ∧ (slotIn .free).state ≠ .barred ∧
    { slotIn .barred with bar := 1 }.bar ≠ 0 ∧
    gives (exec (.claimCycleNotDriven 15 7) s) (fun t => (slotAt t 15).state == .barred && (slotAt t 15).bar == 8) =
      true ∧
    gives (exec (.barCountdownExpiry 15) (withSlot 15 (slotIn .barred) s)) (fun t => (slotAt t 15).state == .free) =
      true := by decide +kernel

/-- EndOfAClaimIsHandedToItsRequest: a request in service and an ENDED one; a late win wanted and not, a late loss; a
MINE slot of each kind lost; a member of an OPEN and of a CLOSING record, and none. -/
theorem test_witness_EndOfAClaimIsHandedToItsRequest :
    let q : ClaimReq := { request [15] [] none with phase := .ended }
    let grows := withTx 0 { openTx [] with change := some { change .grow .probe (some 9) with late := 1 } }
      (withSlot 15 (slotIn .mine) attached5)
    let trunk := fun st => withTx 0 { openTx [member 15 .data] with
        state := st, change := some (change .shrink .switchWait none) }
      (withSlot 15 { slotIn .mine with assign := .member 0 0, handed := true } attached5)
    (claiming15 2).slots.queue = [] ++ request [15] [] (some 24) :: [] ∧
    (15 : SlotAddr) ∈ (request [15] [] (some 24)).running ∧ (request [15] [] none).phase ≠ .ended ∧
    (withRequest q (claiming15 2)).slots.queue = [] ++ q :: [] ∧ q.phase = .ended ∧ q.running.erase 15 = [] ∧
    (txAt (lateResult 0 (some 15) grows) 0).members = [probeMember 15] ∧
    (slotAt (lateResult 0 (some 15) grows) 15).assign = .member 0 0 ∧
    (slotAt (lateResult 1 (some 15) grows) 15).state = .barred ∧
    (txAt (lateResult 0 none grows) 0).change = none ∧
    (mineLost 15 (slotIn .mine) none (withRequest (request [] [15] none) attached5)).slots.queue =
      [request [] [] none] ∧
    ({ slotIn .mine with handed := true }).assign = .none ∧
    (txAt (mineLost 15 (slotAt (trunk .opened) 15) (some 4) (trunk .opened)) 0).epoch = 1 ∧
    ((txAt (memberLost 0 15 none (trunk .opened)) 0).change.map (fun c => c.phase)) = some .confirm ∧
    (txAt (memberLost 0 15 none (trunk .closing)) 0).epoch = 0 ∧
    (∀ m ∈ (txAt (trunk .opened) 1).members, m.slot ≠ 15) := by decide +kernel

/-- ClaimWaitExpiryEndsTheRequest: no request, a wait that runs, one that has ended; a result with and without slots,
and one no GROW takes; a full queue; a request that enters service and begins a claim, or ends for want of a slot; a
record with requests withdrawn. -/
theorem test_witness_ClaimWaitExpiryEndsTheRequest :
    let s := withRequest (request [] [15] (some 0)) (withSlot 15 (slotIn .mine) attached5)
    let grows := withTx 0 { openTx [] with change := some (change .grow .claim none) } (withSlot 15 (slotIn .mine)
      attached5)
    let free := withSlot 3 (slotIn .free) (withLane 0 (lockedLane 9) attached5)
    let full := attached5.modSlots (fun u => { u with queue := List.replicate 8 { request [] [] none with
      phase := .waiting } })
    inService listening = none ∧ (request [] [] (some 1)).wait ≠ some 0 ∧
    s.slots.queue = [] ++ request [] [15] (some 0) :: [] ∧ (request [] [15] (some 0)).phase = .inService ∧
    (request [] [15] (some 0)).wait = some 0 ∧
    gives (exec .claimWaitExpiry s) (fun t => t.slots.queue == []) = true ∧
    (txAt (growResult 0 [15] 0 grows) 0).members = [probeMember 15] ∧
    (txAt (growResult 0 [] 0 grows) 0).change = none ∧ (slotAt (growResult 1 [15] 0 grows) 15).state = .barred ∧
    8 ≤ full.slots.queue.length ∧ (postClaim 0 1 free).slots.queue = [request [3] [] (some 24)] ∧
    (slotAt (postClaim 0 1 free) 3).state = .claiming ∧ (postClaim 0 1 attached5).slots.queue = [] ∧
    (slotAt (withdrawClaims 0 (claiming15 0)) 15).state = .barred ∧
    (slotAt (withdrawClaims 0 (claiming15 0)) 15).stopped = true ∧ (withdrawClaims 0 s).slots.queue = [] ∧
    (slotAt (withdrawClaims 0 s) 15).state = .barred ∧ (∀ q ∈ s.slots.queue, q.tx ≠ 1) := by decide +kernel

/-- ArbiterPrefersByLaneThenSkewThenAddress: free slots on two lanes, of which the trunk's is preferred. -/
theorem test_witness_ArbiterPrefersByLaneThenSkewThenAddress :
    let s := withSlot 3 (slotIn .free) (withSlot 20 (slotIn .free) (withSlot 21 (slotIn .free)
      (withLane 1 (lockedLane 9) (withLane 0 (lockedLane 9) attached5))))
    (cfg s).skewLimit ≤ 6 ∧ eligible s (request [] [] none) 3 = true ∧ eligible s (request [] [] none) 20 = true ∧
    trunkLanes s (request [16] [] none) = [1] ∧ trunkLanes s (request [] [] none) = [] ∧
    skewWith (withLane 1 { lockedLane 9 with lag := some 3 } s) (request [16] [] none) 3 = 3 ∧
    skewWith (withLane 0 Lane.reset s) (request [] [] none) 3 = 0 ∧
    bestSlot s (request [] [] none) = some 3 ∧ bestSlot s (request [16] [] none) = some 20 := by decide +kernel

/-- An ATTACHED station with lane 0 LOCKED, slot 15 MINE, and a trunk open over it. -/
def trunk : State :=
  withTx 0 (openTx [member 15 .data]) (withSlot 15 { slotIn .mine with assign := .member 0 0, handed := true }
    (withPeer 8 0 (withLane 0 (lockedLane 9) attached5)))

/-- The same trunk with a pending change. -/
def changing (c : Change) : State := withTx 0 { openTx [member 15 .data] with change := some c } trunk

/-- No slot of the cycle has begun, and all have. -/
def noneBegun : Vector (Fin 17) 4 := Vector.replicate 4 0
def allBegun : Vector (Fin 17) 4 := Vector.replicate 4 16

/-- TrunkCycleFormationStagesTheCycle: a cycle to form; none, without members, with its slot begun, in another cycle and
where the cycle is staged. -/
theorem test_witness_TrunkCycleFormationStagesTheCycle :
    formable trunk 0 7 noneBegun = true ∧ formable attached5 0 7 noneBegun = false ∧
    formable trunk 0 7 allBegun = false ∧ formable trunk 0 9 noneBegun = false ∧ trunk.loader.state = .attached ∧
    gives (exec (.trunkCycleFormation 0 ⟨7, noneBegun⟩) trunk) (fun t => formable t 0 7 noneBegun == false &&
      (stagedAt (txAt t 0) 7).any (fun e => e.width == 1 &&
        (e.slots.map (fun x => x.payload)) == [(List.replicate 8 (parcelHeader 0 0)).flatten])) = true := by
  decide +kernel

/-- A member whose slot has begun: its header is staged with the others, and the slot keeps the SPARE it began with. -/
theorem test_formationAfterASlotHasBegun :
    let s := withTx 0 (openTx [member 3 .data, member 15 .data]) (withSlot 3 { slotIn .mine with
      assign := .member 0 0, handed := true } trunk)
    let begun := vset noneBegun 0 10
    formable s 0 7 begun = true ∧
    gives (exec (.trunkCycleFormation 0 ⟨7, begun⟩) s) (fun t =>
      (stagedAt (txAt t 0) 7).any (fun e => e.slots.map (fun x => x.slot) == [3, 15]) &&
      headerDriven t 3 7 true == some (spareHeader 5) &&
      (headerDriven t 15 7 true).map (fun h => h.width) == some 2) = true := by
  decide +kernel

/-- OfferWaitRetriesOrGivesUp: a wait that runs, none, and ended at attempts 1, 2 and 3, with the OPEN in flight. -/
theorem test_witness_OfferWaitRetriesOrGivesUp :
    let s := fun n w => (withTx 0 (offeringTx n w) attached5).modPort (fun p =>
      { p with outstanding := 1, inFlight := [{ code := 1, tag := 1, record := .tx 0 }] })
    (txAt (s 1 none) 0).state = .offering ∧ (txAt (s 1 none) 0).offerWait = none ∧
    (txAt (s 1 (some 64)) 0).offerWait = some 64 ∧ (txAt (s 2 (some 0)) 0).offerWait = some 0 ∧
    (txAt (s 2 (some 0)) 0).attempt = 2 ∧ (txAt (s 3 (some 0)) 0).attempt = 3 ∧
    (s 3 (some 0)).port.inFlight = [] ++ { code := 1, tag := 1, record := .tx 0 } :: [] ∧
    gives (exec (.offerWaitExpiry 0) (s 3 (some 0))) (fun t => (txAt t 0).state == .vacant && t.port.stage ==
      .sending (.response { code := 1, tag := 1, outcome := .noAnswer, result := [0, 2, 0, 0] }) 11 &&
        t.port.responses == []) = true ∧
    (s 3 (some 0)).slots.queue = [] ∧
    gives (exec (.offerWaitExpiry 0) ((s 3 (some 0)).modPort (fun p => { p with inFlight := [] }))) (fun t =>
      (txAt t 0).state == .vacant && t.port.stage == .idle) = true := by
  decide +kernel

/-- DeadlinesEndTheChange: a probe with and without a member shown good; CONFIRM; CLOSING; changes that have not
expired; a command in flight and none; a restore that was deferred. -/
theorem test_witness_DeadlinesEndTheChange :
    let s := withTx 0 { openTx [member 15 .probe] with
      change := some (change .grow .probe (some 0))
      lastTally := some { age := 0, info := some {
        echo := 0, good := 0x8000, skew := false, delinLocked := true, width := 0 } } } trunk
    let bare := withTx 0 { openTx [member 15 .probe] with change := some (change .grow .probe (some 0)) } trunk
    let flying := bare.modPort (fun p => { p with
      outstanding := 1, inFlight := [{ code := 2, tag := 1, record := .tx 0 }] })
    let closing := withTx 0 { openTx [] with
      state := .closing, change := some { closeChange none .sinkLost with deadline := some 0 } } trunk
    let deferring := withTx 0 { openTx [{ member 15 .shunned with restore := 3 }] with
      change := some (change .shrink .confirm (some 0)) } trunk
    (change .grow .probe (some 0)).deadline = some 0 ∧ (txAt s 0).members.zipIdx = [(member 15 .probe, 0)] ∧
    (0x8000#16).getMsbD 0 = true ∧ (txAt s 0).epoch = 0 ∧ (txAt bare 0).lastTally = some { age := 0, info := none } ∧
    (change .shrink .confirm (some 0)).kind ≠ .closeAbort ∧ (change .shrink .confirm (some 0)).phase = .confirm ∧
    (change .grow .probe (some 1)).deadline ≠ some 0 ∧ trunk.port.inFlight = [] ∧
    gives (exec (.probeWaitExpiry 0) s) (fun t => (txAt t 0).members == [member 15 .data] && (txAt t 0).epoch == 1) =
      true ∧
    gives (exec (.probeWaitExpiry 0) flying) (fun t => (txAt t 0).members == [] && (txAt t 0).change == none &&
      t.port.stage == .sending (.response { code := 2, tag := 1, outcome := .probeFailed, result := [0, 0xFF, 0, 0] })
        11) = true ∧
    gives (exec (.confirmWaitExpiry 0) (changing (change .shrink .confirm (some 0)))) (fun t =>
      (txAt t 0).change == none) = true ∧
    gives (exec (.confirmWaitExpiry 0) deferring) (fun t => (txAt t 0).members == [member 15 .data] &&
      (txAt t 0).restores == 1 && (txAt t 0).epoch == 1) = true ∧
    gives (exec (.closeWaitExpiry 0) closing) (fun t => (txAt t 0).state == .vacant) = true := by decide +kernel

/-- A trunk whose last tally has an age. -/
def tallyAge (n : Nat) : State :=
  withTx 0 { openTx [member 15 .data] with lastTally := some { age := n, info := none } } trunk

/-- SinkSilenceAndLoss: below, at and above each threshold, and a record that is not OPEN. -/
theorem test_witness_SinkSilenceAndLoss :
    (txAt attached5 0).state ≠ .opened ∧ (txAt (tallyAge 127) 0).lastTally = some { age := 127, info := none } ∧
    127 < 8 * (cfg trunk).tallyPeriod ∧ 8 * (cfg trunk).tallyPeriod ≤ 128 ∧ (txAt (tallyAge 128) 0).silent = false ∧
    gives (exec (.sinkSilenceExpiry 0) (tallyAge 128)) (fun t => (txAt t 0).silent) = true ∧
    gives (exec (.sinkLossExpiry 0) (tallyAge 2048)) (fun t => (txAt t 0).state == .closing &&
      (queued t (.tx 0)).any (fun e => e.dest == 9 && e.body == .close 2)) = true ∧
    gives (exec (.sinkLossExpiry 0) (tallyAge 2047)) (fun t => (txAt t 0).state == .opened) = true := by decide +kernel

/-- OpenTakesTheLowestVacantRecord: each bad argument, an absent sink, no record, a record. -/
theorem test_witness_OpenTakesTheLowestVacantRecord :
    let s := fun sink w => withCmd [1, 7, sink, w] trunk
    let full := { trunk with tx := vmap (fun r => { r with state := .opened }) trunk.tx }
    trunk.port.restart = false ∧ (s 9 0).port.cmdQueue = [{ bytes := [1, 7, 9, 0], len := 4 }] ∧
    (0 : Byte).toNat = 0 ∧ 62 < (63 : Byte).toNat ∧ (5 : Byte).toNat = (ownId trunk).toNat ∧ 16 < (17 : Byte).toNat ∧
    (8 : Fin 62).val + 1 = (9 : Byte).toNat ∧ (vget trunk.roster 8).present = true ∧
    (vget trunk.roster 61).present = false ∧ (∀ t : RecIx, (txAt full t).state ≠ .vacant) ∧
    (txAt trunk 1).state = .vacant ∧ (∀ k < (1 : RecIx), (txAt trunk k).state ≠ .vacant) ∧
    gives (exec .cmdOpen (s 9 16)) (fun t => (txAt t 1).state == .offering && (txAt t 1).tag == 1 &&
      (txAt t 1).initWidth == 16 && t.port.inFlight.length == 1) = true := by decide +kernel

/-- OpenTakesTheLowestVacantRecord, ACCEPT and DECLINE: no record; one no longer OFFERING; OFFERING with initial width 0
and 1; a decline. -/
theorem test_witness_acceptTrunk :
    let offers := fun n => (withTx 0 { offeringTx 1 none with initWidth := n } trunk).modPort (fun p =>
      { p with outstanding := 1, inFlight := [{ code := 1, tag := 1, record := .tx 0 }] })
    (∀ t : RecIx, (txAt trunk t).sink ≠ some 8) ∧ (txAt trunk 0).state ≠ .offering ∧
    ((txAt (offers 0) 0).state ≠ .vacant ∧ (txAt (offers 0) 0).sink = some 9 ∧ (txAt (offers 0) 0).tag = 2) ∧
    (txNotice 9 (.accept 2) (offers 0)).port.responses =
      [{ code := 1, tag := 1, outcome := .done, result := [0, 2, 0, 0] }] ∧
    (txAt (txNotice 9 (.accept 2) (offers 1)) 0).state = .opened ∧
    (txNotice 9 (.accept 2) (offers 1)).port.responses =
      [{ code := 1, tag := 1, outcome := .noSlots, result := [0, 2, 0, 0] }] ∧
    (txNotice 9 (.decline 2 .noRoom) (offers 1)).port.responses =
      [{ code := 1, tag := 1, outcome := .declined, result := [0, 2, 0, 2] }] ∧
    txNotice 9 (.accept 3) (offers 0) = offers 0 ∧ txNotice 9 (.accept 2) trunk = trunk := by decide +kernel

/-- VoluntaryChangesAreTestedInOrder, ShrinkAndDropMarkMembersLeaving: each refusal, and each change. -/
theorem test_witness_VoluntaryChangesAreTestedInOrder :
    let ok := fun _ : Nat => true
    refusal trunk 8 ok = some .badArg ∧ refusal attached5 0 ok = some .notOpen ∧
    refusal (changing (change .grow .claim none)) 0 ok = some .busy ∧
    refusal (withTx 0 { openTx [] with silent := true } trunk) 0 ok = some .sinkSilent ∧
    refusal (withTx 0 { openTx [] with lastEcho := some 31 } trunk) 0 ok = some .busy ∧
    refusal trunk 0 (fun m => decide (16 - m < 16)) = none ∧ refusal trunk 0 (fun m => decide (2 ≤ m)) = some .badArg ∧
    recOf (0 : Byte).toNat = some 0 ∧
    gives (exec .cmdGrow (withCmd [2, 7, 0, 15] trunk)) (fun t => (txAt t 0).change == none) = true ∧
    gives (exec .cmdShrink (withCmd [3, 7, 0, 1] trunk)) (fun t => (txAt t 0).members == [member 15 .leaving]) = true ∧
    gives (exec .cmdDrop (withCmd [4, 7, 0, 0] trunk)) (fun t => (txAt t 0).epoch == 1 && (txAt t 0).due) = true := by
  decide +kernel

/-- ShrinkAndDropMarkMembersLeaving: a SHRINK of one and a DROP of sequence 0 pass every test. -/
theorem test_witness_ShrinkAndDropMarkMembersLeaving :
    refusal (withCmd [3, 7, 0, 1] trunk) 0 (fun m => decide (1 ≤ 1 ∧ 1 ≤ m)) = none ∧
    refusal (withCmd [4, 7, 0, 0] trunk) 0 (fun m => decide (0 < m)) = none := by decide +kernel

/-- CloseHoldsEveryMember: no record, VACANT, CLOSING, OFFERING, OPEN. -/
theorem test_witness_CloseHoldsEveryMember :
    8 ≤ (8 : Byte).toNat ∧ (0 : RecIx).val = (0 : Byte).toNat ∧ (txAt attached5 0).state = .vacant ∧
    (txAt (withTx 0 { openTx [] with state := .closing } trunk) 0).state = .closing ∧
    (txAt (withTx 0 (offeringTx 1 none) trunk) 0).state = .offering ∧ (txAt trunk 0).state = .opened ∧
    gives (exec .cmdClose (withCmd [5, 7, 0] trunk)) (fun t => (txAt t 0).state == .closing &&
      (queued t (.tx 0)).any (fun e => e.body == .close 2)) = true := by decide +kernel

/-- CloseHoldsEveryMember, the parts: a change to abort and none; the end with a command and without; a DISMISS at each
state; a return with claims, members, frames and a parcel in progress. -/
theorem test_witness_closeTrunk :
    let flying := fun (code : Byte) (s : State) => s.modPort (fun p => { p with
      outstanding := 1, inFlight := [{ code := code, tag := 1, record := .tx 0 }] })
    let probing := flying 2 (withTx 0 { openTx [member 15 .data, member 14 .probe] with
      change := some (change .grow .probe (some 9)) } trunk)
    let closing := flying 5 (withTx 0 { openTx [] with
      state := .closing, change := some (closeChange (some 1) .closed) } trunk)
    let busy := (withTx 0 { openTx [member 15 .data] with enc := .frame { fillingFrame with len := 300 } 140 0 }
      (withRequest (request [] [] none) trunk)).modBuf (fun b => { b with
        txFree := 253, txUse := vset b.txUse 0 3, txQueue := vset b.txQueue 0 [fillingFrame] })
    (closeTrunk 0 none .sinkLost probing).port.responses =
      [{ code := 2, tag := 1, outcome := .aborted, result := [0, 0xFF, 0, 0] }] ∧
    (txAt (closeTrunk 0 none .sinkLost probing) 0).members = [member 15 .leaving] ∧
    (closeTrunk 0 none .closed (flying 1 (withTx 0 (offeringTx 1 none) trunk))).port.responses =
      [{ code := 1, tag := 1, outcome := .aborted, result := [0, 2, 0, 0] }] ∧
    (txAt closing 0).change = some (closeChange (some 1) .closed) ∧
    (txSent 0 (.close 2) closing).port.responses =
      [{ code := 5, tag := 1, outcome := .done, result := [0, 0xFF, 0, 0] }] ∧
    (txSent 0 (.close 2) closing).port.reports = [.trunkGone .transmit 0 2 9 .closed] ∧
    (txNotice 9 (.dismiss 2 .client) trunk).port.reports = [.trunkGone .transmit 0 2 9 .dismissed] ∧
    (txAt (txNotice 9 (.dismiss 2 .client) closing) 0).state = .vacant ∧
    txNotice 9 (.dismiss 3 .client) trunk = trunk ∧ txEnd 1 .dismissed trunk = trunk ∧
    heldBlocks (.frame { fillingFrame with len := 300 } 140 0) = 2 ∧
    (returnVacant 0 busy).buf.txFree = 256 ∧ (returnVacant 0 busy).buf.flushed = 1 ∧
    (returnVacant 0 busy).slots.queue = [] ∧ (slotAt (returnVacant 0 busy) 15).state = .barred := by decide +kernel

/-- DismissDrainsTheRecord: no record, VACANT, ACCEPTED. -/
theorem test_witness_DismissDrainsTheRecord :
    let s := withCmd [6, 7, 0] (withRx 0 acceptedRx attached5)
    s.port.cmdQueue = [{ bytes := [6, 7, 0], len := 3 }] ∧ (rxAt s 0).state = .accepted ∧
    (rxAt attached5 0).state ≠ .accepted ∧
    gives (exec .cmdDismiss s) (fun t => (rxAt t 0).state == .draining && (rxAt t 0).dismiss.isSome &&
      (queued t (.rx 0)).any (fun e => e.body == .dismiss 2 .client)) = true := by decide +kernel

/-- DismissDrainsTheRecord, a CLOSE: to all, of no record, of an ACCEPTED one with an empty queue and with a frame; a
frame in progress gives its blocks back. -/
theorem test_witness_drain :
    let d : Delin := { Delin.reset with state := .locked, place := .payload 1, frame := some {
      len := 9, cls := 0, data := [1], blocks := 1, crc := 0 } }
    let s := withRx 0 { acceptedRx with delin := d } attached5
    let full := s.modBuf (fun b => { b with
      rxFree := 254, rxUse := vset b.rxUse 0 2, rxQueue := vset b.rxQueue 0 [{ cls := 0, data := [1] }] })
    rxNotice 9 63 (.close 2) s = s ∧ rxNotice 9 5 (.close 3) s = s ∧ (rxAt s 0).source = some 9 ∧ ownId s = 5 ∧
    (rxAt (rxNotice 9 5 (.close 2) s) 0).state = .vacant ∧ (rxAt (rxNotice 9 5 (.close 2) full) 0).state = .draining ∧
    (rxNotice 9 5 (.close 2) full).buf.rxFree = 255 ∧
    (rxNotice 9 5 (.close 2) full).port.reports = [.trunkGone .receive 0 2 9 .closed] := by decide +kernel

/-- DismissDeadlineAndStrayExpiry: a stray header: new, of the next cycle, at run 16, refused, in a full list. -/
theorem test_witness_takeStray :
    let stray : Stray := { owner := 9, tag := 2, run := 15, last := 6, quiet := 3, spacing := 0 }
    let s := fun l => { attached5 with rx := { attached5.rx with strays := l } }
    let full := fun (n : Nat) => withQueue ((List.range n).map (fun i =>
      entry (.decline (Fin.ofNat 4 i)) (.decline (BitVec.ofNat 4 i) .noRoom))) (s [stray])
    ((takeStray 9 2 7 attached5).rx.strays.map (fun y => y.run)) = [1] ∧
    (takeStray 9 2 7 (s [stray])).rx.strays.map (fun y => (y.run, y.spacing)) = [(16, 256)] ∧
    (takeStray 9 2 7 (s [stray])).rx.straysDismissed = 1 ∧
    (takeStray 9 2 6 (s [stray])).rx.strays.map (fun y => (y.run, y.quiet)) = [(15, 0)] ∧
    (takeStray 9 2 9 (s [stray])).rx.strays.map (fun y => y.run) = [1] ∧
    (takeStray 9 2 7 (full 4)).rx.strays.map (fun y => (y.run, y.spacing)) = [(16, 0)] ∧
    (takeStray 8 2 7 (s [stray, stray, stray, stray])).rx.straysIgnored = 1 := by decide +kernel

/-- DismissDeadlineAndStrayExpiry: no dismiss, one whose deadline runs, one whose deadline has ended with its command in
flight and without; a stray that leaves. -/
theorem test_witness_DismissDeadlineAndStrayExpiry :
    let s := fun n => (withRx 0 { RxRec.reset with state := .draining, dismiss := some { tag := 7, deadline := n } }
      attached5).modPort (fun p => { p with outstanding := 1, inFlight := [{ code := 6, tag := 7, record := .rx 0 }] })
    let stray : Stray := { owner := 9, tag := 2, run := 1, last := 7, quiet := 16, spacing := 0 }
    (rxAt attached5 0).dismiss = none ∧ (rxAt (s 1) 0).dismiss = some { tag := 7, deadline := 1 } ∧
    (s 0).port.inFlight = [] ++ { code := 6, tag := 7, record := .rx 0 } :: [] ∧ attached5.port.inFlight = [] ∧
    rxSent 0 (.dismiss 2 .client) attached5 = attached5 ∧
    (rxAt (rxSent 0 (.dismiss 2 .client) (s 9)) 0).state = .vacant ∧
    gives (exec (.dismissDeadlineExpiry 0) (s 0)) (fun t => (rxAt t 0).state == .vacant && t.port.stage ==
      .sending (.response { code := 6, tag := 7, outcome := .done, result := [0, 0xFF, 0, 0] }) 11) = true ∧
    gives (exec (.strayEntryExpiry 9 2) { attached5 with rx := { attached5.rx with strays := [stray] } })
      (fun t => t.rx.strays == []) = true := by decide +kernel

/-- ClientInputBytesAreParsed: against the hold; each parse state; each kind of header. -/
theorem test_witness_ClientInputBytesAreParsed :
    24 ≤ (attached5.modPort (fun p => { p with outstanding := 24 })).port.outstanding ∧
    (attached5.modPort (fun p => { p with outstanding := 23 })).port.outstanding < 24 ∧
    attached5.port.parse = .between ∧ (withParse (.header [0x10, 0]) attached5).port.parse = .header [0x10, 0] ∧
    (0x1F : Byte).toNat / 16 = 1 ∧ (0x20 : Byte).toNat / 16 = 2 ∧ (0x50 : Byte).toNat / 16 = 5 ∧
    (withParse (.data 2 (some 0)) (attached5.modBuf (fun b => { b with
      txQueue := vset b.txQueue 0 [fillingFrame] }))).buf.txQueue[0] = [] ++ [fillingFrame] ∧
    (withParse (.command 2 2 []) attached5).port.parse = .command 2 2 [] ∧
    gives (exec (.unknownKindHeader 3) (withParse (.header [0x50, 0, 0]) attached5)) (fun t =>
      t.port.parse == .data 3 none && t.port.unknownKind == 1) = true ∧
    gives (exec .heldStrobe (attached5.modPort (fun p => { p with outstanding := 24 }))) (fun t =>
      t.port.heldStrobes == 1) = true := by decide +kernel

/-- DataFrameIsAdmittedThenCompleted: admitted at 1536 bytes; each reason at its boundary, with the flag clear and set;
the last byte of a frame and of a dropped one. -/
theorem test_witness_DataFrameIsAdmittedThenCompleted :
    let h := fun i hi => withParse (.header [i, 7, hi]) trunk
    let set := fun (s : State) => s.modBuf (fun b => { b with flags := vset b.flags 8 true })
    (txAt trunk 0).state = .opened ∧ (1536 + 127) / 128 ≤ trunk.buf.txFree ∧ (cfg trunk).txQuota = 64 ∧
    (0x10 : Byte).toNat / 16 = 1 ∧ (0x18 : Byte).toNat % 16 = 8 ∧ (txAt trunk 1).state ≠ .opened ∧
    vget trunk.buf.flags 8 = false ∧ vget (set trunk).buf.flags 8 = true ∧
    gives (exec (.dataFrameHeader 0) (withParse (.header [0x10, 7]) trunk)) (fun t =>
      t.port.parse == .header [0x10, 7]) = true ∧
    gives (exec (.dataFrameHeader 0) (h 0x20 0)) (fun t => t.port.parse == .header [0x20, 7, 0]) = true ∧
    gives (exec (.dataFrameHeader 0) ((h 0x10 6).modPort (fun p => { p with outstanding := 24 }))) (fun t =>
      t.port.parse == .header [0x10, 7, 6] && t.buf.txFree == 256) = true ∧
    gives (exec (.dataFrameHeader 0) (h 0x10 6)) (fun t => t.buf.txFree == 244 && vget t.buf.txUse 0 == 12 &&
      t.port.parse == .data 1536 (some 0)) = true ∧
    gives (exec (.dataFrameHeader 1) (h 0x10 6)) (fun t => (txAt t 0).discLength == 1 && vget t.buf.flags 0) = true ∧
    gives (exec (.dataFrameHeader 1) (h 0x11 0)) (fun t => (txAt t 1).discNotOpen == 1) = true ∧
    gives (exec (.dataFrameHeader 1) (h 0x18 0)) (fun t => t.buf.unnamed == 1 && vget t.buf.flags 8) = true ∧
    gives (exec (.dataFrameHeader 1) ((h 0x10 0).modBuf (fun b => { b with txUse := vset b.txUse 0 64 })))
      (fun t => (txAt t 0).discFull == 1) = true ∧
    gives (exec (.dataFrameLastByte 0xAB) (withParse (.data 1 (some 0)) (trunk.modBuf (fun b => { b with
      txQueue := vset b.txQueue 0 [fillingFrame] })))) (fun t => vget t.buf.txQueue 0 ==
        [{ fillingFrame with data := [0xAB], complete := true }] && t.port.parse == .between) = true := by decide +kernel

/-- CommandReceivedJoinsTheQueue: an empty body and a body of two bytes, with room and without. -/
theorem test_witness_CommandReceivedJoinsTheQueue :
    let one := withParse (.command 1 2 [11]) attached5
    let full := one.modPort (fun p => { p with cmdQueue := List.replicate 8 { bytes := [8, 1], len := 2 } })
    (0x20 : Byte).toNat / 16 = 2 ∧ one.port.parse = .command 1 2 [11] ∧ one.port.cmdQueue.length < 8 ∧
    8 ≤ full.port.cmdQueue.length ∧
    gives (exec (.commandReceived 4) one) (fun t => t.port.cmdQueue == [{ bytes := [11, 4], len := 2 }]) = true ∧
    gives (exec (.commandReceived 4) full) (fun t => t.port.queueFull == 1 && t.port.outstanding == 1 &&
      t.port.stage == .sending (.response { code := 11, tag := 4, outcome := .queueFull, result := [] }) 7) = true ∧
    gives (exec (.commandReceived 0) (withParse (.header [0x20, 0, 0]) attached5))
      (fun t => t.port.cmdQueue == [{ bytes := [], len := 0 }]) = true := by decide +kernel

/-- HeadOfTheCommandQueueIsTested: nothing to take; a restart pending; each way the form test fails; NOT_READY. -/
theorem test_witness_HeadOfTheCommandQueueIsTested :
    (attached5.modPort (fun p => { p with restart := true })).port.restart = true ∧ attached5.port.cmdQueue = [] ∧
    argumentBytes.lookup (12 : Byte) = none ∧ argumentBytes.lookup (11 : Byte) = some 0 ∧
    argumentBytes.lookup (1 : Byte) = some 2 ∧ listening.loader.state ≠ .attached ∧ (1 : Byte) ∉ ([7, 10, 11] : List Byte) ∧
    gives (exec .unknownCommand (withCmd [12, 9] listening)) (fun t => t.port.stage ==
      .sending (.response { code := 12, tag := 9, outcome := .badArg, result := [] }) 7) = true ∧
    gives (exec .unknownCommand (withCmd [1] listening)) (fun t => t.port.stage ==
      .sending (.response { code := 0, tag := 0, outcome := .badArg, result := [] }) 7) = true ∧
    gives (exec .cmdOpen (withCmd [1, 9, 3, 0] listening)) (fun t => t.port.stage ==
      .sending (.response { code := 1, tag := 9, outcome := .notReady, result := [] }) 7) = true := by decide +kernel

/-- StatusCommandsAnswerFromTheState: a bad index, a bad direction, each direction, ROSTER, SLOTS. -/
theorem test_witness_StatusCommandsAnswerFromTheState :
    8 ≤ (8 : Byte).toNat ∧ 2 ≤ (2 : Byte).toNat ∧ (7 : RecIx).val = (7 : Byte).toNat ∧ (1 : Byte).toNat ≤ 1 ∧
    (withCmd [7, 9, 0, 7] listening).port.cmdQueue = [{ bytes := [7, 9, 0, 7], len := 4 }] ∧
    (withCmd [8, 9] attached5).port.cmdQueue = [{ bytes := [8, 9], len := 2 }] ∧
    (rosterBytes trunk).length = 496 ∧ itemBytes 8 4 (rosterBytes trunk) = [1, 0, 0, 0xFF, 0, 1, 1, 0] ∧
    (slotsBytes trunk).length = 320 ∧ itemBytes 5 15 (slotsBytes trunk) = [3, 63, 0, 0, 0] ∧
    txFields trunk 0 = [2, 2, 9, 0, 0, 0, 1, 0, 1, 0xFF, 0xFF, 0, 1, 15, 0, 1, 0, 0xFF, 0, 0, 0, 0, 0, 0, 0, 0, 0,
      0, 0, 0xFF, 0, 0, 0, 0, 0xFF, 0, 0, 0, 0, 0] ∧
    rxFields (withRx 0 { acceptedRx with view := [viewEntry] } trunk) 0 =
      [1, 9, 2, 0, 0, 0, 1, 0, 15, 0, 0, 2, 0, 0, 0, 0, 0, 0, 0, 0, 0] := by decide +kernel

/-- CountersAnswersAndClears: each flag. -/
theorem test_witness_CountersAnswersAndClears :
    (0 : Byte).toNat = 0 ∧ (1 : Byte).toNat = 1 ∧ 2 ≤ (2 : Byte).toNat ∧
    (withCmd [10, 9, 1] listening).port.cmdQueue = [{ bytes := [10, 9, 1], len := 3 }] ∧
    (countersBytes listening).length = 292 ∧ countersBytes trunk = countsOf trunk := by decide +kernel

/-- RestartTakesEffectWhenItsAnswerHasLeft: the command; its answer's end; another answer's end; no answer. -/
theorem test_witness_RestartTakesEffectWhenItsAnswerHasLeft :
    let restarting : Response := { code := 11, tag := 9, outcome := .restarting, result := [] }
    (withCmd [11, 9] listening).port.cmdQueue = [{ bytes := [11, 9], len := 2 }] ∧
    (withStage (.sending (.response restarting) 1) attached5).port.stage = .sending (.response restarting) 1 ∧
    someResponse.outcome ≠ .restarting ∧ attached5.port.stage = .idle ∧
    gives (exec .responseSent (withStage (.sending (.response restarting) 1) attached5)) (fun t =>
      t.loader == State.reset.loader && t.roster == State.reset.roster) = true ∧
    gives (exec .responseSent ((withStage (.sending (.response someResponse) 1) attached5).modPort (fun p =>
      { p with outstanding := 1 }))) (fun t => t.port.outstanding == 0 && t.port.stage == .idle) = true := by
  decide +kernel

/-- ReportsAndDataFramesLeave: a DISCARD and another report; a block, a frame's end, the last frame of a draining
record, padding, nothing. -/
theorem test_witness_ReportsAndDataFramesLeave :
    let s := (withStage (.sending (.data 0 7 129) 1) (withRx 0 { RxRec.reset with state := .draining } attached5)).modBuf
      (fun b => { b with rxFree := 255, rxUse := vset b.rxUse 0 1,
                         rxQueue := vset b.rxQueue 0 [{ cls := 7, data := List.replicate 129 0 }] })
    (8 : Fin 9).val = min (15 : BitVec 4).toNat 8 ∧ (rxAt s 0).state = .draining ∧ (rxAt s 0).dismiss = none ∧
    (vget s.buf.rxQueue 0).length ≤ 1 ∧ ¬ (rxAt attached5 0).state = .draining ∧
    gives (exec .dataFrameSent s) (fun t => (rxAt t 0).state == .vacant && (rxAt t 0).delivered == 1 &&
      t.buf.rxFree == 256 && vget t.buf.rxUse 0 == 0) = true ∧
    gives (exec .receiveBlockSent (withStage (.sending (.data 0 7 129) 133) s)) (fun t => t.buf.rxFree == 256 &&
      t.port.stage == .sending (.data 0 7 129) 1) = true ∧
    gives (exec .reportSent (withStage (.sending (.report (.discard 15 .notOpen 1 1)) 1) (attached5.modBuf (fun b =>
      { b with flags := vset b.flags 8 true })))) (fun t => vget t.buf.flags 8 == false && t.port.stage == .idle) =
      true ∧
    gives (exec .dataFrameSent (withStage (.sending .padding 1) attached5)) (fun t => t.port.stage == .idle) = true := by
  decide +kernel

/-- PostedReportJoinsOrIsCountedLost: 30 and 31 ordinary reports, and a REPORTS_LOST among them. -/
theorem test_witness_PostedReportJoinsOrIsCountedLost :
    let ordinary := fun n => List.replicate n someReport
    ((ordinary 30).filter (fun r => !r.isLost)).length < 31 ∧
    31 ≤ ((ordinary 31).filter (fun r => !r.isLost)).length ∧ (∀ r ∈ ordinary 31, r.isLost = false) ∧
    31 ≤ ((ordinary 30 ++ .reportsLost 1 :: [someReport]).filter (fun r => !r.isLost)).length ∧
    (Report.reportsLost 255).body = [19, 255] := by decide +kernel

/-- TallyShunsAndRestoresMembers: no change, and a SWITCH-WAIT; a tally of the epoch that shuns, and of another. -/
theorem test_witness_TallyShunsAndRestoresMembers :
    let b : TallyBody := { tag := 2, echo := 0, good := 0, skew := false, delinLocked := true, width := 1 }
    (txAt trunk 0).state = .opened ∧ (txAt trunk 0).change = none ∧
    (txAt (changing (change .shrink .switchWait none)) 0).change = some (change .shrink .switchWait none) ∧
    b.echo = (txAt trunk 0).epoch ∧
    (txAt (takeTally 0 b trunk) 0).members = [member 15 .shunned] ∧ (txAt (takeTally 0 b trunk) 0).epoch = 1 ∧
    (txAt (takeTally 0 { b with echo := 31 } trunk) 0).members = [member 15 .data] := by decide +kernel

/-- TallyShunsAndRestoresMembers: OFFERING; CLOSING with the sink silent; CONFIRM; PROBE, full and not; a restore; a
sender without a trunk. -/
theorem test_witness_takeTally :
    let b : TallyBody := { tag := 2, echo := 0, good := 0x8000, skew := false, delinLocked := true, width := 1 }
    let closing := withTx 0 { openTx [] with state := .closing, silent := true } trunk
    let probing := withTx 0 { openTx [member 15 .probe] with change := some (change .grow .probe (some 9)) } trunk
    let mending := withTx 0 (openTx [{ member 15 .shunned with restore := 2 }]) trunk
    (txAt (takeTally 0 b (withTx 0 (offeringTx 1 none) trunk)) 0).state = .opened ∧
    (txAt (takeTally 0 b closing) 0).silent = false ∧ (takeTally 0 b closing).port.reports = [.sinkHeard 0 9] ∧
    (txAt (takeTally 0 b (changing (change .grow .confirm (some 9)))) 0).change = none ∧
    (change .grow .confirm (some 9)).added ≠ (change .grow .confirm (some 9)).arg ∧
    (txAt (takeTally 0 b probing) 0).members = [member 15 .data] ∧
    (txAt (takeTally 0 { b with good := 0 } probing) 0).members = [member 15 .probe] ∧
    (txAt (takeTally 0 b mending) 0).members = [member 15 .data] ∧ (txAt (takeTally 0 b mending) 0).restores = 1 ∧
    (takeTally 0 b mending).port.reports = [.memberRestored 0 15 0 1] ∧
    txNotice 8 (.tally b) trunk = trunk ∧ txNotice 9 (.tally b) trunk = takeTally 0 b trunk := by decide +kernel

/-- CompletedCycleIsJudged: a cycle of each kind. -/
theorem test_witness_CompletedCycleIsJudged :
    let h := fun seq w => some (Item.header seq .data 3 w [1])
    cycleKind [none, none] = .blank ∧ cycleKind [h 1 2, h 0 2] = .consistent 3 2 [1, 1] ∧
    cycleKind [h 0 2, none] = .faulty ∧ cycleKind [some .free, some (.foreign 4)] = .empty ∧
    cycleKind [some (.header 0 .hold 3 0 [])] = .consistent 3 0 [] := by decide +kernel

/-- CompletedCycleIsJudged: each reason of R115 and none; each kind taken; an entry that leaves; a cycle that completes
with and without a TALLY, in an empty view; a lane's handing, in each case. -/
theorem test_witness_completeNext :
    let e := { acceptedRx with view := [{ viewEntry with health := .bad, clean := 7, absent := 15 }], next := some 7 }
    let put := fun e => withRx 0 e (withLane 0 (lockedLane 9) attached5)
    let why := fun kind item => uncleanReason (put e) e 7 kind 0 item
    let head := fun role pay => some (Item.header 15 role 3 1 pay)
    let arrived := fun i => { e with align := vset e.align 7 (some { cycle := 7, items := [(0, i)] }) }
    let handed := fun e lag c n => rxHanded 0 0 c n (withLane 0 { lockedLane 9 with lag := some lag } (put e))
    let aligned := { e with aligned := vset (vset e.aligned 0 (some 0)) 1 (some 2),
                            view := [newEntry 0 0 .data, newEntry 16 1 .data] }
    uncleanReason attached5 e 7 .blank 0 none = some .lane ∧ why .blank none = some .late ∧
    why .blank (some .faulty) = some .header ∧ why (.consistent 4 1 []) (head .data []) = some .header ∧
    why .blank (some (.foreign 8)) = some .owner ∧ why .blank (some (.foreign 9)) = some .absent ∧
    why .blank (some .free) = some .absent ∧ why .faulty (head .probe []) = some .probe ∧
    why .faulty (head .data []) = none ∧
    uncleanReason (withLane 1 { lockedLane 9 with lag := some 60 } (put e)) e 7 .faulty 16 (head .data []) =
      some .skew ∧
    (rxAt (takeCycle 0 .faulty (put e)) 0).faults = 1 ∧ takeCycle 0 .empty (put e) = put e ∧
    (takeCycle 0 (.consistent 3 1 []) (put e)).port.reports = [.widthChanged 0 0 1 3] ∧
    (rxAt (judgeView 0 7 .faulty [] (put e)) 0).view = [] ∧
    (rxAt (judgeView 0 7 .faulty [(0, .header 15 .data 3 1 [])] (put e)) 0).view.length = 1 ∧
    viewSkew (put e) e.view = 0 ∧ viewSkew (withLane 1 { lockedLane 9 with lag := some 60 } (put e)) aligned.view = 60 ∧
    (rxAt (completeNext 0 (put (arrived (.header 15 .data 0 0 [])))) 0).next = some 8 ∧
    (queued (completeNext 0 (put (arrived (.header 15 .hold 0 0 [])))) (.rx 0)).isSome = true ∧
    (queued (completeNext 0 (put e)) (.rx 0)).isNone = true ∧
    (rxAt (completeNext 0 (put { e with view := [] })) 0).next = none ∧ completeNext 0 attached5 = attached5 ∧
    rxHanded 0 0 true true attached5 = attached5 ∧ (rxAt (handed e 3 true false) 0).realigns = 1 ∧
    (rxAt (handed aligned 3 false false) 0).realigns = 1 ∧ (rxAt (handed aligned 0 false true) 0).realigns = 1 ∧
    (rxAt (handed aligned 0 false false) 0).realigns = 0 ∧ (rxAt (handed e 3 false true) 0).realigns = 0 ∧
    vget (rxAt (handed e 3 false true) 0).aligned 0 = some 3 ∧
    (rxAt (rxHanded 0 3 false true (put e)) 0).realigns = 0 := by decide +kernel

/-- NoticeFailingTheBodyTestIsUnknown: an OFFER with attempt 0 from a named station, rightly checked, on a LOCKED lane;
a mark with a flag bit set. -/
theorem test_witness_NoticeFailingTheBodyTestIsUnknown :
    let word := encodeNotice 9 5 (.offer 2 0)
    driving.loader.state = .listening ∧ (laneAt driving 0).state = .locked ∧ (laneAt driving 0).expNum = some 7 ∧
    noticeCheckOk word = true ∧
    field word 106 6 = 0x3F#6 ∧ (field word 2 6).toNat = 9 ∧ (field word 12 6).toNat = 5 ∧
    (field word 8 4).toNat = 3 ∧ (field word 0 2).toNat = 1 ∧ (field word 22 4).toNat = 0 ∧
    (let good := encodeNotice 9 5 (.tally { tag := 2, echo := 1, good := 3, skew := true, delinLocked := true
                                            width := 16 });
      noticeCheckOk good = true ∧ (field good 45 5).toNat = 16) ∧
    field (encodeMark 4 0 7 false ||| 0x01000000) 33 7 ≠ 0#7 := by decide +kernel

/-- LayoutsReadBackAsWritten: a notice, a header and a length at their limits. -/
theorem test_witness_LayoutsReadBackAsWritten :
    (62 : StationId).toNat ∉ [0, 63] ∧ (63 : StationId).toNat ≠ 0 ∧ 1 ≤ (3 : BitVec 4).toNat ∧
    (3 : BitVec 4).toNat ≤ 3 ∧ (16 : BitVec 5).toNat ≤ 16 ∧ (64 : BitVec 7).toNat ≤ 64 ∧ (8 : BitVec 4).toNat ≤ 8 ∧
    readParcelHeader (parcelHeader 1536 255) = some (1536, 255) := by decide +kernel

/-- FramePassesFromEncoderToReceiveQueue: an encoder with a complete frame and with a filling one; a delineator at a
parcel's start with one block. -/
theorem test_witness_FramePassesFromEncoderToReceiveQueue :
    let f : TxFrame := { len := 1, cls := 7, data := [0xAB], complete := true }
    let x : EncCtx := { enc := .between, queue := [f], returned := 0, sent := 0 }
    let d : DelCtx := {
      d := { state := .locked, store := [], cand := none, place := .header [], frame := none }
      free := 1, use := 15, quota := 16, queue := [], badChecks := 0, dropped := 0 }
    f.data.length = f.len ∧ fillingFrame.complete = false ∧ AtBoundary d.d ∧
    (encodeBytes 9 x).2 = parcelOf 7 [0xAB] ∧ (1 + 127) / 128 ≤ d.free ∧ d.use + (1 + 127) / 128 ≤ d.quota ∧
    (feed 9 (parcelOf 7 [0xAB]) d).queue = [{ cls := 7, data := [0xAB] }] := by unfold AtBoundary; decide +kernel

/-- FramePassesFromEncoderToReceiveQueue: a parcel split; a block refused, for want of a block and of quota; a failing
check; an invalid header; a search that keeps three bytes, finds a candidate, and locks; a reset event. -/
theorem test_witness_feed :
    let d : DelCtx := {
      d := { state := .locked, store := [], cand := none, place := .header [], frame := none }
      free := 1, use := 15, quota := 16, queue := [], badChecks := 0, dropped := 0 }
    let hunts : DelCtx := { d with d := Delin.reset }
    let fill := parcelHeader 0 0
    let bytes := parcelOf 7 [0xAB]
    let held : Delin := { Delin.reset with state := .locked, place := .payload 1, frame := some {
      len := 9, cls := 0, data := [1], blocks := 1, crc := 0 } }
    let s := (withRx 0 { acceptedRx with delin := held } attached5).modBuf (fun b => { b with
      rxFree := 255, rxUse := vset b.rxUse 0 1 })
    bytes.take 5 ++ bytes.drop 5 = parcelOf 7 [0xAB] ∧
    (feed 4 (bytes.drop 5) (feed 5 (bytes.take 5) d)).queue = [{ cls := 7, data := [0xAB] }] ∧
    feed 9 bytes { d with free := 0 } = { d with free := 0, dropped := 1 } ∧
    feed 9 bytes { d with use := 16 } = { d with use := 16, dropped := 1 } ∧
    ([0, 0, 0, 0] : List Byte) ≠ bytes32 (crc32 [0xAB]) ∧
    feed 9 (parcelHeader 1 7 ++ [0xAB] ++ [0, 0, 0, 0]) d = { d with badChecks := 1 } ∧
    readParcelHeader [9, 9, 9, 9] = none ∧ (feed 5 [9, 9, 9, 9] d).d.store = [9, 9, 9] ∧
    hunts.d.state ≠ .locked ∧ (feed 9 [9, 9, 9, 9] hunts).d.store = [9, 9, 9] ∧
    (feed 9 ([9] ++ fill) hunts).d.state = .verify ∧ (feed 9 ([9] ++ fill) hunts).d.cand = some (0, 0) ∧
    (feed 9 ([9] ++ fill ++ fill ++ [9]) hunts).d.place = .header [9] ∧
    (feed 20 (fill ++ bytes) hunts).queue = [{ cls := 7, data := [0xAB] }] ∧
    (resetDelin 0 s).buf.rxFree = 256 ∧ (rxAt (resetDelin 0 s) 0).delin = Delin.reset ∧
    (rxAt (delineate 0 fill attached5) 0).delin.state = .verify ∧ delineate 0 [] attached5 = attached5 := by
  decide +kernel

/-- EveryStepKeepsTheInvariants: reset meets all three, and so does a station with a trunk. -/
theorem test_witness_EveryStepKeepsTheInvariants :
    State.CommandsKept attached5 ∧ State.ReportsBounded attached5 ∧ State.StillUnlessRunning attached5 := by
  unfold State.CommandsKept State.ReportsBounded State.StillUnlessRunning
  exact ⟨by decide +kernel, by decide +kernel, Or.inl (Or.inr rfl)⟩

/-- StepRunsTheFrontCommand, run: the front of two commands. -/
theorem test_step_front :
    gives (step { listening with pending := [.heldStrobe, .cmdOpen] }) (fun t => t.pending == [.cmdOpen]) = true := by
  decide +kernel


end Sys2Proof.Tests
end

section
/-! SUPPORT. The facts that the statements of the slot bus share: how a step of a block runs, what each condition on the
state says, what the changes of one record come to when they are read or done again, what the searches of a fixed table
find, and entry to FAILED. -/

namespace Sys2Proof.Machine

/-! ### One step of a block -/

/-- Outside reset a step of a block is its effect, settled. -/
theorem run_of_released {s : State} (h : s.pins.resetAsserted = false) (f : State → State) :
    run f s = .next (settle (f s)) := by simp [run, h]

theorem exec_markOutcome (l : LaneNo) (result : ReadBack 64) (s : State) :
    exec (.markOutcome l result) s = execMarkOutcome l result s := rfl

theorem exec_noticeOutcome (l : LaneNo) (result : ReadBack 112) (s : State) :
    exec (.noticeOutcome l result) s = execNoticeOutcome l result s := rfl

theorem exec_noticeArrival (l : LaneNo) (p : Fin 2) (c : CycleNo) (word : BitVec 112) (s : State) :
    exec (.noticeArrival l p c word) s = execNoticeArrival l p c word s := rfl

theorem exec_slotArrival (a : SlotAddr) (c : CycleNo) (header : BitVec 40) (payload : Vector Byte 32) (s : State) :
    exec (.slotArrival a c header payload) s = execSlotArrival a c header payload s := rfl

theorem exec_slotHeaderOutcome (a : SlotAddr) (c : CycleNo) (result : ReadBack 40) (s : State) :
    exec (.slotHeaderOutcome a c result) s = execSlotHeaderOutcome a c result s := rfl

theorem exec_trunkCycleFormation (t : RecIx) (m : FormationMoment) (s : State) :
    exec (.trunkCycleFormation t m) s = execTrunkCycleFormation t m s := rfl

/-! ### The conditions on a state -/

theorem running_iff (s : State) : running s = true ↔ s.Running := by
  unfold running State.Running
  cases s.loader.state <;> simp

theorem attached_iff (s : State) : attached s = true ↔ s.loader.state = .attached := by
  unfold attached
  cases s.loader.state <;> simp

theorem isLocked_iff (s : State) (l : LaneNo) : isLocked s l = true ↔ (laneAt s l).state = .locked := by
  simp [isLocked]

theorem roleDrives_iff (s : State) : roleDrives s = true ↔ s.timing.role = .following ∨ s.timing.role = .pacing := by
  simp [roleDrives]

theorem ofLane_iff (s : State) (l : LaneNo) (c : CycleNo) : ofLane s l c = true ↔ Passing s l c := by
  simp [ofLane, Passing, nextCycle]

theorem sameCycle_iff (s : State) (l : LaneNo) (x c : CycleNo) : sameCycle s l x c = true ↔ OneCycle s l x c := by
  simp [sameCycle, OneCycle, nextCycle]

theorem slotOfLane_iff (s : State) (a : SlotAddr) (c : CycleNo) : slotOfLane s a c = true ↔ SlotPassing s a c := by
  unfold slotOfLane SlotPassing justPast
  rw [Bool.or_eq_true, ofLane_iff]
  cases (laneAt s (laneOf a)).expNum <;> simp [nextCycle]

/-- The lane's cycle c found the conditions of R8 failing: it is c that may be the earlier number of the failed cycle. -/
theorem failedR8_iff (s : State) (l : LaneNo) (c : CycleNo) :
    failedR8 s l c = true ↔ ∃ x, (laneAt s l).r8Failed = some x ∧ OneCycle s l c x := by
  simp [failedR8, Option.any_eq_true, sameCycle_iff]

/-! ### Changes of one record -/

section Tables

variable {α : Type} {n : Nat}

@[simp] theorem vset_vget (v : Vector α n) (i : Fin n) : vset v i (vget v i) = v :=
  vget_ext fun j => by rw [vget_vset]; split <;> simp_all

@[simp] theorem vset_vset (v : Vector α n) (i : Fin n) (x y : α) : vset (vset v i x) i y = vset v i y :=
  vget_ext fun j => by simp only [vget_vset]; split <;> rfl

theorem vmod_vmod (v : Vector α n) (i : Fin n) (f g : α → α) : vmod (vmod v i f) i g = vmod v i (fun x => g (f x)) := by
  simp [vmod]

theorem vmod_congr {v : Vector α n} {i : Fin n} {f g : α → α} (h : f (vget v i) = g (vget v i)) :
    vmod v i f = vmod v i g := by rw [vmod, vmod, h]

end Tables

section Records

variable (s : State)

theorem modSlot_congr {a : SlotAddr} {f g : SlotRec → SlotRec} (h : f (slotAt s a) = g (slotAt s a)) :
    s.modSlot a f = s.modSlot a g := by
  rw [State.modSlot, State.modSlot, vmod_congr (f := f) (g := g) h]

theorem modSlot_modSlot (a : SlotAddr) (f g : SlotRec → SlotRec) :
    (s.modSlot a f).modSlot a g = s.modSlot a (fun r => g (f r)) := by
  simp [State.modSlot, vmod_vmod]

@[simp] theorem slotAt_modSlot_same (a : SlotAddr) (f : SlotRec → SlotRec) :
    slotAt (s.modSlot a f) a = f (slotAt s a) := vget_vmod_same _ _ _

theorem modRx_congr {r : RecIx} {f g : RxRec → RxRec} (h : f (rxAt s r) = g (rxAt s r)) :
    s.modRx r f = s.modRx r g := by
  rw [State.modRx, State.modRx, vmod_congr (f := f) (g := g) h]

@[simp] theorem rxAt_modRx_same (r : RecIx) (f : RxRec → RxRec) : rxAt (s.modRx r f) r = f (rxAt s r) :=
  vget_vmod_same _ _ _

@[simp] theorem txAt_modTx_same (t : RecIx) (f : TxRec → TxRec) : txAt (s.modTx t f) t = f (txAt s t) :=
  vget_vmod_same _ _ _

theorem laneAt_modLane (l k : LaneNo) (f : Lane → Lane) :
    laneAt (s.modLane l f) k = if k = l then f (laneAt s l) else laneAt s k := vget_vmod _ _ _ _

/-- A change that leaves the lane as it is changes nothing. -/
theorem modLane_self {l : LaneNo} {f : Lane → Lane} (h : f (laneAt s l) = laneAt s l) : s.modLane l f = s := by
  rw [State.modLane, vmod, show f (vget s.lanes l) = vget s.lanes l from h, vset_vget]

end Records

/-! ### What a refresh of the roster leaves alone (R58) -/

/-- A refresh changes the roster and the reports. -/
theorem refresh_eta (id : StationId) (by_ : HeardBy) (s : State) :
    refresh id by_ s = { s with
      roster := (refresh id by_ s).roster
      port := (refresh id by_ s).port } := by
  unfold refresh
  dsimp only
  split
  · rfl
  · split
    · rfl
    · split <;> rfl

@[simp] theorem refresh_loader (id : StationId) (by_ : HeardBy) (s : State) :
    (refresh id by_ s).loader = s.loader := by rw [refresh_eta]
@[simp] theorem refresh_lanes (id : StationId) (by_ : HeardBy) (s : State) :
    (refresh id by_ s).lanes = s.lanes := by rw [refresh_eta]
@[simp] theorem refresh_timing (id : StationId) (by_ : HeardBy) (s : State) :
    (refresh id by_ s).timing = s.timing := by rw [refresh_eta]
@[simp] theorem refresh_slots (id : StationId) (by_ : HeardBy) (s : State) :
    (refresh id by_ s).slots = s.slots := by rw [refresh_eta]

/-- A refresh and a change of a slot record do not meet. -/
theorem refresh_modSlot (id : StationId) (by_ : HeardBy) (a : SlotAddr) (f : SlotRec → SlotRec) (s : State) :
    refresh id by_ (s.modSlot a f) = (refresh id by_ s).modSlot a f := by
  unfold refresh
  rw [show ownId (s.modSlot a f) = ownId s from rfl]
  split
  · rfl
  · split
    · rfl
    · rw [State.modSlot_roster]
      split <;> rfl

/-! ### Searches of a fixed table -/

/-- In a list in ascending order that holds every index, the first index that passes a test is the lowest that does. -/
theorem find?_eq_some_iff_lowest {n : Nat} {l : List (Fin n)} (sorted : l.Pairwise (· < ·)) (all : ∀ i, i ∈ l)
    (p : Fin n → Bool) (i : Fin n) : l.find? p = some i ↔ p i = true ∧ ∀ k < i, p k = false := by
  rw [List.find?_eq_some_iff_append]
  constructor
  · rintro ⟨hp, before, after, rfl, hb⟩
    refine ⟨hp, fun k hk => ?_⟩
    obtain ⟨-, hafter, hlt⟩ := List.pairwise_append.mp sorted
    rcases List.mem_append.mp (all k) with h | h
    · simpa using hb k h
    · rcases List.mem_cons.mp h with rfl | h
      · exact absurd hk (lt_irrefl _)
      · exact absurd (hk.trans ((List.pairwise_cons.mp hafter).1 k h)) (lt_irrefl _)
  · rintro ⟨hp, hlow⟩
    obtain ⟨before, after, rfl⟩ := List.append_of_mem (all i)
    refine ⟨hp, before, after, rfl, fun k hk => ?_⟩
    simp [hlow k ((List.pairwise_append.mp sorted).2.2 k hk i List.mem_cons_self)]

theorem mem_allRecs (r : RecIx) : r ∈ allRecs := by revert r; decide

theorem mem_allLanes (l : LaneNo) : l ∈ allLanes := by revert l; decide

theorem allRecs_sorted : allRecs.Pairwise (· < ·) := by decide

theorem mem_allSlots (a : SlotAddr) : a ∈ allSlots := by revert a; decide

theorem allSlots_sorted : allSlots.Pairwise (· < ·) := by decide

/-- A search of the eight records finds the lowest that passes (R77, R105). -/
theorem find?_allRecs (p : RecIx → Bool) (r : RecIx) :
    allRecs.find? p = some r ↔ p r = true ∧ ∀ k < r, p k = false :=
  find?_eq_some_iff_lowest allRecs_sorted mem_allRecs p r

/-! ### Entry to FAILED (R161, R167) -/

theorem txClear_eq (v : Vector TxRec 8) :
    txClear v = Vector.ofFn (fun t : RecIx => TxRec.clear (BitVec.ofNat 4 (t.val + 8)) (vget v t)) := by
  refine vget_ext fun i => ?_
  simp only [txClear, allRecs, List.foldl_cons, List.foldl_nil, vget_vmod]
  fin_cases i <;> simp [vget, txReset, TxRec.reset]

/-- The answer to a command in flight, field by field (R161, log entries 19 and 34). -/
theorem abortedAnswer_eq (s : State) (e : InFlight) : abortedAnswer s e = {
    code := e.code
    tag := e.tag
    outcome := .aborted
    result := match e.record with
      | .tx k => [byteOf k.val, if e.code = 1 then (txAt s k).tag.setWidth 8 else 0xFF,
          byteOf (((txAt s k).change.map resultCount).getD 0), 0]
      | .rx k => [byteOf k.val, 0xFF, 0, 0] } := by
  unfold abortedAnswer
  cases e.record with
  | tx k => rfl
  | rx k => simp [inFlightResponse, resultBytes]

/-- An ID clash of a station that runs brings FAILED, whole (R161, R167, R170). -/
theorem idClash_eq_failedFrom (place : ClashPlace) {s : State} (h : s.Running) :
    idClash place s = failedFrom s (clashed s) (fun padding => .idClash place padding) := by
  rw [idClash, if_pos ((running_iff s).mpr h)]
  unfold enterFailed failedFrom report
  rw [txClear_eq, funext (abortedAnswer_eq s)]
  rfl

/-- The reports after entry to FAILED: those before it, and one more (R155, R161). -/
theorem failedFrom_reports (s : State) (loader : Loader) (place : ClashPlace) :
    (failedFrom s loader (fun padding => .idClash place padding)).port.reports =
      (s.port.post (.idClash place (outputPadding s.port.stage))).1.reports := by
  unfold failedFrom Port.post
  dsimp only
  split
  · rfl
  · split <;> rfl

/-- A station that has entered FAILED is still (R163, R167). -/
theorem failedFrom_still (s : State) (loader : Loader) (rep : Nat → Report) : (failedFrom s loader rep).Still := by
  refine ⟨fun l => ?_, rfl, rfl, fun l => ?_, fun a => ?_, rfl, fun t => ?_, fun r => ?_, rfl⟩
  · simp [failedFrom, laneAt, Lane.reset]
  · simp [failedFrom, NoticeUnit.reset]
  · simp [failedFrom, slotAt, SlotUnit.reset, SlotRec.reset]
  · simp [failedFrom, txAt, vget, TxRec.reset]
  · simp [failedFrom, rxAt, RxRec.reset]

/-- What an ID clash comes to: the station still, FAILED for that reason, as `failedFrom` says whole. -/
theorem idClash_spec (place : ClashPlace) {s : State} (h : s.Running) :
    (idClash place s).Still ∧ (idClash place s).loader.state = .failed ∧
      (idClash place s).loader.reason = .idClash ∧
      idClash place s = failedFrom s (clashed s) (fun padding => .idClash place padding) ∧
      (idClash place s).port.reports =
        (s.port.post (.idClash place (outputPadding s.port.stage))).1.reports := by
  rw [idClash_eq_failedFrom place h]
  exact ⟨failedFrom_still _ _ _, rfl, rfl, rfl, failedFrom_reports _ _ _⟩

end Sys2Proof.Machine
end


section
/-! SUPPORT. A lane that has adopted a number in a cycle whose conditions of R8 had failed, and the two statements that
it refutes. The part that began in that cycle is named by the number before the adoption (R5, R26, log entry 11), the
failed cycle by the number after it. The model asks whether the part began in the failed cycle, `OneCycle s l c x`; the
statements O19 and O30 ask for `OneCycle s l x c`, which fails here. -/

namespace Sys2Proof.Machine

/-- A LOCKED lane that has adopted 7 in the cycle it numbered 5, and found the conditions of R8 failing in it: an
adoption keeps the old number and renumbers the failed cycle with the lane (R26). -/
def adoptedLane : Lane :=
  { Lane.reset with state := .locked, expNum := some 8, former := some 5, r8Failed := some 7 }

/-- A station LISTENING and FOLLOWING, with lane 0 such a lane and slot 0 its own. -/
def adoptedState : State :=
  { State.reset with
    loader := { State.reset.loader with state := .listening, reading := false }
    lanes := vset State.reset.lanes 0 adoptedLane
    timing := { Timing.reset with role := .following }
    slots := { SlotUnit.reset with recs := vset SlotUnit.reset.recs 0 { SlotRec.reset with state := .mine } } }

theorem adoptedState_running : adoptedState.Running := Or.inl rfl

@[simp] theorem laneAt_adoptedState : laneAt adoptedState 0 = adoptedLane := rfl

@[simp] theorem slotAt_adoptedState : slotAt adoptedState 0 = { SlotRec.reset with state := .mine } := rfl

/-- The part that began as cycle 5 began in the failed cycle, which the lane now numbers 7. -/
theorem adoptedState_failedR8 : failedR8 adoptedState 0 5#8 = true :=
  (failedR8_iff adoptedState 0 5#8).mpr ⟨7#8, rfl, Or.inr ⟨rfl, rfl⟩⟩

/-- So it may not be driven (R8). -/
theorem adoptedState_not_drives : drives adoptedState 0 5#8 = false := by
  simp only [drives, adoptedState_failedR8, Bool.not_true, Bool.and_false]

/-- Read the other way round, no failed cycle of the lane is the cycle of that part. -/
theorem adoptedState_not_oneCycle (x : CycleNo) (h : (laneAt adoptedState 0).r8Failed = some x) :
    ¬ OneCycle adoptedState 0 x 5 := by
  obtain rfl : (7 : CycleNo) = x := by simpa [adoptedLane] using h
  simp [OneCycle, adoptedLane]

/-- Refutes O19: its first clause says when `drives` holds, and takes the failed cycle for the earlier of the two
numbers. In `adoptedState` it lets cycle 5 of lane 0 be driven, and the model does not. -/
theorem not_noticePositionOffersTheFirstEntryNotInFlight :
    ¬ Obligations.NoticePositionOffersTheFirstEntryNotInFlight := by
  intro h
  obtain ⟨hdrives, -⟩ := h 0 0 5 adoptedState rfl
  have driven := hdrives.mpr ⟨rfl, Or.inl rfl, adoptedState_not_oneCycle⟩
  exact Bool.false_ne_true (adoptedState_not_drives.symm.trans driven)

/-- The arbiter's choice leaves the slot unit alone. -/
theorem slots_settle (s : State) : (settle s).slots = s.slots := by rw [settle_eta]

/-- Nothing is kept of a header in a cycle whose expected mark position found the conditions of R8 failing. -/
theorem adoptedState_headerOutcome :
    exec (.slotHeaderOutcome 0 5#8 .abandoned) adoptedState = .next (settle (clearOwnRun 0 adoptedState)) := by
  have failed : failedR8 adoptedState (laneOf 0) 5#8 = true := adoptedState_failedR8
  have notDriven : drives adoptedState (laneOf 0) 5#8 = false := adoptedState_not_drives
  have began : running adoptedState = true ∧ beganAs adoptedState (laneOf 0) 5#8 = true := by decide
  rw [exec_slotHeaderOutcome, execSlotHeaderOutcome, run_of_released rfl, if_pos began]
  simp [headerOutcome, slotOutcome, markDriven, mineOutcome, failed, notDriven, -Fin.isValue]

/-- Refutes O30: in `adoptedState` the header of slot 0 that began in cycle 5 began in the failed cycle. The model keeps
nothing of its driving; the statement, which does not see the failure, keeps that it was driven. -/
theorem not_slotHeaderOutcomeSettlesTheClaim : ¬ Obligations.SlotHeaderOutcomeSettlesTheClaim := by
  rintro ⟨h, -⟩
  obtain ⟨-, hbegan⟩ := h 0 5#8 .abandoned adoptedState rfl
  obtain ⟨-, -, -, -, hkept⟩ := hbegan adoptedState_running (Or.inr rfl) false
    ⟨nofun, fun ⟨x, hx, hone⟩ => absurd hone (adoptedState_not_oneCycle x hx)⟩
  have said := (hkept (Or.inl rfl)).1 (Or.inr (Or.inl rfl))
  rw [adoptedState_headerOutcome, Host.Outcome.next.injEq] at said
  have kept := congrArg (fun s : State => (vget s.slots.recs 0).driven) said
  simp only [slots_settle] at kept
  exact absurd kept (by decide)

end Sys2Proof.Machine
end


section
/-! SUPPORT. Fields of the layouts of chapter 12: a field of two parts written one after the other is a field of the one
or of the other, and what a PT416 writes it reads back. -/

namespace Sys2Proof.Machine

/-! ### A field of a whole written in parts -/

/-- A field that lies in the first part. -/
theorem field_append_left {n m : Nat} (x : BitVec n) (y : BitVec m) (start len : Nat) (h : start + len ≤ n) :
    field (x ++ y) start len = field x start len := by
  refine BitVec.eq_of_getLsbD_eq fun i hi => ?_
  have hpos : m ≤ n + m - start - len + i := by omega
  have hsub : n + m - start - len + i - m = n - start - len + i := by omega
  simp [field, BitVec.getLsbD_append, Nat.not_lt.mpr hpos, hsub, hi]

/-- A field that lies in the second part. -/
theorem field_append_right {n m : Nat} (x : BitVec n) (y : BitVec m) (start len : Nat) (h : n ≤ start)
    (h' : start + len ≤ n + m) : field (x ++ y) start len = field y (start - n) len := by
  refine BitVec.eq_of_getLsbD_eq fun i hi => ?_
  have hpos : n + m - start - len + i < m := by omega
  have hsub : m - (start - n) - len + i = n + m - start - len + i := by omega
  simp [field, BitVec.getLsbD_append, hpos, hsub, hi]

/-- A field that is the whole. -/
@[simp] theorem field_all {n : Nat} (x : BitVec n) : field x 0 n = x := by simp [field]

/-! ### Marks (R10) -/

/-- A mark reads back as it was written, its pacer ID as it stands (R10, log entry 17). -/
theorem readMark_encodeMark (pacer : StationId) (l : LaneNo) (n : CycleNo) (fresh : Bool) :
    readMark l (encodeMark pacer l n fresh) = some { pacer := pacer, number := n, fresh := fresh } := by
  have hfresh : (BitVec.ofBool fresh == 1#1) = fresh := by cases fresh <;> rfl
  unfold readMark encodeMark
  simp (disch := omega) only [field_append_left, field_append_right, field_all]
  simp [hfresh]

/-! ### Notices (R11, R12, R172) -/

/-- A body passes R172: an attempt of 1 to 3, a width of at most 16, counts of at most 64, 8 and 8. -/
def NoticeBody.Listed (b : NoticeBody) : Prop :=
  (∀ tag n, b = .offer tag n → 1 ≤ n.toNat ∧ n.toNat ≤ 3) ∧ (∀ x, b = .tally x → x.width.toNat ≤ 16) ∧
    ∀ x, b = .presence x → x.owned.toNat ≤ 64 ∧ x.tx.toNat ≤ 8 ∧ x.rx.toNat ≤ 8

theorem kindClass_kind (b : NoticeBody) : kindClass b.kind = some b.cls := by cases b <;> rfl

/-- A body that passes R172 reads back as it was written (R12). -/
theorem decodeBody_encodeBody (b : NoticeBody) (h : b.Listed) : decodeBody b.kind (encodeBody b) = some b := by
  obtain ⟨hoffer, htally, hpresence⟩ := h
  have hbit : ∀ b : Bool, (BitVec.ofBool b == 1#1) = b := by decide
  unfold decodeBody encodeBody NoticeBody.kind
  cases b with
  | close tag | accept tag =>
    simp (disch := omega) only [field_append_left, field_all]
    rfl
  | dismiss tag reason | decline tag reason =>
    cases reason <;> simp (disch := omega) only [field_append_left, field_append_right, field_all] <;> rfl
  | offer tag n =>
    simp (disch := omega) only [field_append_left, field_append_right, field_all]
    simp [hoffer tag n rfl]
  | tally x =>
    simp (disch := omega) only [field_append_left, field_append_right, field_all]
    simp [htally x rfl, hbit]
  | presence x =>
    simp (disch := omega) only [field_append_left, field_append_right, field_all]
    simp [hpresence x rfl]

/-- A notice between named stations reads back as it was written (R11, R54). -/
theorem readNotice_encodeNotice (sender dest : StationId) (b : NoticeBody) (hsender : sender.toNat ∉ [0, 63])
    (hdest : dest.toNat ≠ 0) (h : b.Listed) : readNotice (encodeNotice sender dest b) = .received sender dest b := by
  have hnamed : sender ≠ 0#6 ∧ sender ≠ nobody := by
    constructor <;> rintro rfl <;> simp at hsender
  have hdest' : dest ≠ 0#6 := by rintro rfl; simp at hdest
  unfold readNotice noticeCheckOk encodeNotice
  simp (disch := omega) only [field_append_left, field_append_right, field_all]
  simp [hnamed, hdest', kindClass_kind, decodeBody_encodeBody b h]

/-! ### Slot headers (R13) -/

theorem roleOfCode_code (r : HeaderRole) : roleOfCode r.code = r := by cases r <;> rfl

/-- The header of an owner reads back as it was written (R13). -/
theorem readHeader_encodeHeader (h : Header) (howner : h.owner.toNat ≠ 63) (hwidth : h.width.toNat ≤ 16) :
    readHeader (encodeHeader h) = .valid h := by
  have howner' : h.owner ≠ nobody := by intro e; simp [e] at howner
  unfold readHeader headerCheckOk headerFields encodeHeader
  simp (disch := omega) only [field_append_left, field_append_right, field_all]
  simp [howner', hwidth, roleOfCode_code]

/-! ### Parcel headers (R128) -/

/-- A length's two bytes give it back. -/
theorem bytes16_value (x : BitVec 16) : (field x 0 8).toNat * 256 + (field x 8 8).toNat = x.toNat := by
  simp only [field, BitVec.extractLsb'_toNat, Nat.shiftRight_eq_div_pow]
  omega

/-- A parcel header of a length up to 1536 reads back as it was written (R128, R133). -/
theorem readParcelHeader_parcelHeader (len : Nat) (cls : Byte) (h : len ≤ 1536) :
    readParcelHeader (parcelHeader len cls) = some (len, cls) := by
  have hlen : (BitVec.ofNat 16 len).toNat = len := by rw [BitVec.toNat_ofNat]; omega
  simp [parcelHeader, bytes16, readParcelHeader, bytes16_value, hlen, h]

/-- Settles O57: each layout by its own lemma. -/
theorem layoutsReadBackAsWritten : Obligations.LayoutsReadBackAsWritten :=
  ⟨readMark_encodeMark,
    fun sender dest b hsender hdest hoffer htally hpresence =>
      readNotice_encodeNotice sender dest b hsender hdest ⟨hoffer, htally, hpresence⟩,
    readHeader_encodeHeader, readParcelHeader_parcelHeader⟩

end Sys2Proof.Machine
end


section
/-! SUPPORT. The outcome of an offer (R53) and what its poster is told. -/

namespace Sys2Proof.Machine

/-! ### What the poster is told (R80, R96, R124) -/

section Posters

variable (s : State) (t : RecIx) (r : RecIx)

/-- An OFFER sent while its record is OFFERING starts the offer wait (R80). -/
theorem txSent_offer (tag : Tag) (n : BitVec 4) (h : (txAt s t).state = .offering) :
    txSent t (.offer tag n) s = s.modTx t (fun r => { r with offerWait := some 64 }) := by
  simp [txSent, h]

/-- A CLOSE sent while its record is CLOSING ends the close (R96). -/
theorem txSent_close (tag : Tag) (h : (txAt s t).state = .closing) : txSent t (.close tag) s = endClose t s := by
  simp [txSent, h]

/-- Any other notice sent tells its transmit record nothing. -/
theorem txSent_other (b : NoticeBody) (hoffer : ¬ ((∃ tag n, b = .offer tag n) ∧ (txAt s t).state = .offering))
    (hclose : ¬ ((∃ tag, b = .close tag) ∧ (txAt s t).state = .closing)) : txSent t b s = s := by
  unfold txSent
  split
  · rename_i tag n hs
    exact absurd ⟨⟨tag, n, rfl⟩, hs⟩ hoffer
  · rename_i tag hs
    exact absurd ⟨⟨tag, rfl⟩, hs⟩ hclose
  · rfl

/-- A DISMISS sent ends the dismiss that is pending (R124). -/
theorem rxSent_dismiss (tag : Tag) (reason : DismissReason) (h : (rxAt s r).dismiss.isSome = true) :
    rxSent r (.dismiss tag reason) s = endDismiss r s := by simp [rxSent, h]

/-- Where no dismiss is pending, no notice sent tells a receive record anything. -/
theorem rxSent_none (b : NoticeBody) (h : (rxAt s r).dismiss = none) : rxSent r b s = s := by
  unfold rxSent
  split <;> simp [h]

/-- A notice other than a DISMISS tells a receive record nothing. -/
theorem rxSent_other (b : NoticeBody) (h : ∀ tag reason, b ≠ .dismiss tag reason) : rxSent r b s = s := by
  unfold rxSent
  split
  · exact absurd rfl (h _ _)
  · rfl

end Posters

/-! ### The outcome of an offer (R53) -/

/-- The notice unit once an offer's outcome has been handed: the entry is in flight no more. -/
def offerEnded (l : LaneNo) (s : State) : State :=
  { s with notice := { s.notice with offers := vset s.notice.offers l none } }

/-- The same of an offer that was WON: the position was won. -/
def offerWon (l : LaneNo) (f : Offer) (s : State) : State :=
  { s with notice := { s.notice with
      offers := vset s.notice.offers l none
      won := vset s.notice.won l (some (f.cycle, f.position)) } }

/-- The same of an offer that was WON and not withdrawn: its entry is empty unless its notice was replaced. -/
def offerSent (l : LaneNo) (f : Offer) (s : State) : State :=
  { s with notice := { s.notice with
      offers := vset s.notice.offers l none
      won := vset s.notice.won l (some (f.cycle, f.position))
      queue := if f.replaced then s.notice.queue else s.notice.queue.filter (fun e => e.owner ≠ f.owner) } }

theorem offerOutcome_not_won (l : LaneNo) (f : Offer) {o : SendOutcome} (h : o ≠ .won) (s : State) :
    offerOutcome l f o s = offerEnded l s := by
  cases o with
  | won => exact absurd rfl h
  | lostBefore | lostIn | lostAfter _ | abandoned => rfl

theorem offerOutcome_withdrawn (l : LaneNo) (f : Offer) (h : f.withdrawn = true) (s : State) :
    offerOutcome l f .won s = offerWon l f s := by
  simp only [offerOutcome, h, if_true]
  rfl

/-- A notice that was WON, and not withdrawn, is sent: its poster is told. -/
theorem offerOutcome_sent (l : LaneNo) (f : Offer) (h : f.withdrawn = false) (s : State) :
    offerOutcome l f .won s = tellSent f.owner f.body (offerSent l f s) := by
  have hsent : (if f.replaced then offerWon l f s else (offerWon l f s).modNotice (fun n =>
      { n with queue := n.queue.filter (fun e => e.owner != f.owner) })) = offerSent l f s := by
    cases hr : f.replaced <;> simp [offerWon, offerSent, State.modNotice, hr, bne, beq_eq_decide]
  simp only [offerOutcome, h, Bool.false_eq_true, if_false]
  exact congrArg (tellSent f.owner f.body) hsent

/-- With no offer in progress on the lane nothing happens. -/
theorem exec_noticeOutcome_none {l : LaneNo} {s : State} (result : ReadBack 112) (hreset : s.pins.resetAsserted = false)
    (h : vget s.notice.offers l = none) : exec (.noticeOutcome l result) s = .next (settle s) := by
  rw [exec_noticeOutcome, execNoticeOutcome, run_of_released hreset]
  simp [h]

theorem exec_noticeOutcome_some {l : LaneNo} {f : Offer} {s : State} (result : ReadBack 112)
    (hreset : s.pins.resetAsserted = false) (h : vget s.notice.offers l = some f) :
    exec (.noticeOutcome l result) s = .next (settle (offerOutcome l f (f.outcome result) s)) := by
  rw [exec_noticeOutcome, execNoticeOutcome, run_of_released hreset]
  simp [h]

/-- Settles O21: the outcome by its cases, then the poster by the owner of the entry. -/
theorem noticeOutcomeEmptiesOrKeepsTheEntry : Obligations.NoticeOutcomeEmptiesOrKeepsTheEntry := by
  intro l result s hreset
  refine ⟨exec_noticeOutcome_none result hreset, fun f hf => ?_⟩
  rw [exec_noticeOutcome_some result hreset hf]
  intro o
  refine ⟨fun ho => ?_, fun ho hw => ?_, fun ho hw => ?_⟩
  · rw [offerOutcome_not_won l f (show f.outcome result ≠ .won from ho) s]
    rfl
  all_goals rw [show f.outcome result = .won from ho]
  · rw [offerOutcome_withdrawn l f hw s]
    rfl
  rw [offerOutcome_sent l f hw s]
  have told : ∀ {o u}, f.owner = o → tellSent o f.body (offerSent l f s) = u →
      (.next (settle (tellSent f.owner f.body (offerSent l f s))) : Host.Outcome State Fault Refusal) =
        .next (settle u) := by
    rintro _ _ rfl rfl
    rfl
  refine ⟨fun howner => ?_, fun t howner hoffer hclose => told howner (txSent_other _ t f.body hoffer hclose),
    fun r howner hnone => told howner (rxSent_none _ r f.body hnone),
    fun t tag n howner hbody hstate => told howner ?_, fun t tag howner hbody hstate => told howner ?_,
    fun r tag reason howner hbody hsome => told howner ?_⟩
  · rcases howner with howner | ⟨d, howner⟩ | ⟨r, howner, hbody⟩
    · exact told howner rfl
    · exact told howner rfl
    · exact told howner (rxSent_other _ r f.body hbody)
  · rw [hbody]
    exact txSent_offer _ t tag n hstate
  · rw [hbody]
    exact txSent_close _ t tag hstate
  · rw [hbody]
    exact rxSent_dismiss _ r tag reason hsome

end Sys2Proof.Machine
end


section
/-! SUPPORT. A notice's arrival (R54 to R56): what each reading of the position does, whose a notice under this
station's ID is, and the dispatch of a peer's. -/

namespace Sys2Proof.Machine

/-! ### The notice unit takes a position -/

/-- This station won the position of the lane's cycle (R7, log entry 11). -/
def wonPosition (s : State) (l : LaneNo) (p : Fin 2) (c : CycleNo) : Bool :=
  (vget s.notice.won l).any (fun w => sameCycle s l w.1 c && w.2 == p)

theorem wonPosition_iff (s : State) (l : LaneNo) (p : Fin 2) (c : CycleNo) :
    wonPosition s l p c = true ↔ ∃ x, vget s.notice.won l = some (x, p) ∧ OneCycle s l x c := by
  simp [wonPosition, Option.any_eq_true, sameCycle_iff]

/-- The position last won on the lane is forgotten at the arrival. -/
def forgetWon (l : LaneNo) (s : State) : State :=
  { s with notice := { s.notice with won := vset s.notice.won l none } }

/-- What a reading of a position does, the position last won forgotten (R54). -/
def noticeTaken (l : LaneNo) (p : Fin 2) (wonHere : Bool) (s : State) : NoticeRead → State
  | .empty => s
  | .checkFailure => s.modLane l (fun x => { x with noticeErrors := bump x.noticeErrors })
  | .unknown => s.modNotice (fun n => { n with unknownKind := vset n.unknownKind l (bump (vget n.unknownKind l)) })
  | .received sender dest b => received l p wonHere sender dest b s

/-- The arrival on a LOCKED lane that carries the number, while the station runs. -/
theorem exec_noticeArrival_taken (l : LaneNo) (p : Fin 2) (c : CycleNo) (word : BitVec 112) {s : State}
    (hreset : s.pins.resetAsserted = false) (hrun : s.Running) (hlock : (laneAt s l).state = .locked)
    (hpass : Passing s l c) :
    exec (.noticeArrival l p c word) s =
      .next (settle (noticeTaken l p (wonPosition s l p c) (forgetWon l s) (readNotice word))) := by
  rw [exec_noticeArrival, execNoticeArrival, run_of_released hreset,
    if_pos ⟨(running_iff s).mpr hrun, (isLocked_iff s l).mpr hlock, (ofLane_iff s l c).mpr hpass⟩]
  cases readNotice word <;> rfl

/-- No other arrival does anything. -/
theorem exec_noticeArrival_ignored (l : LaneNo) (p : Fin 2) (c : CycleNo) (word : BitVec 112) {s : State}
    (hreset : s.pins.resetAsserted = false)
    (h : ¬ s.Running ∨ (laneAt s l).state ≠ .locked ∨ ¬ Passing s l c) :
    exec (.noticeArrival l p c word) s = .next (settle s) := by
  rw [exec_noticeArrival, execNoticeArrival, run_of_released hreset, if_neg]
  rw [running_iff, isLocked_iff, ofLane_iff]
  tauto

/-! ### A notice received (R55, R56) -/

theorem rosterIx_of_toNat {id : StationId} {i : Fin 62} (h : i.val + 1 = id.toNat) : rosterIx id = some i := by
  have hin : 1 ≤ id.toNat ∧ id.toNat ≤ 62 := by omega
  rw [rosterIx, dif_pos hin]
  exact congrArg some (Fin.ext (by simp; omega))

/-- Under this station's ID, where it won the position, a notice is its own. -/
theorem received_own (l : LaneNo) (p : Fin 2) (dest : StationId) (b : NoticeBody) (s : State) :
    received l p true (ownId s) dest b s = s := (if_pos rfl).trans (if_pos rfl)

/-- Under this station's ID, where it did not win the position, a notice is an ID clash: the station as it was before
the arrival enters FAILED. -/
theorem received_clash (l : LaneNo) (p : Fin 2) (dest : StationId) (b : NoticeBody) {s : State} (hrun : s.Running) :
    let t := received l p false (ownId s) dest b (forgetWon l s)
    t.Still ∧ t.loader.state = .failed ∧ t.loader.reason = .idClash ∧
      t = failedFrom s (clashed s) (fun padding => .idClash (.notice l (l.val * 2 + p.val)) padding) ∧
      t.port.reports =
        (s.port.post (.idClash (.notice l (l.val * 2 + p.val)) (outputPadding s.port.stage))).1.reports := by
  have hclash : received l p false (ownId s) dest b (forgetWon l s) =
      idClash (.notice l (positionNumber l p)) (forgetWon l s) := if_pos rfl
  simp only [hclash]
  exact idClash_spec (.notice l (positionNumber l p)) (s := forgetWon l s) hrun

theorem received_peer (l : LaneNo) (p : Fin 2) (wonHere : Bool) {sender : StationId} (dest : StationId)
    (b : NoticeBody) {s : State} (h : sender ≠ ownId s) :
    received l p wonHere sender dest b s = dispatch sender dest b (refresh sender .notice s) := if_neg h

/-- A notice for another station is not dispatched. -/
theorem dispatch_elsewhere (sender dest : StationId) (b : NoticeBody) {s : State} (hown : dest ≠ ownId s)
    (hall : dest ≠ nobody) : dispatch sender dest b s = s := if_pos ⟨hown, hall⟩

section DispatchedHere

variable {sender dest : StationId} {s : State} (hdest : dest = ownId s ∨ dest = nobody)
include hdest

/-- A PRESENCE goes to its sender's roster entry. -/
theorem dispatch_presence {i : Fin 62} (body : PresenceBody) (hi : i.val + 1 = sender.toNat) :
    dispatch sender dest (.presence body) s = s.modRoster i (fun e => { e with body := some body }) := by
  rw [dispatch, if_neg (by tauto)]
  simp [storePresence, rosterIx_of_toNat hi]

/-- The engines take no notice before ATTACHED. -/
theorem dispatch_unattached {b : NoticeBody} (hb : ∀ body, b ≠ .presence body) (h : attached s = false) :
    dispatch sender dest b s = s := by
  rw [dispatch.eq_def, if_neg (by tauto)]
  cases b with
  | presence body => exact absurd rfl (hb body)
  | close _ | dismiss _ _ | offer _ _ | accept _ | decline _ _ | tally _ => simp [h]

/-- Once ATTACHED an OFFER or a CLOSE goes to the receive engine, the other kinds to the transmit engine. -/
theorem dispatch_attached {b : NoticeBody} (hb : ∀ body, b ≠ .presence body) (h : attached s = true) :
    dispatch sender dest b s = match b with
      | .offer _ _ | .close _ => rxNotice sender dest b s
      | _ => txNotice sender b s := by
  rw [dispatch.eq_def, if_neg (by tauto)]
  cases b with
  | presence body => exact absurd rfl (hb body)
  | close _ | dismiss _ _ | offer _ _ | accept _ | decline _ _ | tally _ => simp [h]

end DispatchedHere

/-- Settles O23: each reading of the position, then whose the notice is, then where it goes. -/
theorem noticeArrivalIsCountedOrDispatched : Obligations.NoticeArrivalIsCountedOrDispatched := by
  intro l p c word s hreset ownWon
  refine ⟨exec_noticeArrival_ignored l p c word hreset, fun hrun hlock hpass => ?_⟩
  rw [exec_noticeArrival_taken l p c word hreset hrun hlock hpass]
  intro s1
  refine ⟨fun hread => ?_, fun hread => ?_, fun hread => ?_, fun sender dest b hread => ?_⟩ <;> rw [hread]
  · rfl
  · rfl
  · rfl
  refine ⟨fun hown hwon => ?_, fun hown hwon => ?_, fun hpeer => ?_⟩
  · have hwon' : wonPosition s l p c = true := (wonPosition_iff s l p c).mpr hwon
    rw [hwon', hown]
    exact congrArg (fun x => Host.Outcome.next (settle x)) (received_own l p dest b (forgetWon l s))
  · have hwon' : wonPosition s l p c = false := by rwa [← Bool.not_eq_true, wonPosition_iff]
    rw [hwon', hown]
    exact ⟨_, rfl, received_clash l p dest b hrun⟩
  rw [noticeTaken, received_peer l p _ dest b (s := forgetWon l s) hpeer]
  intro s2
  have hid : ownId s2 = ownId s := by simp only [ownId, cfg, s2, refresh_loader]; rfl
  have hstate : s2.loader = s.loader := refresh_loader _ _ _
  refine ⟨fun hother hall => ?_, fun hdest => ?_⟩
  · exact congrArg (fun x => Host.Outcome.next (settle x)) (dispatch_elsewhere sender dest b (hid ▸ hother) hall)
  rw [← hid] at hdest
  refine ⟨fun body i hb hi => ?_, fun hb hl => ?_, fun hb ha => ?_⟩
  · subst hb
    exact congrArg (fun x => Host.Outcome.next (settle x)) (dispatch_presence hdest body hi)
  · have hnot : attached s2 = false := by rw [← Bool.not_eq_true, attached_iff, hstate, hl]; nofun
    exact congrArg (fun x => Host.Outcome.next (settle x)) (dispatch_unattached hdest hb hnot)
  · have hyes : attached s2 = true := by rw [attached_iff, hstate, ha]
    refine congrArg (fun x => Host.Outcome.next (settle x)) ((dispatch_attached hdest hb hyes).trans ?_)
    cases b <;> rfl

end Sys2Proof.Machine
end


section
/-! SUPPORT. Forming a trunk's cycle (R99 to R102): when a cycle is formed, what the staging entry then holds, and what
the slots that have begun keep. -/

namespace Sys2Proof.Machine

/-! ### When a cycle is formed (R99) -/

/-- A slot of the cycle has not begun: its index is not among the first so many. -/
theorem hasBegun_eq_false (begun : Vector (Fin 17) 4) (a : SlotAddr) :
    (hasBegun begun a = false) = (decide ((vget begun (laneOf a)).val ≤ (slotIx a).val) = true) := by
  simp [hasBegun]

theorem hasBegun_eq_true (begun : Vector (Fin 17) 4) (a : SlotAddr) :
    (hasBegun begun a = true) = (decide ((vget begun (laneOf a)).val ≤ (slotIx a).val) = false) := by
  simp [hasBegun]

theorem stagedAt_eq_none (r : TxRec) (c : CycleNo) :
    stagedAt r c = none ↔ ∀ e, vget r.staging (entryIx c) = some e → e.cycle ≠ c := by
  unfold stagedAt
  cases vget r.staging (entryIx c) <;> simp

theorem formable_iff (s : State) (t : RecIx) (c : CycleNo) (begun : Vector (Fin 17) 4) :
    formable s t c begun = true ↔
      (∃ m ∈ (txAt s t).members, Passing s (laneOf m.slot) c ∧ drives s (laneOf m.slot) c = true ∧
        decide ((vget begun (laneOf m.slot)).val ≤ (slotIx m.slot).val) = true) ∧
      ∀ e, vget (txAt s t).staging (entryIx c) = some e → e.cycle ≠ c := by
  simp only [formable, Bool.and_eq_true, Option.isNone_iff_eq_none, stagedAt_eq_none, List.any_eq_true, ofLane_iff,
    Bool.not_eq_true', hasBegun_eq_false, and_assoc]

/-! ### The encoder's bytes (R129) -/

theorem length_encodeBytes (n : Nat) (x : EncCtx) : (encodeBytes n x).2.length = n := by
  induction n generalizing x with
  | zero => rfl
  | succ n ih => simp [encodeBytes, ih]

theorem length_encode (t : RecIx) (n : Nat) (s : State) : (encode t n s).2.length = n := length_encodeBytes _ _

/-- The encoder changes its own place and its count of frames sent in its record, and the transmit pool. -/
theorem txAt_encode_same (t : RecIx) (n : Nat) (s : State) : txAt (encode t n s).1 t =
    { txAt s t with enc := (txAt (encode t n s).1 t).enc, framesSent := (txAt (encode t n s).1 t).framesSent } := by
  simp [encode, txAt, State.modTx, State.modBuf, returnTx]

theorem txAt_encode_of_ne {t k : RecIx} (h : k ≠ t) (n : Nat) (s : State) : txAt (encode t n s).1 k = txAt s k :=
  vget_vmod_of_ne _ h _

theorem encode_eta (t : RecIx) (n : Nat) (s : State) :
    (encode t n s).1 = { s with tx := (encode t n s).1.tx, buf := (encode t n s).1.buf } := rfl

/-! ### The slots that have begun (R102, log entry 61) -/

theorem spareSlot_eq_spare (s : State) (a : SlotAddr) : spareSlot s a = spare s a := rfl

/-- What the slots that have begun keep changes the slot records alone. -/
theorem foldl_keepSpare_eta (c : CycleNo) (l : List SlotAddr) (s : State) :
    l.foldl (fun x a => keepSpare c a x) s = { s with slots := { s.slots with
      recs := (l.foldl (fun x a => keepSpare c a x) s).slots.recs } } := by
  induction l generalizing s with
  | nil => rfl
  | cons a l ih =>
    rw [List.foldl_cons, ih]
    rfl

/-- Each slot that has begun keeps the SPARE header and payload it began with. -/
theorem slotAt_foldl_keepSpare (c : CycleNo) {l : List SlotAddr} (hl : l.Nodup) (s : State) (a : SlotAddr) :
    slotAt (l.foldl (fun x a => keepSpare c a x) s) a =
      if a ∈ l then { slotAt s a with began := (slotAt s a).began ++ [(c, spare s a)] } else slotAt s a := by
  induction l generalizing s with
  | nil => rfl
  | cons b l ih =>
    obtain ⟨hb, hl⟩ := List.nodup_cons.mp hl
    have hspare : spare (keepSpare c b s) a = spare s a := rfl
    rw [List.foldl_cons, ih hl, slotAt_keepSpare, hspare]
    by_cases hab : a = b
    · subst hab
      simp [hb, spareSlot_eq_spare]
    · simp [hab]

theorem mem_begunSlots (r : TxRec) (begun : Vector (Fin 17) 4) (a : SlotAddr) :
    a ∈ begunSlots r begun ↔ (∃ m ∈ r.members, m.slot = a) ∧
      decide ((vget begun (laneOf a)).val ≤ (slotIx a).val) = false := by
  simp only [begunSlots, List.mem_filter, List.mem_map, hasBegun_eq_true]

/-! ### The formed cycle (R99 to R101) -/

/-- The layout mark is FORMED, and a change in SWITCH-WAIT of a layout that was DUE is in CONFIRM (R87, R99). -/
theorem formed_eq (r : TxRec) : r.formed = { r with
    due := false
    change := if r.due = true then r.change.map (fun x => if x.phase = .switchWait then
      { x with phase := .confirm, deadline := some 64 } else x) else r.change } := by
  obtain ⟨_, _, _, _, due, _⟩ := r
  cases due <;> rfl

/-- A trunk's formed cycle staged, before the slots that have begun are given what they keep. -/
def trunkFormed (t : RecIx) (c : CycleNo) (s : State) : State :=
  (encode t (32 * (txAt s t).width) s).1.modTx t (fun r => TxRec.formed { r with
    staging := vset r.staging (entryIx c)
      (some (stagedCycle s (txAt s t) c (encode t (32 * (txAt s t).width) s).2)) })

theorem formCycle_eq (t : RecIx) (c : CycleNo) (begun : Vector (Fin 17) 4) (s : State) :
    formCycle t c begun s =
      (begunSlots (txAt s t) begun).foldl (fun x a => keepSpare c a x) (trunkFormed t c s) := rfl

theorem trunkFormed_eta (t : RecIx) (c : CycleNo) (s : State) :
    trunkFormed t c s = { s with
      tx := (trunkFormed t c s).tx
      buf := (encode t (32 * (txAt s t).width) s).1.buf } := by
  unfold trunkFormed
  rw [encode_eta]
  rfl

/-- A formation changes the transmit records, the transmit pool and the slot records. -/
theorem formCycle_eta (t : RecIx) (c : CycleNo) (begun : Vector (Fin 17) 4) (s : State) :
    formCycle t c begun s = { s with
      tx := (trunkFormed t c s).tx
      buf := (encode t (32 * (txAt s t).width) s).1.buf
      slots := { s.slots with recs := (formCycle t c begun s).slots.recs } } := by
  rw [formCycle_eq]
  refine (foldl_keepSpare_eta c _ _).trans ?_
  generalize (List.foldl (fun x a => keepSpare c a x) (trunkFormed t c s) _).slots.recs = recs
  rw [trunkFormed_eta]

/-- The transmit record of a formed cycle: the encoder's place and count as it left them, the cycle staged. -/
theorem txAt_formCycle_same (t : RecIx) (c : CycleNo) (begun : Vector (Fin 17) 4) (s : State) :
    txAt (formCycle t c begun s) t = TxRec.formed { txAt s t with
      enc := (txAt (encode t (32 * (txAt s t).width) s).1 t).enc
      framesSent := (txAt (encode t (32 * (txAt s t).width) s).1 t).framesSent
      staging := vset (txAt s t).staging (entryIx c)
        (some (stagedCycle s (txAt s t) c (encode t (32 * (txAt s t).width) s).2)) } := by
  rw [formCycle_eta]
  refine (txAt_modTx_same _ t _).trans ?_
  rw [txAt_encode_same]

theorem txAt_formCycle_of_ne {t k : RecIx} (h : k ≠ t) (c : CycleNo) (begun : Vector (Fin 17) 4) (s : State) :
    txAt (formCycle t c begun s) k = txAt s k := by
  rw [formCycle_eta]
  exact (vget_vmod_of_ne _ h _).trans (txAt_encode_of_ne h _ s)

/-- The slots of a formed cycle: one header and payload for each member, in sequence order (R100). -/
theorem stagedCycle_eq (s : State) (r : TxRec) (c : CycleNo) (bytes : List Byte) : stagedCycle s r c bytes = {
    cycle := c, epoch := r.epoch, width := r.width, stale := false
    slots := r.members.zipIdx.map (fun p => {
      slot := p.1.slot
      header := {
        owner := ownId s, sink := r.sink.getD nobody, tag := r.tag, seq := BitVec.ofNat 4 p.2
        role := match p.1.role with
          | .data => .data
          | .probe => .probe
          | .leaving | .shunned => .hold
        epoch := r.epoch, width := BitVec.ofNat 5 r.width }
      payload := match p.1.role with
        | .data => (bytes.drop (32 * (r.members.take p.2).countP (fun m => m.role == .data))).take 32
        | .probe => probePattern c (ownId s) r.tag (BitVec.ofNat 4 p.2)
        | .leaving | .shunned => List.replicate 32 0 }) } := by
  unfold stagedCycle
  congr 1
  refine List.map_congr_left fun p _ => ?_
  unfold memberHeader memberPayload
  cases p.1.role <;> rfl

/-- Settles O35: when the cycle is formed, then the record, the pool and the slots after it. -/
theorem trunkCycleFormationStagesTheCycle : Obligations.TrunkCycleFormationStagesTheCycle := by
  intro t c begun s hreset ahead
  refine ⟨formable_iff s t c begun, fun h => ?_, fun hrun hform => ?_⟩
  · rw [exec_trunkCycleFormation, execTrunkCycleFormation, run_of_released hreset, if_neg]
    rw [running_iff]
    rintro ⟨hrun, hform⟩
    rcases h with h | h
    · exact h hrun
    · exact Bool.false_ne_true (h.symm.trans hform)
  intro r given bytes
  have hsame := txAt_formCycle_same t c begun s
  rw [formed_eq] at hsame
  refine ⟨formCycle t c begun s, ?_, length_encode _ _ _, ?_, ?_, ?_, ?_, ?_, ?_, ?_, ?_, ?_, ?_, ?_⟩
  · rw [exec_trunkCycleFormation, execTrunkCycleFormation, run_of_released hreset,
      if_pos ⟨(running_iff s).mpr hrun, hform⟩]
  · rw [hsame, stagedCycle_eq]
    rfl
  iterate 6 rw [hsame]
  · rw [formCycle_eta]
  · exact fun k hk => txAt_formCycle_of_ne hk c begun s
  · intro hnodup a
    have hslots : slotAt (formCycle t c begun s) a =
        if a ∈ begunSlots r begun then { slotAt s a with began := (slotAt s a).began ++ [(c, spare s a)] }
        else slotAt s a := slotAt_foldl_keepSpare c (hnodup.filter _) _ a
    rw [hslots]
    simp only [mem_begunSlots]
    rfl
  · rw [formCycle_eta]

end Sys2Proof.Machine
end


section
/-! SUPPORT. A slot arrival at the slot unit (R64, R65, R74, R75): what each header teaches a record, and when a header
is a clash. -/

namespace Sys2Proof.Machine

/-! ### What a record learns -/

/-- The arrival ends what the record kept of a cycle under way. -/
def SlotRec.arrived (r : SlotRec) : SlotRec := { r with driven := none, began := [], stopped := false, underWay := [] }

section Learnt

variable (driven counted : Bool) (r : SlotRec) (own : StationId)

theorem learnt_free : learnt driven counted r .free own = r.arrived.seenFree := by
  obtain ⟨state, _, _, quiet, _⟩ := r
  have two : min 2 (quiet + 1) = 2 ↔ 1 ≤ quiet := by omega
  by_cases hq : 1 ≤ quiet <;> cases state <;> simp [learnt, SlotRec.arrived, SlotRec.seenFree, two, hq]

theorem learnt_fault : learnt driven counted r .fault own = r.arrived.seenFault counted := by
  obtain ⟨state, _⟩ := r
  cases state <;> simp [learnt, SlotRec.arrived, SlotRec.seenFault]

variable {hd : Header} {own}

/-- A header under this station's ID. -/
theorem learnt_own (h : hd.owner = own) :
    learnt driven counted r (.valid hd) own = { r.arrived with ownRun := if driven then r.ownRun else 1 } := by
  simp [learnt, SlotRec.arrived, h]

/-- A peer's header on a CLAIMING or MINE record that met it by driving its own. -/
theorem learnt_kept (h : hd.owner ≠ own) (hs : r.state = .claiming ∨ r.state = .mine) :
    learnt driven counted r (.valid hd) own = { r.arrived with ownRun := 0 } := by
  simp [learnt, SlotRec.arrived, h, hs]

/-- A peer's header on any other record. -/
theorem learnt_peer (h : hd.owner ≠ own) (hc : r.state ≠ .claiming) (hm : r.state ≠ .mine) :
    learnt driven counted r (.valid hd) own = r.arrived.seenOwner hd.owner := by
  obtain ⟨state, _⟩ := r
  cases state with
  | claiming => exact absurd rfl hc
  | mine => exact absurd rfl hm
  | unseen | free | theirs | barred => simp [learnt, SlotRec.arrived, SlotRec.seenOwner, SlotRec.giveTo, h]

end Learnt

/-! ### A peer's header (R64, R66, R74) -/

/-- A state in which a peer's header has refreshed the roster, and the record of its slot has taken the arrival. -/
def peerArrived (a : SlotAddr) (x : StationId) (s : State) : State :=
  (refresh x .header s).modSlot a (fun r => { r.arrived with ownRun := 0 })

section Peer

variable (a : SlotAddr) (x : StationId) (s : State)

theorem slotAt_refresh (id : StationId) (by_ : HeardBy) (b : SlotAddr) : slotAt (refresh id by_ s) b = slotAt s b := by
  simp [slotAt]

theorem slotAt_peerArrived : slotAt (peerArrived a x s) a = { (slotAt s a).arrived with ownRun := 0 } := by
  simp [peerArrived, slotAt_refresh]

/-- What a peer's header does, by the record's state. -/
theorem foreignHeader_eq (driven : Bool) : foreignHeader a driven x (s.modSlot a SlotRec.arrived) =
    match (slotAt s a).state with
    | .claiming => if driven then peerArrived a x s
        else lookIf (claimInService (peerArrived a x s) a) (loseClaim a x (peerArrived a x s))
    | .mine => if driven then peerArrived a x s else seize a x (peerArrived a x s)
    | _ => (peerArrived a x s).modSlot a (SlotRec.seenOwner x) := by
  have hs : (refresh x .header (s.modSlot a SlotRec.arrived)).modSlot a (fun r => { r with ownRun := 0 }) =
      peerArrived a x s := by
    rw [refresh_modSlot, modSlot_modSlot]
    rfl
  have hstate : (slotAt (peerArrived a x s) a).state = (slotAt s a).state := by
    rw [slotAt_peerArrived]
    rfl
  unfold foreignHeader
  simp only [hs, hstate]
  cases (slotAt s a).state <;> rfl

/-- The record of a slot that is neither claimed nor this station's own learns the peer. -/
theorem peerArrived_seenOwner :
    (peerArrived a x s).modSlot a (SlotRec.seenOwner x) =
      (refresh x .header s).modSlot a (fun r => r.arrived.seenOwner x) := by
  rw [peerArrived, modSlot_modSlot]
  refine modSlot_congr _ ?_
  cases h : (slotAt (refresh x .header s) a).state <;> simp [SlotRec.seenOwner, SlotRec.arrived, SlotRec.giveTo, h]

/-- The peer seizes a MINE slot (R74). -/
theorem seize_eq : seize a x s = lookIf (!(slotAt s a).handed) (mineLost a (slotAt s a) (some x)
    ((s.modSlots (fun u => { u with seizures := bump u.seizures })).modSlot a (fun r => { r with
      state := .theirs, owner := some x, claim := 0, quiet := 0, assign := .none, handed := false }))) := rfl

end Peer

/-! ### The slot unit takes an arrival -/

/-- This station drove the slot's header in the cycle. -/
def droveHeader (s : State) (a : SlotAddr) (c : CycleNo) : Bool :=
  (slotAt s a).driven.any (fun x => sameCycle s (laneOf a) x.cycle c)

/-- It did, and the outcome has already raised the header error count. -/
def countedHeader (s : State) (a : SlotAddr) (c : CycleNo) : Bool :=
  (slotAt s a).driven.any (fun x => sameCycle s (laneOf a) x.cycle c && x.counted)

theorem droveHeader_iff (s : State) (a : SlotAddr) (c : CycleNo) :
    droveHeader s a c = true ↔ ∃ d, (slotAt s a).driven = some d ∧ OneCycle s (laneOf a) d.cycle c := by
  simp [droveHeader, Option.any_eq_true, sameCycle_iff]

theorem countedHeader_iff (s : State) (a : SlotAddr) (c : CycleNo) :
    countedHeader s a c = true ↔ droveHeader s a c = true ∧ ∃ d, (slotAt s a).driven = some d ∧ d.counted = true := by
  unfold countedHeader droveHeader
  cases (slotAt s a).driven <;> simp

section Learn

variable {a : SlotAddr} {c : CycleNo} {s : State} {hd : Header}

theorem learn_free (a : SlotAddr) (c : CycleNo) (s : State) :
    learn a c .free s = s.modSlot a (fun r => r.arrived.seenFree) := modSlot_modSlot _ _ _ _

theorem learn_fault (a : SlotAddr) (c : CycleNo) (s : State) :
    learn a c .fault s = s.modSlot a (fun r => r.arrived.seenFault (countedHeader s a c)) := modSlot_modSlot _ _ _ _

theorem learn_own (h : hd.owner = ownId s) : learn a c (.valid hd) s =
    if droveHeader s a c then s.modSlot a SlotRec.arrived else ownHeader a (s.modSlot a SlotRec.arrived) := if_pos h

theorem learn_peer (h : hd.owner ≠ ownId s) : learn a c (.valid hd) s =
    foreignHeader a (droveHeader s a c) hd.owner (s.modSlot a SlotRec.arrived) := if_neg h

/-- A header under this station's ID, not followed by a second: the run of them stands at one (R75), or where a header
that this station drove left it. -/
theorem learn_own_run (h : hd.owner = ownId s) (hrun : droveHeader s a c = false → (slotAt s a).ownRun = 0) :
    learn a c (.valid hd) s =
      s.modSlot a (fun r => { r.arrived with ownRun := if droveHeader s a c then r.ownRun else 1 }) := by
  rw [learn_own h]
  cases hdrove : droveHeader s a c with
  | true => rfl
  | false =>
    have hzero : (slotAt (s.modSlot a SlotRec.arrived) a).ownRun = 0 := by
      rw [slotAt_modSlot_same]
      exact hrun hdrove
    simp only [Bool.false_eq_true, if_false, ownHeader, if_pos hzero]
    exact modSlot_modSlot _ _ _ _

/-- The second header running under this station's ID that it did not drive is an ID clash (R75). -/
theorem learn_clash (h : hd.owner = ownId s) (hdrove : droveHeader s a c = false) (hrun : (slotAt s a).ownRun ≠ 0) :
    learn a c (.valid hd) s = idClash (.slot a) (s.modSlot a SlotRec.arrived) := by
  have hsecond : (slotAt (s.modSlot a SlotRec.arrived) a).ownRun ≠ 0 := by
    rw [slotAt_modSlot_same]
    exact hrun
  rw [learn_own h, hdrove]
  exact if_neg hsecond

/-- The state with the roster refreshed by a peer's header, which no other reading does. -/
def headerHeard (h : HeaderRead) (s : State) : State :=
  match h with
  | .valid hd => refresh hd.owner .header s
  | _ => s

theorem refresh_own (h : hd.owner = ownId s) (by_ : HeardBy) : refresh hd.owner by_ s = s := if_pos h

/-- Where the arrival is no clash and takes no slot from this station, the record learns, and nothing else happens. -/
theorem learn_eq_learnt (a : SlotAddr) (c : CycleNo) (h : HeaderRead) (s : State)
    (hown : ∀ hd, h = .valid hd → droveHeader s a c = false → hd.owner = ownId s → (slotAt s a).ownRun = 0)
    (hpeer : ∀ hd, h = .valid hd → droveHeader s a c = false → hd.owner ≠ ownId s →
      (slotAt s a).state ≠ .claiming ∧ (slotAt s a).state ≠ .mine) :
    learn a c h s = (headerHeard h s).modSlot a
      (fun r => learnt (droveHeader s a c) (countedHeader s a c) r h (ownId s)) := by
  cases h with
  | free => simp only [learn_free, learnt_free]; rfl
  | fault => simp only [learn_fault, learnt_fault]; rfl
  | valid hd =>
    by_cases howner : hd.owner = ownId s
    · rw [learn_own_run howner (fun hdrove => hown hd rfl hdrove howner)]
      simp only [learnt_own _ _ _ howner, headerHeard, refresh_own howner]
    · rw [learn_peer howner, foreignHeader_eq]
      simp only [headerHeard]
      have hkept : (slotAt s a).state = .claiming ∨ (slotAt s a).state = .mine →
          peerArrived a hd.owner s = (refresh hd.owner .header s).modSlot a
            (fun r => learnt (droveHeader s a c) (countedHeader s a c) r (.valid hd) (ownId s)) := fun hstate =>
        modSlot_congr _ (by rw [slotAt_refresh, learnt_kept _ _ _ howner hstate])
      have hlearns : (slotAt s a).state ≠ .claiming → (slotAt s a).state ≠ .mine →
          (peerArrived a hd.owner s).modSlot a (SlotRec.seenOwner hd.owner) =
            (refresh hd.owner .header s).modSlot a
              (fun r => learnt (droveHeader s a c) (countedHeader s a c) r (.valid hd) (ownId s)) := fun hc hm =>
        (peerArrived_seenOwner a hd.owner s).trans
          (modSlot_congr _ (by rw [slotAt_refresh, learnt_peer _ _ _ howner hc hm]))
      have hdrove : (slotAt s a).state = .claiming ∨ (slotAt s a).state = .mine → droveHeader s a c = true := by
        intro hstate
        by_contra hnot
        have := hpeer hd rfl (by simpa using hnot) howner
        tauto
      cases hstate : (slotAt s a).state with
      | claiming =>
        have hdrove := hdrove (Or.inl hstate)
        simp only [hdrove, if_true] at hkept ⊢
        exact hkept (Or.inl hstate)
      | mine =>
        have hdrove := hdrove (Or.inr hstate)
        simp only [hdrove, if_true] at hkept ⊢
        exact hkept (Or.inr hstate)
      | unseen | free | theirs | barred => exact hlearns (by simp [hstate]) (by simp [hstate])

end Learn

/-! ### The whole arrival (R15, R28) -/

theorem countFault_eq (l : LaneNo) (h : HeaderRead) (s : State) : countFault l h s = s.modLane l (fun x =>
    { x with headerErrors := if h = .fault then bump x.headerErrors else x.headerErrors }) := by
  unfold countFault
  split
  · rfl
  · exact (modLane_self s rfl).symm

/-- A count of header faults does not change which cycle a number names. -/
theorem sameCycle_countFault (l k : LaneNo) (h : HeaderRead) (s : State) (x c : CycleNo) :
    sameCycle (countFault l h s) k x c = sameCycle s k x c := by
  unfold sameCycle
  rw [countFault_eq, laneAt_modLane]
  split
  · rename_i hk
    subst hk
    rfl
  · rfl

theorem slotAt_countFault (l : LaneNo) (h : HeaderRead) (s : State) (a : SlotAddr) :
    slotAt (countFault l h s) a = slotAt s a := by
  rw [countFault_eq]
  rfl

theorem droveHeader_countFault (l : LaneNo) (h : HeaderRead) (s : State) (a : SlotAddr) (c : CycleNo) :
    droveHeader (countFault l h s) a c = droveHeader s a c := by
  simp only [droveHeader, slotAt_countFault, sameCycle_countFault]

theorem countedHeader_countFault (l : LaneNo) (h : HeaderRead) (s : State) (a : SlotAddr) (c : CycleNo) :
    countedHeader (countFault l h s) a c = countedHeader s a c := by
  simp only [countedHeader, slotAt_countFault, sameCycle_countFault]

theorem ownId_countFault (l : LaneNo) (h : HeaderRead) (s : State) : ownId (countFault l h s) = ownId s := by
  rw [countFault_eq]
  rfl

/-- An arrival that is delivered: the lane's count, the slot unit, and once ATTACHED the receive engine. -/
theorem exec_slotArrival_delivered {a : SlotAddr} {c : CycleNo} (header : BitVec 40) (payload : Vector Byte 32)
    {s : State} (hreset : s.pins.resetAsserted = false) (hrun : s.Running)
    (hlock : (laneAt s (laneOf a)).state = .locked) (hpass : SlotPassing s a c) :
    let t := learn a c (readHeader header) (countFault (laneOf a) (readHeader header) s)
    exec (.slotArrival a c header payload) s = .next (settle
      (if t.loader.state = .attached then rxArrival a c (readHeader header) payload.toList t else t)) := by
  rw [exec_slotArrival, execSlotArrival, run_of_released hreset,
    if_pos ⟨(running_iff s).mpr hrun, (isLocked_iff s _).mpr hlock, (slotOfLane_iff s a c).mpr hpass⟩]
  simp only [attached_iff]
  rfl

/-- No other arrival is delivered. -/
theorem exec_slotArrival_ignored {a : SlotAddr} {c : CycleNo} (header : BitVec 40) (payload : Vector Byte 32)
    {s : State} (hreset : s.pins.resetAsserted = false)
    (h : ¬ s.Running ∨ (laneAt s (laneOf a)).state ≠ .locked ∨ ¬ SlotPassing s a c) :
    exec (.slotArrival a c header payload) s = .next (settle s) := by
  rw [exec_slotArrival, execSlotArrival, run_of_released hreset, if_neg]
  rw [running_iff, isLocked_iff, slotOfLane_iff]
  tauto

/-- The clash an arrival brings: the station as it was before the arrival enters FAILED. -/
theorem arrival_clash (a : SlotAddr) {s : State} (hrun : s.Running) :
    let t := idClash (.slot a) (s.modSlot a SlotRec.arrived)
    t.Still ∧ t.loader.state = .failed ∧ t.loader.reason = .idClash ∧
      t = failedFrom s (clashed s) (fun padding => .idClash (.slot a) padding) ∧
      t.port.reports = (s.port.post (.idClash (.slot a) (outputPadding s.port.stage))).1.reports :=
  idClash_spec (.slot a) (s := s.modSlot a SlotRec.arrived) hrun

/-- Settles O28: what the record learns, then the clash, then a slot taken from this station. -/
theorem slotArrivalTeachesTheSlotMap : Obligations.SlotArrivalTeachesTheSlotMap := by
  intro a c header payload s hreset hrun hlock hpass driven counted hdriven hcounted
  obtain rfl : droveHeader s a c = driven := Bool.eq_iff_iff.mpr ((droveHeader_iff s a c).trans hdriven.symm)
  obtain rfl : countedHeader s a c = counted := Bool.eq_iff_iff.mpr ((countedHeader_iff s a c).trans hcounted.symm)
  have hexec := exec_slotArrival_delivered header payload hreset hrun hlock hpass
  intro h s1 s2 delivers
  have hs1 : countFault (laneOf a) h s = s1 := countFault_eq _ _ _
  have hs2 : headerHeard h s1 = s2 := by
    simp only [s2]
    cases h <;> rfl
  have hdelivers : ∀ {t}, learn a c h (countFault (laneOf a) h s) = t → delivers t := by
    rintro _ rfl
    exact hexec
  have hlearns := learn_eq_learnt a c h (countFault (laneOf a) h s)
  simp only [droveHeader_countFault, countedHeader_countFault, slotAt_countFault, ownId_countFault] at hlearns
  rw [hs1, hs2] at hlearns
  refine ⟨fun hown hpeer => hdelivers ?_, fun hd hh hdrove howner hown => ?_, fun hd hh hdrove howner => ?_⟩
  · rw [hs1]
    exact hlearns hown hpeer
  · have hnone : countFault (laneOf a) (readHeader header) s = s := if_neg (by
      rw [show readHeader header = _ from hh]
      nofun)
    have hclash : learn a c (readHeader header) (countFault (laneOf a) (readHeader header) s) =
        idClash (.slot a) (s.modSlot a SlotRec.arrived) := by
      rw [hnone, show readHeader header = _ from hh]
      exact learn_clash howner hdrove hown
    obtain ⟨hstill, hfailed, hreason, heq, hreports⟩ := arrival_clash a hrun
    refine ⟨_, ?_, hstill, hfailed, hreason, heq, hreports⟩
    simp only [hclash, hfailed] at hexec
    simpa using hexec
  · intro s3 taken
    have hheard : refresh hd.owner .header s1 = s2 := by
      rw [← hs2, hh]
      rfl
    have hs3 : peerArrived a hd.owner s1 = s3 := by
      rw [peerArrived, hheard]
      rfl
    have hstate : (slotAt s1 a).state = (slotAt s a).state := rfl
    have hforeign : learn a c h (countFault (laneOf a) h s) =
        foreignHeader a false hd.owner (s1.modSlot a SlotRec.arrived) := by
      rw [hh, learn_peer (by rw [ownId_countFault]; exact howner), ← hh, droveHeader_countFault, hdrove, hs1]
    rw [foreignHeader_eq, hstate, hs3] at hforeign
    refine ⟨fun hclaiming => hdelivers ?_, fun hmine => hdelivers ?_⟩
    · rw [hforeign, hclaiming]
      rfl
    · have hhanded : (slotAt s3 a).handed = (slotAt s a).handed := by
        rw [← hs3, slotAt_peerArrived]
        rfl
      rw [hforeign, hmine]
      simp only [Bool.false_eq_true, if_false, seize_eq, hhanded]
      rfl

end Sys2Proof.Machine
end


section
/-! SUPPORT. What a mark does to the timing unit (R36, R37, R39, R43, R44): the roles it leaves and enters, the cycle it
declares live, and the outcome of a mark this station emitted. -/

namespace Sys2Proof.Machine

/-! ### Live cycles (R36) -/

/-- A live cycle, field by field. -/
theorem liveTick_eq (s : State) : liveTick s = liveAdvanced s := by
  have hqueue : s.notice.liveTick.queue = (liveAdvanced s).notice.queue := by
    refine List.map_congr_left fun e _ => ?_
    cases e.owner <;> rfl
  unfold liveTick
  rw [show s.notice.liveTick = { s.notice with queue := s.notice.liveTick.queue } from rfl, hqueue]
  rfl

theorem declareLive_eq (c : CycleNo) (s : State) : declareLive c s = if s.timing.live.contains c then s
    else liveAdvanced { s with timing := { s.timing with live := c :: s.timing.live } } := by
  unfold declareLive
  rw [liveTick_eq]
  rfl

/-! ### Roles left and entered (R38, R39, R43, R46) -/

theorem enterElecting_eq (s : State) : enterElecting s = elected s := by
  unfold enterElecting elected
  split <;> rfl

theorem laneAt_cutMarks_but (l k : LaneNo) (s : State) : laneAt (cutMarks (some l) s) k =
    if k = l then laneAt s k
    else { laneAt s k with emitted := (laneAt s k).emitted.map (fun e => { e with cut := e.cut || e.awaited }) } := by
  unfold laneAt cutMarks
  rw [vget_vset, vget_vmap]
  split
  · rename_i h
    rw [h]
    rfl
  · rfl

/-- Yielding to the pacer of a mark met on a lane (R43). -/
theorem yielded_yield_ (l : LaneNo) (pacer : StationId) (s : State) : Yielded l pacer s (yield_ l pacer s) :=
  ⟨rfl, fun k => laneAt_cutMarks_but l k s⟩

/-! ### The outcome of a mark (R44) -/

/-- The emission whose outcome is handed awaits none any more. -/
def markHandedOn (l : LaneNo) (e : Emission) (s : State) : State :=
  s.modLane l (fun x => { x with emitted := some { e with awaited := false } })

theorem exec_markOutcome_awaited {l : LaneNo} {e : Emission} {s : State} (result : ReadBack 64)
    (hreset : s.pins.resetAsserted = false) (he : (laneAt s l).emitted = some e) (ha : e.awaited = true) :
    exec (.markOutcome l result) s = .next (settle (markOutcome l (e.outcome result)
      (field (ReadBack.word result) 16 6) (markHandedOn l e s))) := by
  rw [exec_markOutcome, execMarkOutcome, run_of_released hreset]
  simp only [he, ha, if_true]
  rfl

theorem exec_markOutcome_unawaited {l : LaneNo} {s : State} (result : ReadBack 64)
    (hreset : s.pins.resetAsserted = false) (h : ∀ e, (laneAt s l).emitted = some e → e.awaited = false) :
    exec (.markOutcome l result) s = .next (settle s) := by
  rw [exec_markOutcome, execMarkOutcome, run_of_released hreset]
  cases he : (laneAt s l).emitted with
  | none => rfl
  | some e => simp [h e he]

/-- While PACING, an outcome does what R44 says of it. -/
theorem markOutcome_pacing (l : LaneNo) (o : SendOutcome) (read : StationId) {s : State}
    (h : s.timing.role = .pacing) : markOutcome l o read s = match o with
      | .won | .abandoned => s
      | .lostIn => yield_ l read s
      | .lostBefore | .lostAfter _ => elected s := by
  rw [markOutcome.eq_def, if_neg (by simp [h])]
  cases o with
  | won | abandoned | lostIn => rfl
  | lostBefore | lostAfter _ => exact enterElecting_eq s

theorem markOutcome_not_pacing (l : LaneNo) (o : SendOutcome) (read : StationId) {s : State}
    (h : s.timing.role ≠ .pacing) : markOutcome l o read s = s := by
  rw [markOutcome.eq_def, if_pos h]

/-! ### A valid mark (R36, R37, R39, R43) -/

/-- The timing unit has heard a mark of a pacer: the quiet count is cleared. -/
def markHeard (pacer : StationId) (s : State) : State :=
  { refresh pacer .mark s with timing := { (refresh pacer .mark s).timing with quiet := 0, heard := true } }

/-- The flywheel cycle in which a mark heard at place m began is live. -/
def markLive (m : Nat) (pacer : StationId) (s : State) : State := declareLive (cycleAt m) (markHeard pacer s)

section MarkLive

variable (m : Nat) (pacer : StationId) (s : State)

@[simp] theorem markLive_loader : (markLive m pacer s).loader = s.loader := by
  rw [markLive, declareLive_eq, ← refresh_loader pacer .mark s]
  split <;> rfl

@[simp] theorem markLive_lanes : (markLive m pacer s).lanes = s.lanes := by
  rw [markLive, declareLive_eq, ← refresh_lanes pacer .mark s]
  split <;> rfl

@[simp] theorem markLive_role : (markLive m pacer s).timing.role = s.timing.role := by
  rw [markLive, declareLive_eq, ← refresh_timing pacer .mark s]
  split <;> rfl

@[simp] theorem laneAt_markLive (l : LaneNo) : laneAt (markLive m pacer s) l = laneAt s l := by simp [laneAt]

@[simp] theorem ownId_markLive : ownId (markLive m pacer s) = ownId s := by simp [ownId, cfg]

end MarkLive

/-- What a mark does in each role, once heard and its cycle live (R37, R39, R43). -/
def markTaken (l : LaneNo) (m : Nat) (word : BitVec 64) (pacer : StationId) (s : State) : Role → State
  | .quiet => s
  | .following => s.modTiming (fun t => { t with silent := vset t.silent l 0 })
  | .electing => endElection pacer (place m 64) s
  | .pacing => if ownMark (laneAt s l) m word then s else foreignMark l pacer s

theorem timingMark_eq (l : LaneNo) (m : Nat) (word : BitVec 64) (f : MarkFields) (s : State) :
    timingMark l m word f s = markTaken l m word f.pacer (markLive m f.pacer s) s.timing.role := by
  have hlive : declareLive (cycleAt m) ((refresh f.pacer .mark s).modTiming (fun t =>
      { t with quiet := 0, heard := true })) = markLive m f.pacer s := rfl
  rw [← markLive_role m f.pacer s, timingMark, hlive]
  cases (markLive m f.pacer s).timing.role <;> rfl

/-- A mark found at place m with these bits is this station's own (R43, log entry 36). -/
theorem ownMark_iff (x : Lane) (m : Nat) (word : BitVec 64) :
    ownMark x m word = true ↔ ∃ e, x.emitted = some e ∧ e.pos = m ∧ e.word = word := by
  simp [ownMark, Option.any_eq_true]

/-- The end of an election changes the lanes, the timing record and the reports (R39). -/
theorem endElection_eta (pacer : StationId) (now : Nat) (s : State) : endElection pacer now s = { s with
    lanes := (endElection pacer now s).lanes
    timing := { s.timing with
      role := .following, wait := 0, pacer := some pacer, rephase := s.timing.phased || s.timing.rephase }
    port := (s.port.post (.timingRole .electing .following (some pacer)
      (if s.timing.phased then some s.timing.number else none))).1 } := rfl

/-- The cycle under way on a LOCKED lane stays undriven at the end of an election (R8, log entry 5). -/
theorem laneAt_endElection (pacer : StationId) (now : Nat) (s : State) (k : LaneNo) :
    laneAt (endElection pacer now s) k = { laneAt s k with
      r8Failed := if (laneAt s k).state = .locked then currentCycle (laneAt s k) now else (laneAt s k).r8Failed } := by
  have h : laneAt (endElection pacer now s) k = if (laneAt s k).state = .locked then
      { laneAt s k with r8Failed := currentCycle (laneAt s k) now } else laneAt s k := vget_vmap _ _ _
  rw [h]
  split <;> rfl

theorem currentCycle_eq {x : Lane} {n : CycleNo} {p : Nat} (now : Nat) (hn : x.expNum = some n)
    (hp : x.expPos = some p) : currentCycle x now = some (if 0 ≤ placeDiff now p then n else n - 1) := by
  unfold currentCycle
  rw [hn, hp]
  dsimp only
  split <;> rfl

/-- Settles O12: the outcome of a mark emitted, then a mark met in each role. -/
theorem markOutcomeWhilePacing : Obligations.MarkOutcomeWhilePacing := by
  refine ⟨fun l result s hreset => ⟨fun e he ha => ?_, exec_markOutcome_unawaited result hreset⟩,
    fun l m word f s => ?_⟩
  · rw [exec_markOutcome_awaited result hreset he ha]
    intro s1 o
    refine ⟨fun hrole => ?_, fun hrole => ?_⟩
    · rw [markOutcome_not_pacing (s := markHandedOn l e s) l _ _ hrole]
      rfl
    rw [markOutcome_pacing (s := markHandedOn l e s) l _ _ hrole]
    refine ⟨fun ho => ?_, fun ho => ?_, fun ok ho => ?_, fun ho => ?_, fun read hread ho => ?_⟩ <;>
      rw [show e.outcome result = _ from ho]
    · rfl
    · rfl
    · rfl
    · rfl
    · rw [hread]
      exact ⟨_, rfl, yielded_yield_ _ _ _⟩
  · intro heard s1 c s2 t own
    have hs2 : markLive m f.pacer s = s2 := declareLive_eq _ _
    have ht : t = markTaken l m word f.pacer s2 s.timing.role := hs2 ▸ timingMark_eq l m word f s
    have hown : ownMark (laneAt s2 l) m word = true ↔ own := by
      rw [ownMark_iff, ← hs2, laneAt_markLive]
    have hid : ownId s2 = ownId s := hs2 ▸ ownId_markLive m f.pacer s
    refine ⟨fun hrole => ?_, fun hrole => ?_, fun hrole => ?_, fun hrole => ?_⟩ <;> rw [hrole] at ht
    · exact ht
    · exact ht
    · replace ht : t = endElection f.pacer (place m 64) s2 := ht
      refine ⟨ht ▸ endElection_eta _ _ _, fun k => ?_⟩
      have hk := laneAt_endElection f.pacer (place m 64) s2 k
      rw [← ht] at hk
      refine ⟨by rw [hk], fun hstate => ?_, fun n p hstate hn hp => ?_⟩
      · rw [hk, if_neg hstate]
      · rw [hk, if_pos hstate, currentCycle_eq _ hn hp]
    · have hforeign : ¬ own → t = foreignMark l f.pacer s2 := fun h => ht.trans (if_neg (hown.not.mpr h))
      refine ⟨fun h => ht.trans (if_pos (hown.mpr h)), fun h hlower => ?_, fun h hsame => ?_, fun h hhigher => ?_⟩
      · rw [hforeign h, foreignMark, if_pos (by rwa [hid])]
        exact yielded_yield_ _ _ _
      · rw [hforeign h, foreignMark, if_neg (by rw [hid, hsame]; omega), if_pos (by rw [hid, hsame]),
          enterElecting_eq]
      · rw [hforeign h, foreignMark, if_neg (by rw [hid]; omega), if_neg]
        intro hsame
        rw [hsame, hid] at hhigher
        omega

end Sys2Proof.Machine
end


section
/-! SUPPORT. A slot arrival at the receive engine (R109 to R112): what it is to each record, and what a record does with
it. -/

namespace Sys2Proof.Machine

/-! ### What an arrival is to a record (R109) -/

/-- A trunk's header is its lowest record's outside VACANT that holds its owner and tag. -/
theorem rxMatch_eq_some (s : State) (source : StationId) (tag : Tag) (r : RecIx) :
    rxMatch s source tag = some r ↔
      ((rxAt s r).state ≠ .vacant ∧ (rxAt s r).source = some source ∧ (rxAt s r).tag = some tag) ∧
        ∀ k < r, ¬ ((rxAt s k).state ≠ .vacant ∧ (rxAt s k).source = some source ∧ (rxAt s k).tag = some tag) := by
  rw [rxMatch, find?_allRecs]
  simp only [← Bool.not_eq_true, Bool.and_eq_true, bne_iff_ne, beq_iff_eq, and_assoc]

theorem trunkHeader_iff (s : State) (hd : Header) (r : RecIx) :
    TrunkHeader s hd r ↔ hd.sink = ownId s ∧ hd.role ≠ .spare ∧ rxMatch s hd.owner hd.tag = some r := by
  rw [rxMatch_eq_some]
  rfl

/-- Noting the lane position changes neither who holds a trunk nor this station's ID. -/
theorem rxMatch_setLanePos (a : SlotAddr) (c : CycleNo) (s : State) (source : StationId) (tag : Tag) :
    rxMatch (setLanePos a c s) source tag = rxMatch s source tag := by
  simp [rxMatch, rxAt, setLanePos]

theorem takenBy_trunk {a : SlotAddr} {c : CycleNo} {s : State} {hd : Header} {r : RecIx} (payload : List Byte)
    (h : TrunkHeader s hd r) : takenBy (setLanePos a c s) r (.valid hd) payload =
      .trunk hd.seq hd.role hd.epoch hd.width payload := by
  rw [trunkHeader_iff, ← rxMatch_setLanePos a c] at h
  exact if_pos h

theorem takenBy_foreign {a : SlotAddr} {c : CycleNo} {s : State} {hd : Header} {r : RecIx} (payload : List Byte)
    (h : ¬ TrunkHeader s hd r) :
    takenBy (setLanePos a c s) r (.valid hd) payload = .other (.foreign hd.owner) := by
  rw [trunkHeader_iff, ← rxMatch_setLanePos a c] at h
  exact if_neg h

/-- A header addressed here whose trunk no record holds is a stray. -/
theorem strayHeader_some {a : SlotAddr} {c : CycleNo} {s : State} {hd : Header} (hsink : hd.sink = ownId s)
    (hrole : hd.role ≠ .spare) (h : ∀ r, ¬ TrunkHeader s hd r) :
    strayHeader (setLanePos a c s) (.valid hd) = some (hd.owner, hd.tag) := by
  refine if_pos ⟨hsink, hrole, ?_⟩
  rw [rxMatch_setLanePos, Option.isNone_iff_eq_none, Option.eq_none_iff_forall_not_mem]
  exact fun r hr => h r ((trunkHeader_iff s hd r).mpr ⟨hsink, hrole, hr⟩)

/-- No other arrival is. -/
theorem strayHeader_none {a : SlotAddr} {c : CycleNo} {s : State} {h : HeaderRead}
    (hh : ∀ hd, h = .valid hd → hd.sink ≠ ownId s ∨ hd.role = .spare ∨ ∃ r, TrunkHeader s hd r) :
    strayHeader (setLanePos a c s) h = none := by
  cases h with
  | free | fault => rfl
  | valid hd =>
    refine if_neg ?_
    rw [rxMatch_setLanePos]
    rintro ⟨hsink, hrole, hnone⟩
    rcases hh hd rfl with hno | hspare | ⟨r, hr⟩
    · exact hno hsink
    · exact hrole hspare
    · rw [((trunkHeader_iff s hd r).mp hr).2.2] at hnone
      exact absurd hnone (by simp)

/-- Each ACCEPTED record takes an arrival, in index order (log entry 65). -/
def recordsTake (a : SlotAddr) (c : CycleNo) (what : RecIx → Taken) (s : State) : State :=
  allRecs.foldl (fun x r => if (rxAt x r).state = .accepted then takeArrival r a c (what r) x else x) s

theorem rxArrival_stray {a : SlotAddr} {c : CycleNo} {h : HeaderRead} (payload : List Byte) {s : State}
    {owner : StationId} {tag : Tag} (hy : strayHeader (setLanePos a c s) h = some (owner, tag)) :
    rxArrival a c h payload s = takeStray owner tag c
      (recordsTake a c (fun r => takenBy (setLanePos a c s) r h payload) (setLanePos a c s)) := by
  simp only [rxArrival, hy, recordsTake]

theorem rxArrival_no_stray {a : SlotAddr} {c : CycleNo} {h : HeaderRead} (payload : List Byte) {s : State}
    (hy : strayHeader (setLanePos a c s) h = none) :
    rxArrival a c h payload s =
      recordsTake a c (fun r => takenBy (setLanePos a c s) r h payload) (setLanePos a c s) := by
  simp only [rxArrival, hy, recordsTake]

/-! ### One record takes an arrival (R110 to R112) -/

section TakeArrival

variable (r : RecIx) (a : SlotAddr) (c : CycleNo) (s : State)

theorem laneInView_iff (v : List ViewEntry) (l : LaneNo) : laneInView v l = true ↔ ∃ e ∈ v, laneOf e.slot = l := by
  simp [laneInView]

theorem inView_iff (v : List ViewEntry) : inView v a = true ↔ ∃ e ∈ v, e.slot = a := by simp [inView]

theorem inView_eq_false (v : List ViewEntry) : inView v a = false ↔ ∀ e ∈ v, e.slot ≠ a := by simp [inView]

/-- A trunk's header: the cycles that are due complete, it is seen, stored, and the cycles done with complete. -/
theorem takeArrival_trunk (seq : BitVec 4) (role : HeaderRole) (epoch : Epoch) (width : BitVec 5)
    (payload : List Byte) : takeArrival r a c (.trunk seq role epoch width payload) s =
      completeDone r 8 (store r c a (.header seq role epoch width (if role = .hold then [] else payload))
        (seeHeader r a seq role (completeDue r c 128 s))) := by
  simp [takeArrival, Taken.item]

/-- Anything else on a lane of the view is stored between the two. -/
theorem takeArrival_other (i : Item) (h : ∃ e ∈ (rxAt s r).view, laneOf e.slot = laneOf a) :
    takeArrival r a c (.other i) s = completeDone r 8 (store r c a i (completeDue r c 128 s)) := by
  rw [← laneInView_iff] at h
  simp [takeArrival, Taken.item, h]

/-- On a lane that holds no slot of the view it is not the record's concern. -/
theorem takeArrival_unconcerned (i : Item) (h : ¬ ∃ e ∈ (rxAt s r).view, laneOf e.slot = laneOf a) :
    takeArrival r a c (.other i) s = s := by
  rw [← laneInView_iff] at h
  simp [takeArrival, h]

end TakeArrival

/-! ### Which cycles complete (R111, R112) -/

theorem completeDue_some {r : RecIx} {s : State} {n : CycleNo} (c : CycleNo) (h : (rxAt s r).next = some n) (k : Nat) :
    completeDue r c (k + 1) s =
      if ((cfg s).skewLimit + 1 : Int) ≤ (c - n).toInt then completeDue r c k (completeNext r s) else s := by
  rw [completeDue, h]
  rfl

theorem completeDue_none {r : RecIx} {s : State} (c : CycleNo) (h : (rxAt s r).next = none) (k : Nat) :
    completeDue r c k s = s := by
  cases k with
  | zero => rfl
  | succ k => rw [completeDue, h]

theorem completeDone_none {r : RecIx} {s : State} (h : (rxAt s r).next = none) (k : Nat) : completeDone r k s = s := by
  cases k with
  | zero => rfl
  | succ k => rw [completeDone, h]

theorem completeDone_some {r : RecIx} {s : State} {n : CycleNo} (h : (rxAt s r).next = some n) (k : Nat) :
    completeDone r (k + 1) s = if allDone s (rxAt s r) n then completeDone r k (completeNext r s) else s := by
  rw [completeDone, h]

theorem foldl_max_le {l : List Nat} {a b : Nat} : l.foldl max a ≤ b ↔ a ≤ b ∧ ∀ x ∈ l, x ≤ b := by
  induction l generalizing a with
  | nil => simp
  | cons x l ih => simp [ih, and_assoc]

theorem lastSlot_le_iff (v : List ViewEntry) (l : LaneNo) (b : Nat) :
    lastSlot v l ≤ b ↔ ∀ e ∈ v, laneOf e.slot = l → (slotIx e.slot).val ≤ b := by
  simp only [lastSlot, foldl_max_le, Nat.zero_le, true_and, List.forall_mem_map, List.mem_filter, beq_iff_eq, and_imp]

/-- A lane has passed a slot index of a cycle: it is in a later cycle, or that far in this one. -/
theorem passed_iff (pos : Option (CycleNo × Fin 16)) (n : CycleNo) (ix : Nat) :
    passed pos n ix = true ↔ ∃ p, pos = some p ∧ (0 < (p.1 - n).toInt ∨ p.1 = n ∧ ix ≤ p.2.val) := by
  cases pos <;> simp [passed, cycleDiff]

/-- Every lane of the view is LOCKED and past its last slot in view. -/
theorem allDone_iff (s : State) (e : RxRec) (n : CycleNo) : allDone s e n = true ↔
    ∀ x ∈ e.view, (laneAt s (laneOf x.slot)).state = .locked ∧ ∃ p, vget e.lanePos (laneOf x.slot) = some p ∧
      (0 < (p.1 - n).toInt ∨ p.1 = n ∧ (slotIx x.slot).val ≤ p.2.val) := by
  have hall : allDone s e n = true ↔ ∀ l, (∃ x ∈ e.view, laneOf x.slot = l) →
      (laneAt s l).state = .locked ∧ ∃ p, vget e.lanePos l = some p ∧
        (0 < (p.1 - n).toInt ∨ p.1 = n ∧ lastSlot e.view l ≤ p.2.val) := by
    simp only [allDone, List.all_eq_true, Bool.or_eq_true, Bool.not_eq_true', Bool.and_eq_true, isLocked_iff,
      passed_iff, ← laneInView_iff, mem_allLanes, true_implies, or_iff_not_imp_left, Bool.not_eq_false]
  rw [hall]
  constructor
  · intro h x hx
    obtain ⟨hlock, p, hp, hpast⟩ := h _ ⟨x, hx, rfl⟩
    exact ⟨hlock, p, hp, hpast.imp_right fun ⟨hn, hlast⟩ => ⟨hn, (lastSlot_le_iff _ _ _).mp hlast x hx rfl⟩⟩
  · rintro h _ ⟨x, hx, rfl⟩
    obtain ⟨hlock, p, hp, hpast⟩ := h x hx
    refine ⟨hlock, p, hp, hpast.imp_right fun ⟨hn, _⟩ => ⟨hn, (lastSlot_le_iff _ _ _).mpr fun y hy hlane => ?_⟩⟩
    obtain ⟨-, q, hq, hpast'⟩ := h y hy
    rw [hlane, hp, Option.some.injEq] at hq
    subst hq
    rcases hpast' with hlater | ⟨-, hle⟩
    · simp [hn] at hlater
    · exact hle

/-! ### The view (R110) -/

section View

variable (r : RecIx) (a : SlotAddr) (seq : BitVec 4) (role : HeaderRole) {s : State}

/-- A TALLY is posted, not over a DISMISS (R108, R119). -/
theorem postTally_eq (s : State) : postTally r s =
    if (queued s (.rx r)).any (fun e => e.body.kind == 2) then s
    else postNotice (.rx r) ((rxAt s r).source.getD nobody) (.tally (tallyBody s r)) s := by
  unfold postTally rxEntryKind
  cases queued s (.rx r) <;> simp

theorem addEntry_eq (v : List ViewEntry) (s : State) : addEntry r a v s = joined r a v s := by
  have hskew : ∀ u : State, (rxAt u r).view = v →
      recomputeSkew r u = u.modRx r (fun e => { e with skew := viewSkew u v }) :=
    fun u hu => modRx_congr u (by rw [hu])
  unfold addEntry joined
  simp only [postTally_eq, Option.isNone_iff_eq_none]
  rw [hskew _ (by rw [rxAt_modRx_same])]

/-- A header of a slot in view updates its entry. -/
theorem seeHeader_inView (h : ∃ e ∈ (rxAt s r).view, e.slot = a) :
    seeHeader r a seq role s = s.modRx r (fun e => { e with
      view := (rxAt s r).view.map (fun y => if y.slot = a then { y with seq := seq, role := role } else y) }) := by
  rw [← inView_iff] at h
  simp only [seeHeader, h, if_true]
  exact modRx_congr s (by simp [beq_iff_eq])

/-- A header of a slot not in view enters it where the view has room. -/
theorem seeHeader_room (h : ∀ e ∈ (rxAt s r).view, e.slot ≠ a) (hlen : (rxAt s r).view.length < 16) :
    seeHeader r a seq role s = joined r a ((rxAt s r).view ++ [newEntry a seq role]) s := by
  rw [← inView_eq_false] at h
  simp [seeHeader, h, enterView, hlen, addEntry_eq]

/-- In a full view it takes the place of the entry given up, if there is one. -/
theorem seeHeader_full (h : ∀ e ∈ (rxAt s r).view, e.slot ≠ a) (hlen : 16 ≤ (rxAt s r).view.length) :
    seeHeader r a seq role s = match evicted (rxAt s r).view with
      | some b => joined r a ((rxAt s r).view.filter (fun e => e.slot ≠ b) ++ [newEntry a seq role]) s
      | none => s := by
  rw [← inView_eq_false] at h
  have hfull : ¬ (rxAt s r).view.length < 16 := by omega
  cases hb : evicted (rxAt s r).view <;>
    simp [seeHeader, h, enterView, hfull, hb, addEntry_eq, bne, beq_eq_decide]

end View

/-- Where no entry of the view is absent, none is given up. -/
theorem evicted_none {v : List ViewEntry} (h : ∀ e ∈ v, e.absent = 0) : evicted v = none := by
  have hnil : allSlots.filter (fun a => v.any (fun e => e.slot == a && decide (0 < e.absent))) = [] := by
    simp only [List.filter_eq_nil_iff, List.any_eq_true, Bool.and_eq_true, decide_eq_true_eq, not_exists]
    rintro a - e ⟨he, -, habs⟩
    exact absurd (h e he) (by omega)
  rw [evicted, hnil]
  rfl

/-- The first of a list that a measure puts strictly before all that precede it, and not after any that follows, is the
one `leastBy` finds. -/
theorem leastBy_append {α : Type} (f : α → Nat) (before after : List α) (b : α) (hbefore : ∀ x ∈ before, f b < f x)
    (hafter : ∀ x ∈ after, f b ≤ f x) : leastBy f (before ++ b :: after) = some b := by
  have htail : ∀ l : List α, ∀ y, leastBy f l = some y → y ∈ l := by
    intro l
    induction l with
    | nil => nofun
    | cons x l ih =>
      intro y hy
      rw [leastBy] at hy
      split at hy
      · simp_all
      · split at hy <;> simp_all
  induction before with
  | nil =>
    rw [List.nil_append, leastBy]
    cases h : leastBy f after with
    | none => rfl
    | some y => exact if_pos (hafter y (htail _ y h))
  | cons x before ih =>
    rw [List.cons_append, leastBy, ih fun y hy => hbefore y (List.mem_cons_of_mem _ hy)]
    exact if_neg (Nat.not_le.mpr (hbefore x List.mem_cons_self))

/-- The largest absent run of a slot's entries. -/
def absentOf (v : List ViewEntry) (a : SlotAddr) : Nat :=
  ((v.filter (fun e => e.slot == a)).map (fun e => e.absent)).foldl max 0

theorem absentOf_le_iff (v : List ViewEntry) (a : SlotAddr) (n : Nat) :
    absentOf v a ≤ n ↔ ∀ e ∈ v, e.slot = a → e.absent ≤ n := by
  simp only [absentOf, foldl_max_le, Nat.zero_le, true_and, List.forall_mem_map, List.mem_filter, beq_iff_eq, and_imp]

/-- The entry given up is the one absent longest, of equals that of the lowest address. -/
theorem evicted_some {v : List ViewEntry} {b : ViewEntry} (hb : b ∈ v) (habs : 0 < b.absent)
    (hbound : ∀ e ∈ v, e.absent ≤ 16)
    (hmost : ∀ e ∈ v, e.absent < b.absent ∨ e.absent = b.absent ∧ b.slot ≤ e.slot) : evicted v = some b.slot := by
  let absents := allSlots.filter (fun a => v.any (fun e => e.slot == a && decide (0 < e.absent)))
  have hmem : ∀ a, a ∈ absents ↔ ∃ e ∈ v, e.slot = a ∧ 0 < e.absent := by
    simp [absents, mem_allSlots]
  have hsorted : absents.Pairwise (· < ·) := allSlots_sorted.filter _
  have hle : ∀ a, absentOf v a ≤ b.absent := fun a =>
    (absentOf_le_iff v a _).mpr fun e he _ => by have := hmost e he; omega
  have hbmost : absentOf v b.slot = b.absent :=
    Nat.le_antisymm (hle _) ((absentOf_le_iff v b.slot _).mp le_rfl b hb rfl)
  have hless : ∀ a, a < b.slot → absentOf v a < b.absent := fun a ha => by
    have : absentOf v a ≤ b.absent - 1 := (absentOf_le_iff v a _).mpr fun e he hea => by
      rcases hmost e he with h | ⟨-, h⟩
      · omega
      · exact absurd (hea ▸ ha) (not_lt.mpr h)
    omega
  have hb16 := hbound b hb
  obtain ⟨before, after, hsplit⟩ := List.append_of_mem ((hmem b.slot).mpr ⟨b, hb, rfl, habs⟩)
  change leastBy (fun a => 1024 - absentOf v a) absents = some b.slot
  rw [hsplit] at hsorted ⊢
  refine leastBy_append _ _ _ _ (fun a ha => ?_) (fun a _ => ?_)
  · have := hless a ((List.pairwise_append.mp hsorted).2.2 a ha _ List.mem_cons_self)
    omega
  · have := hle a
    omega

/-! ### What is stored (R111) -/

section Store

variable (r : RecIx) (c : CycleNo) (a : SlotAddr) (item : Item) {s : State}

theorem store_notInView (h : ∀ e ∈ (rxAt s r).view, e.slot ≠ a) : store r c a item s = s := by
  rw [← inView_eq_false] at h
  simp [store, h]

/-- The first item of a record opens its cycle. -/
theorem store_first (h : ∃ e ∈ (rxAt s r).view, e.slot = a) (hnext : (rxAt s r).next = none) :
    store r c a item s = s.modRx r (fun e => ({ e with next := some c } : RxRec).place c a item) := by
  rw [← inView_iff] at h
  simp [store, h, hnext]

/-- An item of a cycle already completed is not stored. -/
theorem store_late {n : CycleNo} (hnext : (rxAt s r).next = some n) (hlate : cycleDiff c n < 0) :
    store r c a item s = s := by
  simp [store, hnext, hlate]

theorem store_open {n : CycleNo} (h : ∃ e ∈ (rxAt s r).view, e.slot = a) (hnext : (rxAt s r).next = some n)
    (hopen : 0 ≤ cycleDiff c n) : store r c a item s = s.modRx r (RxRec.place c a item) := by
  rw [← inView_iff] at h
  simp [store, h, hnext, not_lt.mpr hopen]

/-- The items a cycle's entry holds already. -/
theorem alignAt_eq (e : RxRec) : alignAt e c = match vget e.align (Fin.ofNat 8 c.toNat) with
    | some y => if y.cycle = c then y.items else []
    | none => [] := rfl

theorem alignAt_congr {e e' : RxRec} (h : e.align = e'.align) : alignAt e c = alignAt e' c := by
  simp only [alignAt, h]

/-- The record with an item stored: its cycle's entry holds it, in place of one of the same slot. -/
theorem place_eq (e : RxRec) : e.place c a item = { e with
    align := vset e.align (Fin.ofNat 8 c.toNat)
      (some { cycle := c, items := (alignAt e c).filter (fun p => p.1 ≠ a) ++ [(a, item)] }) } := by
  simp only [RxRec.place, entryIx, bne, beq_eq_decide, ne_eq, decide_not]

end Store

/-! ### The statement -/

/-- An arrival at the receive engine: what it is to each record, and whether it is a stray. -/
theorem rxArrival_reaches (a : SlotAddr) (c : CycleNo) (h : HeaderRead) (payload : List Byte) (s : State) :
    ∃ (what : RecIx → Taken) (s2 : State), s2 = recordsTake a c what (setLanePos a c s) ∧
      (h = .free → ∀ r, what r = .other .free) ∧ (h = .fault → ∀ r, what r = .other .faulty) ∧
      (∀ hd, h = .valid hd → ∀ r,
        (TrunkHeader s hd r → what r = .trunk hd.seq hd.role hd.epoch hd.width payload) ∧
        (¬ TrunkHeader s hd r → what r = .other (.foreign hd.owner))) ∧
      (∀ hd, h = .valid hd → hd.sink = ownId s → hd.role ≠ .spare → (∀ r, ¬ TrunkHeader s hd r) →
        rxArrival a c h payload s = takeStray hd.owner hd.tag c s2) ∧
      ((∀ hd, h = .valid hd → hd.sink ≠ ownId s ∨ hd.role = .spare ∨ ∃ r, TrunkHeader s hd r) →
        rxArrival a c h payload s = s2) := by
  refine ⟨fun r => takenBy (setLanePos a c s) r h payload, _, rfl, ?_, ?_, ?_, ?_, ?_⟩
  · rintro rfl r
    rfl
  · rintro rfl r
    rfl
  · rintro hd rfl r
    exact ⟨takenBy_trunk payload, takenBy_foreign payload⟩
  · rintro hd rfl hsink hrole hnone
    exact rxArrival_stray payload (strayHeader_some hsink hrole hnone)
  · exact fun hh => rxArrival_no_stray payload (strayHeader_none hh)

/-- Settles O29: what is delivered, what it is to each record, and what a record does with it, part by part. -/
theorem slotArrivalReachesBothBlocksOnceAttached : Obligations.SlotArrivalReachesBothBlocksOnceAttached := by
  refine ⟨fun a c header payload s hreset => ⟨exec_slotArrival_ignored header payload hreset,
    fun hattached hlock hpass => ?_⟩, rxArrival_reaches, fun r a c x s => ?_⟩
  · rintro h _ rfl hstill
    exact (exec_slotArrival_delivered header payload hreset (Or.inr hattached) hlock hpass).trans
      (congrArg (fun u => Host.Outcome.next (settle u)) (if_pos hstill))
  intro lane ours concerned item
  refine ⟨fun hnot => ?_, fun hconcerned => ?_, fun k n hn => completeDue_some c hn k,
    fun hn k => ⟨completeDue_none c hn k, completeDone_none hn k⟩, fun k n hn => ?_, fun seq role => ?_, fun i => ?_⟩
  · cases x with
    | trunk seq role epoch width payload => exact absurd (Or.inl ⟨seq, role, epoch, width, payload, rfl⟩) hnot
    | other i => exact takeArrival_unconcerned r a c s i fun h => hnot (Or.inr h)
  · cases x with
    | trunk seq role epoch width payload =>
      refine ⟨seeHeader r a seq role (completeDue r c 128 s), nofun, ?_, takeArrival_trunk r a c s _ _ _ _ _⟩
      rintro _ _ _ _ _ ⟨⟩
      rfl
    | other i =>
      refine ⟨completeDue r c 128 s, fun _ _ => rfl, nofun, takeArrival_other r a c s i ?_⟩
      rcases hconcerned with ⟨_, _, _, _, _, ⟨⟩⟩ | h
      exact h
  · rw [completeDone_some hn, ← allDone_iff]
    exact ⟨fun hdone => if_pos hdone, fun hdone => if_neg hdone⟩
  · intro view entry
    refine ⟨seeHeader_inView r a seq role, fun hout => ⟨seeHeader_room r a seq role hout, fun hfull hbound => ?_⟩⟩
    rw [seeHeader_full r a seq role hout hfull]
    refine ⟨fun hnone => ?_, fun b hb habs hmost => ?_⟩
    · rw [evicted_none hnone]
    · rw [evicted_some hb habs hbound hmost]
      rfl
  · intro ix kept stored
    have hplace : ∀ e : RxRec, e.align = (rxAt s r).align → ∀ next, e.next = some next →
        e.place c a i = stored e next := by
      intro e halign next hnext
      have hheld : alignAt (rxAt s r) c = kept := alignAt_eq c _
      have hkept : alignAt e c = kept := (alignAt_congr c halign).trans hheld
      simp only [place_eq, hkept, hnext]
      rfl
    refine ⟨store_notInView r c a i, fun hin => ⟨fun hn => ?_, fun n hn => ⟨store_late r c a i hn, fun hopen => ?_⟩⟩⟩
    · rw [store_first r c a i hin hn]
      exact modRx_congr s (hplace { rxAt s r with next := some c } rfl c rfl)
    · rw [store_open r c a i hin hn hopen]
      exact modRx_congr s (hplace _ rfl n hn)

end Sys2Proof.Machine
end


section
/-! SUPPORT. The values of reset, and COUNTERS (R152): the command as the command unit takes it, and the counts in the
order of R152. -/

namespace Sys2Proof.Machine

/-! ### A record of each table in reset (R17, R62, R77, R105) -/

theorem laneAt_reset (l : LaneNo) : laneAt State.reset l = Lane.reset := vget_replicate _ _

theorem slotAt_reset (a : SlotAddr) : slotAt State.reset a = SlotRec.reset := vget_replicate _ _

theorem rxAt_reset (r : RecIx) : rxAt State.reset r = RxRec.reset := vget_replicate _ _

/-- Each transmit record's tag is its index + 8 (R77). -/
theorem txAt_reset (t : RecIx) : txAt State.reset t = TxRec.reset (BitVec.ofNat 4 (t.val + 8)) := by
  revert t
  decide

/-- Settles O6, block by block. -/
theorem resetValues : Obligations.ResetValues := by
  refine ⟨⟨rfl, rfl, rfl, rfl, rfl⟩, fun l => ?lanes, ?timing, ?notice, fun i => ?roster,
    ⟨fun a => ?slots, rfl, rfl, rfl, rfl, rfl, rfl⟩, fun t => ?tx, ⟨fun r => ?rx, rfl, rfl, rfl⟩, ?buf, ?port⟩
  case lanes => simp [laneAt_reset, Lane.reset]
  case timing => simp [State.reset, Timing.reset]
  case notice => simp [State.reset, NoticeUnit.reset]
  case roster => simp [State.reset, RosterEntry.reset]
  case slots => simp [slotAt_reset, SlotRec.reset]
  case tx =>
    have htag : (BitVec.ofNat 4 (t.val + 8)).toNat = t.val + 8 := by
      rw [BitVec.toNat_ofNat]
      omega
    simp [txAt_reset, TxRec.reset, htag]
  case rx => simp [rxAt_reset, RxRec.reset, Delin.reset]
  case buf => simp [State.reset, Buffers.reset, Config.poolBlocks]
  case port => simp [State.reset, Port.reset, inputHold]

/-! ### A command of the command unit (R149) -/

/-- A command that the command unit may take in every loader state is its own body, on the state with the head gone. -/
theorem command_everyState {s : State} {code : Byte} {args : Nat} {e : CmdEntry} {rest : List CmdEntry}
    (h : Takes s code args e rest) (hargs : argCount code = some args) (body : CmdEntry → State → State) :
    command code true body s = body e (popped s rest) := by
  obtain ⟨-, hrestart, hqueue, hlen, hcode⟩ := h
  have hc : e.code = code := by rw [CmdEntry.code, if_neg (by omega), hcode]
  have hform : e.formOk = true := by simp [CmdEntry.formOk, hc, hargs, hlen]
  have htake : takeable s = some e := by simp [takeable, hrestart, hqueue]
  have hpop : popCommand s = popped s rest := by simp [popCommand, popped, State.modPort, hqueue]
  simp only [command, htake, hform, hc, hpop, and_self, true_or, if_true]

/-- COUNTERS, taken (R152). -/
theorem exec_cmdCounters {s : State} {e : CmdEntry} {rest : List CmdEntry} (h : Takes s 10 1 e rest) :
    exec .cmdCounters s = .next (settle (cmdCounters (e.bytes.getD 1 0) (e.bytes.getD 2 0) (popped s rest))) := by
  obtain ⟨hreset, -, -, hlen, -⟩ := id h
  have htag : e.tag = e.bytes.getD 1 0 := if_neg (by omega)
  rw [show exec .cmdCounters s = execCmdCounters s from rfl, execCmdCounters, run_of_released hreset,
    command_everyState h rfl, htag]
  rfl

/-! ### The counts in the order of R152 -/

/-- The records of a fixed table, in the order of its indexes. -/
theorem vlist_eq_map {α : Type} {n : Nat} (v : Vector α n) : vlist v = (List.finRange n).map (vget v) := by
  refine List.ext_getElem (by simp) fun i h _ => ?_
  simp [vlist, vget]

/-- What is said of each lane, lowest first. -/
theorem flatMap_lanes {α β : Type} (v : Vector α 4) (f : α → List β) :
    (vlist v).flatMap f = allLanes.flatMap (fun l => f (vget v l)) := by
  rw [vlist_eq_map, List.flatMap_map]
  rfl

/-- What is said of each record, in index order. -/
theorem flatMap_recs {α β : Type} (v : Vector α 8) (f : α → List β) :
    (vlist v).flatMap f = allRecs.flatMap (fun r => f (vget v r)) := by
  rw [vlist_eq_map, List.flatMap_map]
  rfl

theorem byteOfLag_eq (lag : Option Int) : byteOfLag lag = (lag.map (BitVec.ofInt 8)).getD 0x80 := by
  cases lag <;> rfl

theorem failReason_bytes_eq (r : FailReason) : r.bytes = r.code :: (match r with
    | .field n => [byteOf n]
    | _ => []) := by cases r <;> rfl

/-- A counter is written most significant byte first (12.3). -/
theorem bytes16_eq_two : bytes16 = two := rfl

theorem laneCounters_eq (x : Lane) : laneCounters x = [x.state.code, (x.lag.map (BitVec.ofInt 8)).getD 0x80] ++
    two x.badMarks ++ two x.headerErrors ++ two x.noticeErrors ++ two x.lagOutOfRange := by
  rw [laneCounters, byteOfLag_eq, bytes16_eq_two]

/-- The result of COUNTERS is what the statement lists, in the order of R152. -/
theorem countersBytes_eq (s : State) : countersBytes s = countsOf s := by
  unfold countersBytes countsOf
  rw [noticeCounters, slotCounters, bufCounters, portCounters, flatMap_lanes, flatMap_lanes, flatMap_recs,
    flatMap_recs, failReason_bytes_eq, wordOf, wordOf, bytes16_eq_two]
  simp only [laneCounters_eq, txCounters, rxCounters, bytes16_eq_two, List.append_assoc, List.cons_append,
    List.nil_append]
  rfl

/-- Settles O50, flag by flag, then the bytes. -/
theorem countersAnswersAndClears : Obligations.CountersAnswersAndClears := by
  intro e rest s h tag flag
  rw [exec_cmdCounters h]
  refine ⟨fun h0 => ?_, fun h2 => ?_, fun h1 => ?_, countersBytes_eq s, rfl⟩
  · rw [cmdCounters, if_pos (BitVec.eq_of_toNat_eq h0)]
    rfl
  · have hne (b : Byte) (hb : b.toNat < 2) : e.bytes.getD 2 0 ≠ b := fun he => by
      have : flag = b.toNat := congrArg BitVec.toNat he
      omega
    rw [cmdCounters, if_neg (hne 0 (by decide)), if_neg (hne 1 (by decide))]
    rfl
  · have hflag : e.bytes.getD 2 0 = 1 := BitVec.eq_of_toNat_eq h1
    rw [cmdCounters, if_neg (by rw [hflag]; decide), if_pos hflag]
    exact ⟨_, rfl, rfl, fun l => vget_vmap _ _ _, rfl, fun a => vget_vmap _ _ _, rfl, ⟨rfl, rfl, rfl, rfl, rfl⟩,
      fun t => vget_vmap _ _ _, fun r => vget_vmap _ _ _, rfl, rfl, rfl, rfl, rfl, rfl, rfl, rfl⟩

end Sys2Proof.Machine
end


section
/-! SUPPORT. What a lane measures (R22): the signed distance on the flywheel circle, and the lag and residue of an
offset. -/

namespace Sys2Proof.Machine

/-! ### Measuring (R22) -/

/-- The nearest way round the flywheel circle is shorter than half of it. -/
theorem placeDiff_bounds (a b : Nat) : -655360 ≤ placeDiff a b ∧ placeDiff a b < 655360 := by
  simp only [placeDiff, Config.circle]
  omega

/-- A place, and the distance to another, give that other (R22). -/
theorem placeDiff_spec (a b : Nat) : ((b : Int) + placeDiff a b - a) % 1310720 = 0 := by
  simp only [placeDiff, Config.circle]
  omega

/-- The lag in range, with its residue, is the offset in slot times (R22). -/
theorem measure_eq_some (m : Nat) (num : CycleNo) (lag : Int) (residue : Nat) :
    measure m num = some (lag, residue) ↔
      offsetOf m num = lag * 320 + residue ∧ residue < 320 ∧ -64 ≤ lag ∧ lag ≤ 63 := by
  simp only [measure, Option.ite_none_right_eq_some, Option.some.injEq, Prod.mk.injEq]
  omega

theorem measure_eq_none (m : Nat) (num : CycleNo) :
    measure m num = none ↔ offsetOf m num < -64 * 320 ∨ 64 * 320 ≤ offsetOf m num := by
  simp only [measure, ite_eq_right_iff, reduceCtorEq, imp_false]
  omega

/-- Settles O14: the offset is the nearest way round the circle from the cycle's start to the mark. -/
theorem measuredLagIsTheFlooredOffset : Obligations.MeasuredLagIsTheFlooredOffset := fun m num _ =>
  ⟨offsetOf m num, (placeDiff_bounds _ _).1, (placeDiff_bounds _ _).2, placeDiff_spec _ _,
    measure_eq_some m num, measure_eq_none m num⟩

end Sys2Proof.Machine
end


section
/-! SUPPORT. A flywheel cycle start (R33): the timers of each block before the arbiter looks, and the marks a pacer
emits. -/

namespace Sys2Proof.Machine

/-! ### Changes of many records -/

section Tables

variable {α : Type} {n : Nat}

/-- The records of a list of indexes, each changed once, and the others as they were. -/
theorem vget_foldl_vmod (f : Fin n → α → α) {ls : List (Fin n)} (nodup : ls.Nodup) (v : Vector α n) (i : Fin n) :
    vget (ls.foldl (fun v j => vmod v j (f j)) v) i = if i ∈ ls then f i (vget v i) else vget v i := by
  induction ls generalizing v with
  | nil => simp
  | cons j ls ih =>
    obtain ⟨hj, nodup⟩ := List.nodup_cons.mp nodup
    rw [List.foldl_cons, ih nodup, vget_vmod]
    by_cases hi : i = j
    · subst hi
      simp [hj]
    · simp [hi]

/-- A record written back as it was. -/
theorem vmod_self {v : Vector α n} {i : Fin n} {f : α → α} (h : f (vget v i) = vget v i) : vmod v i f = v := by
  rw [vmod, h, vset_vget]

end Tables

theorem foldl_modLane (f : LaneNo → Lane → Lane) (ls : List LaneNo) (s : State) :
    ls.foldl (fun x l => x.modLane l (f l)) s =
      { s with lanes := ls.foldl (fun v l => vmod v l (f l)) s.lanes } := by
  induction ls generalizing s with
  | nil => rfl
  | cons l ls ih => exact ih _

theorem modLane_congr (s : State) {l : LaneNo} {f g : Lane → Lane} (h : f (laneAt s l) = g (laneAt s l)) :
    s.modLane l f = s.modLane l g := by
  rw [State.modLane, State.modLane, vmod_congr (f := f) (g := g) h]

/-! ### The marks a pacer emits (R9, R42) -/

/-- The mark that lane l emits at the start of a flywheel cycle, with FRESH while its countdown runs (R42). -/
def markOf (s : State) (l : LaneNo) : Emission where
  pos := cycleStart s.timing.number
  word := encodeMark (ownId s) l s.timing.number (decide (0 < s.timing.fresh))
  awaited := true
  cut := false

/-- A lane emits a mark where it is enabled (R9). -/
def Lane.emit (mark : Emission) (x : Lane) : Lane :=
  if x.state = .disabled then x else { x with emitted := some mark }

theorem Lane.emit_disabled {x : Lane} (h : x.state = .disabled) (mark : Emission) : x.emit mark = x := if_pos h

theorem Lane.emit_enabled {x : Lane} (h : x.state ≠ .disabled) (mark : Emission) :
    x.emit mark = { x with emitted := some mark } := if_neg h

/-- One mark on every enabled lane, and the FRESH countdown's fall (R42). -/
theorem emitMarks_eq (s : State) : emitMarks s = { s with
    lanes := allLanes.foldl (fun v l => vmod v l (Lane.emit (markOf s l))) s.lanes
    timing := { s.timing with fresh := s.timing.fresh - 1 } } := by
  have step : (fun (x : State) l => if (laneAt x l).state = .disabled then x
      else x.modLane l (fun y => { y with emitted := some {
        pos := cycleStart s.timing.number
        word := encodeMark (ownId s) l s.timing.number (decide (0 < s.timing.fresh))
        awaited := true
        cut := false } })) =
      fun x l => x.modLane l (Lane.emit (markOf s l)) := by
    funext x l
    split
    · rename_i h
      exact (modLane_self x (Lane.emit_disabled h _)).symm
    · rename_i h
      exact modLane_congr x (Lane.emit_enabled h _).symm
  unfold emitMarks
  dsimp only
  rw [step, foldl_modLane]
  rfl

theorem laneAt_emitMarks (s : State) (k : LaneNo) :
    laneAt (emitMarks s) k = (laneAt s k).emit (markOf s k) := by
  rw [emitMarks_eq]
  exact (vget_foldl_vmod _ (by decide) _ _).trans (if_pos (mem_allLanes k))

/-! ### The roster at a flywheel cycle start (R59) -/

/-- An entry of a station that was heard grows older (R59). -/
def RosterEntry.older (e : RosterEntry) : RosterEntry :=
  if e.present then { e with age := min Config.rosterAge (e.age + 1) } else e

theorem rosterIx_eq_some (id : StationId) (i : Fin 62) : rosterIx id = some i ↔ i.val + 1 = id.toNat := by
  unfold rosterIx
  split
  · simp only [Option.some.injEq, Fin.ext_iff]
    omega
  · simp only [reduceCtorEq, false_iff]
    omega

theorem mem_rosterIndexes (i : Fin 62) : i ∈ (List.range 62).map (Fin.ofNat 62) := by
  revert i
  decide

/-- Every entry but this station's own. -/
theorem roster_rosterTick (s : State) (i : Fin 62) : vget (rosterTick s).roster i =
    if (vget s.roster i).present ∧ i.val + 1 ≠ (ownId s).toNat then
      { vget s.roster i with age := min 1024 ((vget s.roster i).age + 1) } else vget s.roster i := by
  have step : (fun (v : Vector RosterEntry 62) (i : Nat) => if some (Fin.ofNat 62 i) = rosterIx (ownId s) then v
      else vmod v (Fin.ofNat 62 i) RosterEntry.older) = fun v i => vmod v (Fin.ofNat 62 i)
        (fun e => if some (Fin.ofNat 62 i) = rosterIx (ownId s) then e else e.older) := by
    funext v i
    split
    · exact (vmod_self rfl).symm
    · rfl
  have h := vget_foldl_vmod (fun (j : Fin 62) e => if some j = rosterIx (ownId s) then e else RosterEntry.older e)
    (ls := (List.range 62).map (Fin.ofNat 62)) (by decide) s.roster i
  rw [List.foldl_map, ← step, if_pos (mem_rosterIndexes i)] at h
  refine h.trans ?_
  have hown : some i = rosterIx (ownId s) ↔ i.val + 1 = (ownId s).toNat := by rw [eq_comm, rosterIx_eq_some]
  by_cases h : i.val + 1 = (ownId s).toNat
  · simp [hown, h]
  · simp [hown, h, RosterEntry.older]

/-! ### The timers of a flywheel cycle start (R33) -/

theorem exec_flywheelCycleStart (s : State) : exec .flywheelCycleStart s = execFlywheelCycleStart s := rfl

/-- A flywheel cycle start, before the arbiter looks (R33). -/
def timersAdvanced (s : State) : State :=
  let s1 := { s with timing := s.timing.tick, lanes := vmap Lane.tick s.lanes }
  let s2 := rosterTick (if s.timing.role = .pacing then emitMarks s1 else s1)
  { s2 with
    notice := { s2.notice with countdown := s2.notice.countdown - 1 }
    slots := { s2.slots with recs := vmap SlotRec.tick s2.slots.recs }
    rx := { s2.rx with strays := s2.rx.strays.map Stray.tick }
    loader := { s2.loader with listenAge := min Config.listenTime (s2.loader.listenAge + 1) } }

theorem flywheelTick_eq (s : State) : flywheelTick s =
    lookIf (inService (timersAdvanced s)).isSome (timersAdvanced s) := rfl

/-- What a flywheel cycle start changes: the lanes, the timing record, the roster and a count of each other block.
-/
theorem timersAdvanced_eta (s : State) : timersAdvanced s = { s with
    lanes := (timersAdvanced s).lanes
    timing := (timersAdvanced s).timing
    roster := (timersAdvanced s).roster
    notice := { s.notice with countdown := s.notice.countdown - 1 }
    slots := { s.slots with recs := vmap SlotRec.tick s.slots.recs }
    rx := { s.rx with strays := s.rx.strays.map Stray.tick }
    loader := { s.loader with listenAge := min Config.listenTime (s.loader.listenAge + 1) } } := by
  unfold timersAdvanced
  dsimp only
  split
  · rw [emitMarks_eq]
    rfl
  · rfl

theorem roster_timersAdvanced (s : State) (i : Fin 62) : vget (timersAdvanced s).roster i =
    if (vget s.roster i).present ∧ i.val + 1 ≠ (ownId s).toNat then
      { vget s.roster i with age := min 1024 ((vget s.roster i).age + 1) } else vget s.roster i := by
  unfold timersAdvanced
  refine (roster_rosterTick _ i).trans ?_
  split
  · rw [emitMarks_eq]
    rfl
  · rfl

theorem timing_timersAdvanced (s : State) : (timersAdvanced s).timing =
    { s.timing.tick with fresh := if s.timing.role = .pacing then s.timing.fresh - 1 else s.timing.fresh } := by
  unfold timersAdvanced
  dsimp only [rosterTick]
  split
  · rw [emitMarks_eq]
    rfl
  · rfl

/-- The mark of the flywheel cycle that starts (R42). -/
theorem markOf_tick (s : State) (l : LaneNo) : markOf { s with timing := s.timing.tick } l = {
    pos := cycleStart (s.timing.number + 1)
    word := encodeMark (ownId s) l (s.timing.number + 1) (decide (0 < s.timing.fresh))
    awaited := true
    cut := false } := rfl

theorem laneAt_timersAdvanced (s : State) (l : LaneNo) : laneAt (timersAdvanced s) l =
    if s.timing.role = .pacing then
      (laneAt s l).tick.emit (markOf { s with timing := s.timing.tick } l)
    else (laneAt s l).tick := by
  have h : laneAt (timersAdvanced s) l = laneAt (if s.timing.role = .pacing
      then emitMarks { s with timing := s.timing.tick, lanes := vmap Lane.tick s.lanes }
      else { s with timing := s.timing.tick, lanes := vmap Lane.tick s.lanes }) l := rfl
  rw [h]
  split
  · rw [laneAt_emitMarks]
    congr 1
    exact vget_vmap _ _ _
  · exact vget_vmap _ _ _

/-- A coasting lane's expected mark advances (R27, log entry 25). -/
theorem Lane.tick_eq (x : Lane) : x.tick = { x with
    coast := if x.state = .coast then min 96 (x.coast + 1) else x.coast
    expNum := if x.state = .coast then x.expNum.map (fun n => n + 1) else x.expNum
    expPos := if x.state = .coast then x.expPos.map (fun p => place p 5120) else x.expPos } := by
  unfold Lane.tick
  split <;> rfl

/-- The cycles declared live that stay so are those within one of the flywheel cycle that starts (log entry 28). -/
theorem Timing.tick_eq (t : Timing) : t.tick = { t with
    number := t.number + 1
    position := t.tick.position
    slip := t.tick.slip
    live := t.live.filter (fun c => decide ((c - (t.number + 1)).toInt.natAbs ≤ 1))
    quiet := if t.heard then t.quiet else min 256 (t.quiet + 1)
    heard := false
    wait := if t.role = .electing then t.wait - 1 else t.wait } := by
  have near : t.tick.live = t.live.filter (fun c => decide ((c - (t.number + 1)).toInt.natAbs ≤ 1)) := by
    refine List.filter_congr fun c _ => ?_
    rw [← Bool.decide_and, decide_eq_decide, cycleDiff, nextCycle]
    omega
  rw [← near]
  rfl

/-- The flywheel past the end of its cycle (R33, R34, log entry 7). -/
theorem Timing.place_tick (t : Timing) :
    (t.tick.position : Int) = min 5119 (max 0 (t.position + t.slip - 5120)) ∧
      t.tick.slip = max 0 (t.position + t.slip - 5120) - min 5119 (max 0 (t.position + t.slip - 5120)) := by
  simp only [Timing.tick, Timing.wrapped, Timing.moveTo, Timing.stands, Config.cycleBits]
  omega

/-- Settles O9: the record before the look, field by field. -/
theorem flywheelCycleStartAdvancesEveryTimer : Obligations.FlywheelCycleStartAdvancesEveryTimer := by
  intro s hreset
  rw [exec_flywheelCycleStart, execFlywheelCycleStart, run_of_released hreset]
  refine ⟨fun h => by rw [if_neg (mt (running_iff s).mp h)], fun h => ⟨timersAdvanced s, ?_, ?_, ?_, fun l => ?_,
    roster_timersAdvanced s, ?_, fun a => ?_, ?_, ?_, ?_, ?_, ?_, ?_⟩⟩
  · rw [if_pos ((running_iff s).mpr h), flywheelTick_eq]
    have service : inService (timersAdvanced s) = inService s := by rw [timersAdvanced_eta]; rfl
    rw [service]
    rfl
  · rw [timing_timersAdvanced, Timing.tick_eq]
  · rw [timing_timersAdvanced]
    exact s.timing.place_tick
  · rw [laneAt_timersAdvanced, Lane.tick_eq]
    by_cases hrole : s.timing.role = .pacing
    · rw [if_pos hrole, Lane.emit]
      by_cases hs : (laneAt s l).state = .disabled
      · simp [hs]
      · simp [hs, hrole, markOf_tick]
    · simp [hrole]
  all_goals rw [timersAdvanced_eta]
  · exact vget_vmap _ _ _
  all_goals rfl

end Sys2Proof.Machine
end


section
/-! SUPPORT. What claims and layout edits leave alone, beside what Laws/Slots.lean says of `outside`: the notice unit,
the receive engine and the buffer manager. -/

namespace Sys2Proof.Machine

/-! ### What claims and layout edits leave alone beside `outside` -/

/-- The blocks that the slot unit and a trunk's layout never reach: the notice unit, the receive engine and the buffer
manager. -/
structure Bystanders where
  notice : NoticeUnit
  rx : RxEngine
  buf : Buffers

def State.bystanders (s : State) : Bystanders where
  notice := s.notice
  rx := s.rx
  buf := s.buf

@[simp] theorem bystanders_notice (s : State) : s.bystanders.notice = s.notice := rfl

theorem foldl_bystanders {α : Type} (f : State → α → State) (h : ∀ x a, (f x a).bystanders = x.bystanders) (l : List α)
    (s : State) : (l.foldl f s).bystanders = s.bystanders := foldl_keeps State.bystanders f h l s

section Bystanders

variable (s : State) (t : RecIx) (a : SlotAddr)

@[simp] theorem bystanders_modSlots (f : SlotUnit → SlotUnit) : (s.modSlots f).bystanders = s.bystanders := rfl

@[simp] theorem bystanders_modSlot (f : SlotRec → SlotRec) : (s.modSlot a f).bystanders = s.bystanders := rfl

@[simp] theorem bystanders_modTx (f : TxRec → TxRec) : (s.modTx t f).bystanders = s.bystanders := rfl

@[simp] theorem bystanders_report (rep : Report) : (report rep s).bystanders = s.bystanders := rfl

@[simp] theorem bystanders_answerTx (outcome : CmdOutcome) (count : Nat) (decline : Byte) :
    (answerTx t outcome count decline s).bystanders = s.bystanders := by
  rw [answerTx, bystanders_modTx, answer]
  split <;> rfl

@[simp] theorem bystanders_releaseSlot : (releaseSlot a s).bystanders = s.bystanders := rfl

@[simp] theorem bystanders_releaseMembers (ms : List Member) : (releaseMembers ms s).bystanders = s.bystanders :=
  foldl_bystanders (fun x (m : Member) => releaseSlot m.slot x) (fun _ _ => rfl) _ _

@[simp] theorem bystanders_syncAssign : (syncAssign t s).bystanders = s.bystanders :=
  foldl_bystanders (fun x (p : Member × Nat) => assignSlot t p.2 p.1.slot x) (fun _ _ => rfl) _ _

@[simp] theorem bystanders_setMembers (ms : List Member) : (setMembers t ms s).bystanders = s.bystanders := by
  simp [setMembers]

@[simp] theorem bystanders_editMembers (ms : List Member) : (editMembers t ms s).bystanders = s.bystanders := by
  simp [editMembers]

@[simp] theorem bystanders_setChange (c : Option Change) : (setChange t c s).bystanders = s.bystanders := rfl

@[simp] theorem bystanders_reportMembers (ms : List (Member × Nat)) (rep : SlotAddr → Nat → Epoch → Report) :
    (reportMembers t ms rep s).bystanders = s.bystanders :=
  foldl_bystanders (fun x (p : Member × Nat) => report (rep p.1.slot p.2 (txAt x t).epoch) x) (fun _ _ => rfl) _ _

@[simp] theorem bystanders_restoreDeferred : (restoreDeferred t s).bystanders = s.bystanders := by
  unfold restoreDeferred
  dsimp only
  split <;> simp

@[simp] theorem bystanders_endChange (outcome : CmdOutcome) : (endChange t outcome s).bystanders = s.bystanders := by
  simp [endChange]

@[simp] theorem bystanders_testProbe : (testProbe t s).bystanders = s.bystanders := by
  unfold testProbe
  repeat' split
  all_goals simp

@[simp] theorem bystanders_confirmIfEmpty : (confirmIfEmpty t s).bystanders = s.bystanders := by
  unfold confirmIfEmpty
  repeat' split
  all_goals simp

@[simp] theorem bystanders_addProbes (slots : List SlotAddr) : (addProbes t slots s).bystanders = s.bystanders := by
  unfold addProbes
  dsimp only
  split <;> simp

@[simp] theorem bystanders_growResult (won : List SlotAddr) (running : Nat) :
    (growResult t won running s).bystanders = s.bystanders := by
  unfold growResult
  repeat' split
  all_goals simp

@[simp] theorem bystanders_countLate : (countLate t s).bystanders = s.bystanders := rfl

@[simp] theorem bystanders_lateResult (win : Option SlotAddr) : (lateResult t win s).bystanders = s.bystanders := by
  unfold lateResult
  repeat' split
  all_goals simp

@[simp] theorem bystanders_memberLost (newOwner : Option StationId) :
    (memberLost t a newOwner s).bystanders = s.bystanders := by
  unfold memberLost
  dsimp only
  repeat' split
  all_goals simp

@[simp] theorem bystanders_beginClaim : (beginClaim a s).bystanders = s.bystanders := rfl

@[simp] theorem bystanders_beginClaims (n : Nat) : (beginClaims n s).bystanders = s.bystanders := by
  induction n generalizing s with
  | zero => rfl
  | succ n ih =>
    unfold beginClaims
    repeat' split
    all_goals simp [ih]

@[simp] theorem bystanders_markHanded (won : List SlotAddr) : (markHanded won s).bystanders = s.bystanders :=
  foldl_bystanders (fun x a => x.modSlot a (fun r => { r with handed := true })) (fun _ _ => rfl) _ _

@[simp] theorem bystanders_pruneQueue : (pruneQueue s).bystanders = s.bystanders := rfl

@[simp] theorem bystanders_modService (f : ClaimReq → ClaimReq) : (modService f s).bystanders = s.bystanders := rfl

@[simp] theorem bystanders_endService : (endService s).bystanders = s.bystanders := by
  unfold endService
  split <;> simp

@[simp] theorem bystanders_serve (n : Nat) : (serve n s).bystanders = s.bystanders := by
  induction n generalizing s with
  | zero => rfl
  | succ n ih =>
    unfold serve
    dsimp only
    repeat' split
    all_goals simp [ih]

@[simp] theorem bystanders_lookIf (b : Bool) : (lookIf b s).bystanders = s.bystanders := by
  unfold lookIf look
  split <;> simp

@[simp] theorem bystanders_handEnd (won : Bool) : (handEnd a won s).bystanders = s.bystanders := by
  have hdrop : (dropRunning a won s).bystanders = s.bystanders := rfl
  unfold handEnd
  repeat' split
  all_goals simp [hdrop]

@[simp] theorem bystanders_mineLost (old : SlotRec) (newOwner : Option StationId) :
    (mineLost a old newOwner s).bystanders = s.bystanders := by
  unfold mineLost
  repeat' split
  all_goals simp

@[simp] theorem bystanders_slotLost : (slotLost a s).bystanders = s.bystanders := by
  unfold slotLost abandonClaim
  split <;> simp

@[simp] theorem bystanders_slotCoasts : (slotCoasts a s).bystanders = s.bystanders := by
  unfold slotCoasts abandonClaim
  split <;> simp

@[simp] theorem bystanders_slotsLost (l : LaneNo) : (slotsLost l s).bystanders = s.bystanders := by
  simp [slotsLost, foldl_bystanders]

@[simp] theorem bystanders_slotsCoast (l : LaneNo) : (slotsCoast l s).bystanders = s.bystanders := by
  simp [slotsCoast, foldl_bystanders]

end Bystanders

end Sys2Proof.Machine
end


section
/-! SUPPORT. Moves of the flywheel (R17, R33, R35, R41), and what the timing unit does to the lanes: a mark and a
silence taken, a lane's leaving, the test for loss of the pacer (R37). -/

namespace Sys2Proof.Machine

/-! ### Places on the flywheel circle -/

theorem place_lt (p : Nat) (d : Int) : place p d < 1310720 := by
  simp only [place, Config.circle]
  omega

theorem place_zero {p : Nat} (h : p < 1310720) : place p 0 = p := by
  simp only [place, Config.circle]
  omega

theorem place_place (p : Nat) (d d' : Int) : place (place p d) d' = place p (d + d') := by
  simp only [place, Config.circle]
  omega

theorem cycleStart_lt (c : CycleNo) : cycleStart c < 1310720 := by
  have h := c.isLt
  simp only [cycleStart, Config.cycleBits]
  omega

/-! ### Moves of the flywheel (R17, R33, R35, R41) -/

/-- A renumbering names every place anew (R35). -/
theorem laneAt_renumber (n : CycleNo) (s : State) (k : LaneNo) : laneAt (renumber n s) k = { laneAt s k with
    expPos := (laneAt s k).expPos.map (fun p => place p (n.toNat * 5120 : Nat))
    emitted := (laneAt s k).emitted.map (fun g => { g with pos := place g.pos (n.toNat * 5120 : Nat) }) } :=
  vget_vmap _ _ _

/-- The expected place of a lane without a lag stays where it is in time (R17, log entry 6). -/
theorem laneAt_shiftConfirm (d : Int) (s : State) (k : LaneNo) : laneAt (shiftConfirm d s) k = { laneAt s k with
    expPos := (laneAt s k).expPos.map (fun p => if (laneAt s k).lag.isNone then place p (-d) else p) } := by
  have h : laneAt (shiftConfirm d s) k = if (laneAt s k).lag.isNone then
      { laneAt s k with expPos := (laneAt s k).expPos.map (fun p => place p (-d)) } else laneAt s k := vget_vmap _ _ _
  rw [h]
  split <;> simp

/-- A lane after a move and a renumbering of the flywheel (R35, R41). -/
theorem laneAt_moved (d : Int) (n : CycleNo) (s : State) (k : LaneNo) :
    laneAt (renumber n (shiftConfirm d s)) k = carried d n (laneAt s k) := by
  rw [laneAt_renumber, laneAt_shiftConfirm, carried, Option.map_map]
  rfl

/-- A move by nothing carries no place along. -/
theorem carried_zero (n : CycleNo) (x : Lane) : carried 0 n x = { x with
    expPos := x.expPos.map (fun p => place p (n.toNat * 5120 : Nat))
    emitted := x.emitted.map (fun g => { g with pos := place g.pos (n.toNat * 5120 : Nat) }) } := by
  have h (p : Nat) : place (if x.lag.isNone then place p (-0) else p) (n.toNat * 5120 : Nat) =
      place p (n.toNat * 5120 : Nat) := by
    split
    · rw [place_place]
      congr 1
      omega
    · rfl
  simp only [carried, h]

/-! ### Roles left and entered keep a lane's lock state -/

theorem state_elected (s : State) (k : LaneNo) : (laneAt (elected s) k).state = (laneAt s k).state := by
  unfold elected laneAt
  dsimp only
  split
  · rw [vget_vmap]
  · rfl

theorem state_yield_ (l : LaneNo) (pacer : StationId) (s : State) (k : LaneNo) :
    (laneAt (yield_ l pacer s) k).state = (laneAt s k).state := by
  rw [(yielded_yield_ l pacer s).2 k]
  split <;> rfl

/-- The test for loss of the pacer does nothing, or begins the election of a station that follows (R37). -/
theorem lossTest_cases (s : State) : lossTest s = s ∨ s.timing.role = .following ∧ lossTest s = elected s := by
  unfold lossTest
  split
  · rename_i h
    exact Or.inr ⟨h.1, enterElecting_eq s⟩
  · exact Or.inl rfl

/-- The election of a station that follows cuts no mark off: it emits none. -/
theorem elected_lanes {s : State} (h : s.timing.role = .following) : (elected s).lanes = s.lanes := by
  unfold elected
  simp [h]

@[simp] theorem lossTest_lanes (s : State) : (lossTest s).lanes = s.lanes := by
  rcases lossTest_cases s with h | ⟨hrole, h⟩ <;> rw [h]
  exact elected_lanes hrole

/-- The timing unit takes a mark: no lock state changes. -/
theorem state_timingMark (l : LaneNo) (m : Nat) (word : BitVec 64) (f : MarkFields) (s : State) (k : LaneNo) :
    (laneAt (timingMark l m word f s) k).state = (laneAt s k).state := by
  rw [timingMark_eq, ← laneAt_markLive m f.pacer s k]
  cases s.timing.role with
  | quiet | following => rfl
  | electing => rw [markTaken, laneAt_endElection]
  | pacing =>
    unfold markTaken foreignMark
    dsimp only
    repeat' split
    · rfl
    · exact state_yield_ _ _ _ _
    · rw [enterElecting_eq]
      exact state_elected _ _
    · rfl

/-- A bad or missing verdict changes no lane in the timing unit. -/
@[simp] theorem timingSilence_lanes (l : LaneNo) (s : State) : (timingSilence l s).lanes = s.lanes := by
  unfold timingSilence
  split <;> simp

theorem timingSilence_unlocked {l : LaneNo} {s : State} (h : (laneAt s l).state ≠ .locked) : timingSilence l s = s :=
  if_neg fun hc => h ((isLocked_iff s l).mp hc.2)

/-! ### A lane has left LOCKED, at the timing unit (R34, R37) -/

section LaneLeft

variable (l : LaneNo) (s : State)

@[simp] theorem laneLeft_lanes : (laneLeft l s).lanes = s.lanes := by simp [laneLeft]

@[simp] theorem laneAt_laneLeft (k : LaneNo) : laneAt (laneLeft l s) k = laneAt s k := by simp [laneAt]

@[simp] theorem laneLeft_number : (laneLeft l s).timing.number = s.timing.number := by
  unfold laneLeft
  rcases lossTest_cases (s.modTiming _) with h | ⟨-, h⟩ <;> rw [h] <;> rfl

@[simp] theorem laneLeft_pacer : (laneLeft l s).timing.pacer = s.timing.pacer := by
  unfold laneLeft
  rcases lossTest_cases (s.modTiming _) with h | ⟨-, h⟩ <;> rw [h] <;> rfl

/-- An offer already cut short stays so (R8, R38). -/
theorem laneLeft_offers {k : LaneNo} {x : Option Offer}
    (h : vget s.notice.offers k = x.map (fun f => { f with cut := true })) :
    vget (laneLeft l s).notice.offers k = vget s.notice.offers k := by
  unfold laneLeft
  rcases lossTest_cases (s.modTiming _) with h' | ⟨-, h'⟩ <;> rw [h']
  · rfl
  · refine (vget_vmap _ _ _).trans ?_
    rw [State.modTiming_notice, h, Option.map_map]
    rfl

end LaneLeft

end Sys2Proof.Machine
end


section
/-! SUPPORT. What follows a lane's lock (R23, R63, R118) and its leaving (R8, R24, R27, R63). -/

namespace Sys2Proof.Machine

/-! ### Slot records of a lane (R63) -/

theorem mem_laneSlots (l : LaneNo) (a : SlotAddr) : a ∈ laneSlots l ↔ laneOf a = l := by
  simp [laneSlots, mem_allSlots]

theorem nodup_laneSlots (l : LaneNo) : (laneSlots l).Nodup := by
  revert l
  decide

theorem laneSlots_eq (l : LaneNo) : laneSlots l = (List.range 16).map (fun i => Fin.ofNat 64 (l.val * 16 + i)) := by
  revert l
  decide

theorem foldl_modSlot (f : SlotRec → SlotRec) (ls : List SlotAddr) (s : State) :
    ls.foldl (fun x a => x.modSlot a f) s =
      { s with slots := { s.slots with recs := ls.foldl (fun v a => vmod v a f) s.slots.recs } } := by
  induction ls generalizing s with
  | nil => rfl
  | cons a ls ih => exact ih _

/-- Every slot record of a lane changed alike. -/
theorem slotAt_foldl_modSlot (f : SlotRec → SlotRec) (l : LaneNo) (s : State) (a : SlotAddr) :
    slotAt ((laneSlots l).foldl (fun x a => x.modSlot a f) s) a =
      if laneOf a = l then f (slotAt s a) else slotAt s a := by
  rw [foldl_modSlot]
  refine (vget_foldl_vmod (fun _ => f) (nodup_laneSlots l) s.slots.recs a).trans ?_
  simp only [mem_laneSlots]
  rfl

/-! ### A lane has entered LOCKED (R23, R63, R118) -/

/-- Beyond its UNSEEN slot records a lane's lock changes nothing of the slot unit (R63). -/
theorem slotsLocked_eta (l : LaneNo) (s : State) : slotsLocked l s =
    { s with slots := { s.slots with recs := (slotsLocked l s).slots.recs } } := by
  unfold slotsLocked
  rw [foldl_modSlot]

theorem slotAt_slotsLocked (l : LaneNo) (s : State) (a : SlotAddr) : slotAt (slotsLocked l s) a =
    if laneOf a = l ∧ (slotAt s a).state = .unseen then { slotAt s a with quiet := 0, ownRun := 0 }
    else slotAt s a := by
  unfold slotsLocked
  rw [slotAt_foldl_modSlot]
  split <;> simp_all

theorem handed_outside (l : LaneNo) (fromConfirm renumbered : Bool) (s : State) :
    (handed l fromConfirm renumbered s).outside = s.outside := outside_rxLagHanded l fromConfirm renumbered s

@[simp] theorem handed_lanes (l : LaneNo) (fromConfirm renumbered : Bool) (s : State) :
    (handed l fromConfirm renumbered s).lanes = s.lanes := by
  rw [← outside_lanes, handed_outside, outside_lanes]

@[simp] theorem handed_timing (l : LaneNo) (fromConfirm renumbered : Bool) (s : State) :
    (handed l fromConfirm renumbered s).timing = s.timing := by
  rw [← outside_timing, handed_outside, outside_timing]

theorem handLock_eq (l : LaneNo) (fromConfirm renumbered : Bool) (s : State) :
    handLock l fromConfirm renumbered s = handed l fromConfirm renumbered (slotsLocked l s) := rfl

@[simp] theorem handLock_lanes (l : LaneNo) (fromConfirm renumbered : Bool) (s : State) :
    (handLock l fromConfirm renumbered s).lanes = s.lanes := by
  rw [handLock_eq, handed_lanes, slotsLocked_eta]

@[simp] theorem handLock_timing (l : LaneNo) (fromConfirm renumbered : Bool) (s : State) :
    (handLock l fromConfirm renumbered s).timing = s.timing := by
  rw [handLock_eq, handed_timing, slotsLocked_eta]

/-- With no trunk received, a lane's handing is taken by no record (R118). -/
theorem handed_of_none_accepted (l : LaneNo) (fromConfirm renumbered : Bool) {s : State}
    (h : ∀ r, (rxAt s r).state ≠ .accepted) : handed l fromConfirm renumbered s = s := by
  have step (r : RecIx) : rxHanded r l fromConfirm renumbered s = s := if_pos (h r)
  exact List.foldl_fixed' step allRecs

/-- The handing of a lane that has entered LOCKED is what the statements say of it. -/
theorem lockHanded_handLock (l : LaneNo) (fromConfirm renumbered : Bool) (s : State) (lanes : Vector Lane 4)
    (timing : Timing) (port : Port) : LockHanded l fromConfirm renumbered s port
      (handLock l fromConfirm renumbered { s with lanes := lanes, timing := timing, port := port }) := by
  refine ⟨slotsLocked l { s with lanes := lanes, timing := timing, port := port }, rfl, ?_, ?_, ?_, fun a => ?_⟩
  · rw [slotsLocked_eta]
  · rw [handLock_lanes, slotsLocked_eta]
  · rw [handLock_timing, slotsLocked_eta]
  · exact slotAt_slotsLocked l _ a

/-- LANE_STATE (R29), of a lane whose record is known. -/
theorem reportLane_eq {l : LaneNo} {x : Lane} {s : State} (h : laneAt s l = x) (left : LockState) :
    reportLane l left s = { s with port := (s.port.post (.laneState l left x.state x.lag)).1 } := by
  subst h
  rfl

/-! ### A lane leaves LOCKED or COAST (R24, R27, R63) -/

theorem slotLost_eq (a : SlotAddr) (s : State) : slotLost a s = slotGone s a := by
  unfold slotLost slotGone
  cases (slotAt s a).state <;> rfl

theorem slotCoasts_eq (a : SlotAddr) (s : State) : slotCoasts a s = slotCoasting s a := by
  unfold slotCoasts slotCoasting
  cases (slotAt s a).state <;> rfl

/-- The request in service has a slot on a lane (log entry 12). -/
theorem serviceOn_iff (s : State) (l : LaneNo) : serviceOn s l = true ↔
    ∃ q a, inService s = some q ∧ a ∈ q.running ++ q.won ∧ laneOf a = l := by
  simp only [serviceOn, Option.any_eq_true, List.any_eq_true, beq_iff_eq, exists_and_left]

/-- A look that a condition calls for (R68). -/
theorem lookIf_iff {b : Bool} {p : Prop} (h : b = true ↔ p) (s : State) :
    (p → lookIf b s = look s) ∧ (¬ p → lookIf b s = s) := by
  refine ⟨fun hp => if_pos (h.mpr hp), fun hp => if_neg (mt h.mp hp)⟩

/-- The slot records of a lane take its loss one after another, lowest address first (R63). -/
def eachSlot (l : LaneNo) (each : State → SlotAddr → State) (s : State) : State :=
  ((List.range 16).map (fun i => Fin.ofNat 64 (l.val * 16 + i))).foldl each s

theorem slotsLost_eq (l : LaneNo) (s : State) :
    slotsLost l s = lookIf (serviceOn s l) (eachSlot l slotGone s) := by
  rw [eachSlot, ← laneSlots_eq, slotsLost]
  simp only [slotLost_eq]

theorem slotsCoast_eq (l : LaneNo) (s : State) :
    slotsCoast l s = lookIf (serviceOn s l) (eachSlot l slotCoasting s) := by
  rw [eachSlot, ← laneSlots_eq, slotsCoast]
  simp only [slotCoasts_eq]

/-- Lane l leaves LOCKED or COAST, its lock record now x: its offer in progress is cut short and LANE_STATE posted (R8,
R29). -/
def leaving (l : LaneNo) (x : Lane) (s : State) : State :=
  { s with
    lanes := vset s.lanes l x
    notice := { s.notice with offers := vset s.notice.offers l ((vget s.notice.offers l).map (fun f =>
      { f with cut := true })) }
    port := (s.port.post (.laneState l (laneAt s l).state x.state x.lag)).1 }

theorem loseLane_eq (l : LaneNo) (s : State) :
    loseLane l s = laneLeft l (slotsLost l (leaving l (laneAt s l).lose s)) := by
  have h : laneAt (cutOffer l (s.modLane l Lane.lose)) l = (laneAt s l).lose := vget_vmod_same s.lanes l Lane.lose
  rw [loseLane, reportLane_eq h]
  rfl

theorem coastLane_eq {l : LaneNo} {s : State} (h : (laneAt s l).state = .locked) :
    coastLane l s = laneLeft l (slotsCoast l (leaving l (laneAt s l).enterCoast s)) := by
  have hx : laneAt (cutOffer l (s.modLane l Lane.enterCoast)) l = (laneAt s l).enterCoast :=
    vget_vmod_same s.lanes l Lane.enterCoast
  rw [coastLane, reportLane_eq hx, leaving, h]
  rfl

/-- A change of the lane's record that leaves its lock state does not show in what follows the leaving. -/
theorem leaving_vset {l : LaneNo} {y : Lane} {s : State} (h : y.state = (laneAt s l).state) (x : Lane) :
    leaving l x { s with lanes := vset s.lanes l y } = leaving l x s := by
  have hstate : (laneAt { s with lanes := vset s.lanes l y } l).state = (laneAt s l).state := by
    rw [laneAt, vget_vset_same, h]
  simp only [leaving, hstate, vset_vset]

/-- What a lane's leaving comes to, look and loss test included. -/
theorem laneLeaves_laneLeft (l : LaneNo) (x : Lane) (each : State → SlotAddr → State) (s : State) :
    LaneLeaves l x each s
      (laneLeft l (lookIf (serviceOn (leaving l x s) l) (eachSlot l each (leaving l x s)))) := by
  have service := serviceOn_iff (leaving l x s) l
  exact ⟨fun h => congrArg (laneLeft l) ((lookIf_iff service _).1 h),
    fun h => congrArg (laneLeft l) ((lookIf_iff service _).2 h)⟩

/-- A lane in LOCKED or COAST that enters HUNT, its record changed first but for its lock state (R24, R26, R27). -/
theorem laneLeaves_loseLane {l : LaneNo} {y : Lane} {s : State} (h : y.state = (laneAt s l).state) :
    LaneLeaves l y.lose slotGone s (loseLane l { s with lanes := vset s.lanes l y }) := by
  rw [loseLane_eq, leaving_vset h, slotsLost_eq, laneAt, vget_vset_same]
  exact laneLeaves_laneLeft _ _ _ _

/-- The same of a lane whose record nothing changed first. -/
theorem laneLeaves_loseLane_self (l : LaneNo) (s : State) :
    LaneLeaves l (laneAt s l).lose slotGone s (loseLane l s) := by
  rw [loseLane_eq, slotsLost_eq]
  exact laneLeaves_laneLeft _ _ _ _

/-- A LOCKED lane that enters COAST (R24). -/
theorem laneLeaves_coastLane {l : LaneNo} {s : State} (h : (laneAt s l).state = .locked) :
    LaneLeaves l (laneAt s l).enterCoast slotCoasting s (coastLane l s) := by
  rw [coastLane_eq h, slotsCoast_eq]
  exact laneLeaves_laneLeft _ _ _ _

end Sys2Proof.Machine
end


section
/-! SUPPORT. A lane that loses its place, and the end of the coast time (R27). -/

namespace Sys2Proof.Machine

/-! ### What a lane's leaving leaves alone -/

@[simp] theorem slotsLost_lanes (l : LaneNo) (s : State) : (slotsLost l s).lanes = s.lanes := by
  rw [← outside_lanes, outside_slotsLost, outside_lanes]

@[simp] theorem slotsCoast_lanes (l : LaneNo) (s : State) : (slotsCoast l s).lanes = s.lanes := by
  rw [← outside_lanes, outside_slotsCoast, outside_lanes]

@[simp] theorem slotsLost_timing (l : LaneNo) (s : State) : (slotsLost l s).timing = s.timing := by
  rw [← outside_timing, outside_slotsLost, outside_timing]

@[simp] theorem slotsLost_loader (l : LaneNo) (s : State) : (slotsLost l s).loader = s.loader := by
  rw [← outside_loader, outside_slotsLost, outside_loader]

@[simp] theorem slotsLost_notice (l : LaneNo) (s : State) : (slotsLost l s).notice = s.notice := by
  rw [← bystanders_notice, bystanders_slotsLost, bystanders_notice]

@[simp] theorem slotsCoast_notice (l : LaneNo) (s : State) : (slotsCoast l s).notice = s.notice := by
  rw [← bystanders_notice, bystanders_slotsCoast, bystanders_notice]

theorem laneAt_slotsLost (l k : LaneNo) (s : State) : laneAt (slotsLost l s) k = laneAt s k := by simp [laneAt]

theorem laneAt_slotsCoast (l k : LaneNo) (s : State) : laneAt (slotsCoast l s) k = laneAt s k := by simp [laneAt]

theorem laneAt_leaving (l k : LaneNo) (x : Lane) (s : State) :
    laneAt (leaving l x s) k = if k = l then x else laneAt s k := vget_vset _ _ _ _

/-- A lane that has lost its place, and the others (R24, R27). -/
theorem laneAt_loseLane (l k : LaneNo) (s : State) :
    laneAt (loseLane l s) k = if k = l then (laneAt s l).lose else laneAt s k := by
  rw [loseLane_eq, laneAt_laneLeft, laneAt_slotsLost, laneAt_leaving]

/-- A lane that has entered COAST, and the others (R27). -/
theorem laneAt_coastLane {l : LaneNo} {s : State} (h : (laneAt s l).state = .locked) (k : LaneNo) :
    laneAt (coastLane l s) k = if k = l then (laneAt s l).enterCoast else laneAt s k := by
  rw [coastLane_eq h, laneAt_laneLeft, laneAt_slotsCoast, laneAt_leaving]

@[simp] theorem loseLane_number (l : LaneNo) (s : State) : (loseLane l s).timing.number = s.timing.number := by
  rw [loseLane_eq, laneLeft_number, slotsLost_timing]
  rfl

@[simp] theorem loseLane_pacer (l : LaneNo) (s : State) : (loseLane l s).timing.pacer = s.timing.pacer := by
  rw [loseLane_eq, laneLeft_pacer, slotsLost_timing]
  rfl

/-- The offer in progress on a lane that leaves is cut short (R8). -/
theorem offers_leaving (l : LaneNo) (x : Lane) (s : State) : vget (leaving l x s).notice.offers l =
    (vget s.notice.offers l).map (fun f => { f with cut := true }) := vget_vset_same _ _ _

theorem offers_loseLane (l : LaneNo) (s : State) : vget (loseLane l s).notice.offers l =
    (vget s.notice.offers l).map (fun f => { f with cut := true }) := by
  have h : vget (slotsLost l (leaving l (laneAt s l).lose s)).notice.offers l =
      (vget s.notice.offers l).map (fun f => { f with cut := true }) := by rw [slotsLost_notice, offers_leaving]
  rw [loseLane_eq, laneLeft_offers l _ h, h]

theorem offers_coastLane {l : LaneNo} {s : State} (h : (laneAt s l).state = .locked) :
    vget (coastLane l s).notice.offers l = (vget s.notice.offers l).map (fun f => { f with cut := true }) := by
  have h' : vget (slotsCoast l (leaving l (laneAt s l).enterCoast s)).notice.offers l =
      (vget s.notice.offers l).map (fun f => { f with cut := true }) := by rw [slotsCoast_notice, offers_leaving]
  rw [coastLane_eq h, laneLeft_offers l _ h', h']

/-! ### The end of the coast time (R27) -/

theorem exec_coastTimeExpiry (l : LaneNo) (s : State) : exec (.coastTimeExpiry l) s = execCoastTimeExpiry l s := rfl

/-- Slot records that are neither CLAIMING nor MINE become UNSEEN, and nothing is handed (R63). -/
theorem foldl_slotGone {ls : List SlotAddr} {s : State}
    (h : ∀ a ∈ ls, (slotAt s a).state ≠ .claiming ∧ (slotAt s a).state ≠ .mine) :
    ls.foldl slotGone s = ls.foldl (fun x a => x.modSlot a SlotRec.unsee) s := by
  induction ls generalizing s with
  | nil => rfl
  | cons a ls ih =>
    have hgone : slotGone s a = s.modSlot a SlotRec.unsee := by
      obtain ⟨hc, hm⟩ := h a List.mem_cons_self
      unfold slotGone
      cases hs : (slotAt s a).state with
      | claiming => contradiction
      | mine => contradiction
      | unseen | free | theirs | barred => rfl
    rw [List.foldl_cons, List.foldl_cons, hgone]
    refine ih fun b hb => ?_
    have hb' : slotAt (s.modSlot a SlotRec.unsee) b = if b = a then (slotAt s a).unsee else slotAt s b :=
      vget_vmod _ _ _ _
    rw [hb']
    split
    · exact ⟨nofun, nofun⟩
    · exact h b (List.mem_cons_of_mem a hb)

/-- Settles O18: what follows the lane's leaving, then the case with nothing to hand, whole. -/
theorem coastTimeExpiryBringsHunt : Obligations.CoastTimeExpiryBringsHunt := by
  intro l s hreset
  rw [exec_coastTimeExpiry, execCoastTimeExpiry, run_of_released hreset]
  refine ⟨fun h => ?_, fun hstate hcoast => ?_⟩
  · rw [if_neg]
    rintro ⟨hs, hc⟩
    exact h.elim (absurd hs) (absurd hc)
  intro lost service
  have hlost : leaving l (laneAt s l).lose s = lost := by
    simp only [leaving, hstate]
    rfl
  have hservice : serviceOn lost l = true ↔ service := serviceOn_iff lost l
  refine ⟨eachSlot l slotGone lost, slotsLost l lost, ?_, rfl, fun h => ?_, fun h => ?_, ?_, fun k hk => ?_, ?_,
    fun hfree h => ?_⟩
  · rw [if_pos ⟨hstate, hcoast⟩, loseLane_eq, hlost]
  · rw [slotsLost_eq, (lookIf_iff hservice _).1 h]
  · rw [slotsLost_eq, (lookIf_iff hservice _).2 h]
  · rw [laneAt_laneLeft, laneAt_slotsLost]
  · rw [laneAt_laneLeft, laneAt_slotsLost, ← hlost, laneAt_leaving, if_neg hk]
  · exact slotsLost_loader l lost
  · have hu : slotsLost l lost = (laneSlots l).foldl (fun x a => x.modSlot a SlotRec.unsee) lost := by
      rw [slotsLost_eq, (lookIf_iff hservice _).2 h, eachSlot, ← laneSlots_eq]
      exact foldl_slotGone fun a ha => hfree a ((mem_laneSlots l a).mp ha)
    rw [hu]
    refine ⟨?_, ?_, fun a => slotAt_foldl_modSlot SlotRec.unsee l lost a⟩
    · rw [foldl_modSlot]
    · rw [foldl_modSlot]

end Sys2Proof.Machine
end


section
/-! SUPPORT. A LOCKED lane's expected mark and its misses (R24, R25, R34). -/

namespace Sys2Proof.Machine

theorem exec_markVerdict (l : LaneNo) (w : Window) (s : State) :
    exec (.markVerdict l w) s = execMarkVerdict l w s := rfl

/-- A verdict on a LOCKED lane (R24 to R26). -/
theorem exec_markVerdict_locked {l : LaneNo} {w : Window} {s : State} (hreset : s.pins.resetAsserted = false)
    (h : (laneAt s l).state = .locked) :
    exec (.markVerdict l w) s = .next (settle (lockedVerdict l (verdictOf l w) s)) := by
  rw [exec_markVerdict, execMarkVerdict, run_of_released hreset, h]

/-! ### The expected mark (R24, R34, R41) -/

/-- Every expected position of a LOCKED lane, field by field (R23, R24). -/
theorem Lane.advance_eq (x : Lane) : x.advance = { x with
    expNum := x.expNum.map (fun n => n + 1), expPos := x.expPos.map (fun p => place p 5120)
    lockAge := min 255 (x.lockAge + 1), former := none
    r8Failed := x.r8Failed.filter (fun c => x.expNum == some c || x.expNum == some (c + 1)) } := rfl

theorem timingExpected_none {l : LaneNo} {s : State} (offset : Int)
    (h : s.timing.role ≠ .following ∨ s.timing.rephase = false ∧ s.timing.trim ≠ some l) :
    timingExpected l offset s = s := by
  unfold timingExpected
  rcases h with h | ⟨hre, htrim⟩
  · rw [if_pos h]
  · simp [hre, htrim]

theorem timingExpected_rephase {l : LaneNo} {s : State} (offset : Int) (hrole : s.timing.role = .following)
    (h : s.timing.rephase = true) : timingExpected l offset s =
      { s with timing := { s.timing with rephase := false, trim := some l } } := by
  rw [timingExpected, if_neg (not_not_intro hrole), if_pos h]
  rfl

/-- A trim by the whole offset (R34, log entry 7). -/
theorem timingExpected_trim {l : LaneNo} {s : State} (offset : Int) (hrole : s.timing.role = .following)
    (hre : s.timing.rephase = false) (htrim : s.timing.trim = some l) :
    timingExpected l offset s = (shiftConfirm offset s).modTiming (fun t =>
      t.moveTo (s.timing.position + s.timing.slip - offset)) := by
  rw [timingExpected, if_neg (not_not_intro hrole), if_neg (by simp [hre]), if_pos htrim]
  rfl

theorem moveTo_eq (p : Int) (t : Timing) : t.moveTo p =
    { t with position := (min 5119 (max 0 p)).toNat, slip := p - min 5119 (max 0 p) } := by
  have h : (((min 5119 (max 0 p)).toNat : Nat) : Int) = min 5119 (max 0 p) := by omega
  simp only [Timing.moveTo, h]

/-- A LOCKED lane's mark with the expected number (R24). -/
theorem lockedMark_expected {l : LaneNo} {f : MarkFields} {s : State} (m : Nat) (offset : Int)
    (h : (laneAt s l).expNum = some f.number) : lockedMark l m offset f s = expectedMark l offset s := if_pos h

/-! ### A miss (R24, R25) -/

/-- A LOCKED lane's record after a miss (R24, R25). -/
def Lane.missed (cand : Option CycleNo) (bad : Bool) (x : Lane) : Lane :=
  { x.advance with miss := x.miss + 1, cand := cand, badMarks := if bad then bump x.badMarks else x.badMarks }

/-- The first three misses, and the fourth (R24). -/
theorem missMark_eq (l : LaneNo) (cand : Option CycleNo) (bad : Bool) (s : State) : missMark l cand bad s =
    if 3 ≤ (laneAt s l).miss then leaveLocked l (s.modLane l (Lane.missed cand bad))
    else s.modLane l (Lane.missed cand bad) := by
  have h : (laneAt (s.modLane l (Lane.missed cand bad)) l).miss = (laneAt s l).miss + 1 := by
    rw [laneAt_modLane, if_pos rfl]
    rfl
  change (if 4 ≤ (laneAt (s.modLane l (Lane.missed cand bad)) l).miss then _ else _) = _
  rw [h]
  exact if_congr (by omega) rfl rfl

/-- A mark of neither the expected number nor an adopted numbering is a miss, and its number the candidate (R25). -/
theorem lockedMark_missed {l : LaneNo} {f : MarkFields} {s : State} (m : Nat) (offset : Int)
    (hnum : (laneAt s l).expNum ≠ some f.number) (hfresh : f.fresh = false)
    (hcand : ∀ c, (laneAt s l).cand = some c → f.number ≠ c + 1) :
    lockedMark l m offset f s = missMark l (some f.number) true s := by
  have hadopt : ¬ (f.fresh ∨ (laneAt s l).cand.any (fun c => f.number == nextCycle c)) := by
    simpa [hfresh, Option.any_eq_true, nextCycle] using hcand
  rw [lockedMark, if_neg hnum, if_neg hadopt]

/-- The verdicts of a LOCKED lane that are misses, each with the state it finds, the candidate it leaves, and whether it
was a bad mark. -/
theorem lockedVerdict_missed {l : LaneNo} {v : Verdict} {s s1 : State} {cand : Option CycleNo} {bad : Bool}
    (h : (v = .bad ∧ bad = true ∨ v = .missing ∧ bad = false) ∧ cand = none ∧ s1 = timingSilence l s ∨
      ∃ f offset word, v = .valid f offset word ∧ bad = true ∧ cand = some f.number ∧
        s1 = timingMark l (place ((laneAt s l).expPos.getD 0) offset) word f s ∧
        (laneAt s1 l).expNum ≠ some f.number ∧ f.fresh = false ∧
        (∀ c, (laneAt s1 l).cand = some c → f.number ≠ c + 1)) :
    lockedVerdict l v s = missMark l cand bad s1 ∧ (laneAt s1 l).state = (laneAt s l).state := by
  rcases h with ⟨⟨rfl, rfl⟩ | ⟨rfl, rfl⟩, rfl, rfl⟩ | ⟨f, offset, word, rfl, rfl, rfl, rfl, hnum, hfresh, hcand⟩
  · exact ⟨rfl, by simp [laneAt]⟩
  · exact ⟨rfl, by simp [laneAt]⟩
  · exact ⟨lockedMark_missed _ _ hnum hfresh hcand, state_timingMark _ _ _ _ _ _⟩

/-- Settles O15: the expected mark, then the misses, of which the fourth leaves LOCKED by the role. -/
theorem markVerdictOnALockedLane : Obligations.MarkVerdictOnALockedLane := by
  intro l w s hreset hlocked
  rw [exec_markVerdict_locked hreset hlocked]
  refine ⟨Lane.advance_eq, fun offset u => ⟨timingExpected_none offset, timingExpected_rephase offset,
    fun hrole hre htrim => ?_⟩, fun f offset word hv => ?_, fun s1 cand bad h => ?_⟩
  · intro p
    rw [timingExpected_trim offset hrole hre htrim, State.modTiming, moveTo_eq]
    rfl
  · rw [hv]
    intro s1 hnum
    exact congrArg (fun u => Host.Outcome.next (settle u)) (lockedMark_expected _ _ hnum)
  obtain ⟨hverdict, hstate⟩ := lockedVerdict_missed h
  intro s2
  have hs2 : (laneAt s2 l).state = .locked := by
    have hmissed : laneAt s2 l = (laneAt s1 l).missed cand bad := vget_vmod_same _ _ _
    rw [hmissed, ← hlocked, ← hstate]
    rfl
  rw [hverdict, missMark_eq]
  refine ⟨fun hmiss => ?_, fun hmiss => ?_⟩
  · rw [if_neg (by omega)]
    rfl
  rw [if_pos hmiss]
  refine ⟨leaveLocked l s2, rfl, ?_⟩
  by_cases hrole : s2.timing.role = .electing
  · have ht : leaveLocked l s2 = coastLane l s2 := if_pos hrole
    have hl : laneAt (coastLane l s2) l = (laneAt s2 l).enterCoast := (laneAt_coastLane hs2 l).trans (if_pos rfl)
    rw [ht, hl]
    exact ⟨fun _ => ⟨rfl, laneLeaves_coastLane hs2⟩, fun h => absurd hrole h,
      fun k hk => (laneAt_coastLane hs2 k).trans (if_neg hk), offers_coastLane hs2⟩
  · have ht : leaveLocked l s2 = loseLane l s2 := if_neg hrole
    have hl : laneAt (loseLane l s2) l = (laneAt s2 l).lose := (laneAt_loseLane l l s2).trans (if_pos rfl)
    rw [ht, hl]
    exact ⟨fun h => absurd h hrole, fun _ => ⟨rfl, laneLeaves_loseLane_self l s2⟩,
      fun k hk => (laneAt_loseLane l k s2).trans (if_neg hk), offers_loseLane l s2⟩

end Sys2Proof.Machine
end


section
/-! SUPPORT. A CONFIRM lane's verdicts (R20 to R22): the phase reference, and the lock. -/

namespace Sys2Proof.Machine

/-! ### The phase reference (R22) -/

/-- When a lane that locks is the phase reference (R22, log entry 13). -/
theorem isReference_iff (l : LaneNo) (s : State) : isReference l s = true ↔ s.timing.role = .following ∧
    (s.timing.phased = false ∨ s.timing.rephase = true ∨
      ∀ k, k ≠ l → (laneAt s k).state ≠ .locked ∧ (laneAt s k).state ≠ .coast) := by
  have lanes : allLanes.all (fun m => m == l || !lockedOrCoast s m) = true ↔
      ∀ k, k ≠ l → (laneAt s k).state ≠ .locked ∧ (laneAt s k).state ≠ .coast := by
    simp only [List.all_eq_true, mem_allLanes, forall_const, lockedOrCoast, Bool.or_eq_true, beq_iff_eq,
      Bool.not_eq_true', Bool.or_eq_false_iff, beq_eq_false_iff_ne, or_iff_not_imp_left, ne_eq]
  simp only [isReference, noPhase, Bool.and_eq_true, Bool.or_eq_true, lanes, beq_iff_eq, Bool.not_eq_true', or_assoc]

/-- The lane's own record does not tell whether it is the reference. -/
theorem isReference_modLane (l : LaneNo) (f : Lane → Lane) (s : State) :
    isReference l (s.modLane l f) = isReference l s := by
  refine Bool.eq_iff_iff.mpr ?_
  rw [isReference_iff, isReference_iff]
  have lanes (k : LaneNo) (hk : k ≠ l) : laneAt (s.modLane l f) k = laneAt s k := by rw [laneAt_modLane, if_neg hk]
  refine and_congr_right fun _ => or_congr_right (or_congr_right (forall_congr' fun k => forall_congr' fun hk => ?_))
  rw [lanes k hk]

/-- The expected place at no lag is the start of the cycle (R22). -/
theorem nextPlace_zero (num : CycleNo) : nextPlace num 0 0 = cycleStart (num + 1) := place_zero (cycleStart_lt _)

/-- Locked with no lag (R22). -/
theorem Lane.lockOn_zero (num : CycleNo) (x : Lane) : x.lockOn num 0 0 = { x with
    state := .locked, expNum := some (num + 1), expPos := some (cycleStart (num + 1)), lag := some 0, residue := some 0
    miss := 0, cand := none, lockAge := 0, coast := 0, r8Failed := some num, former := none } := by
  rw [← nextPlace_zero]
  rfl

/-- The lanes after the reference has placed the flywheel (R33, log entry 68). -/
theorem laneAt_phaseOn (l : LaneNo) (m : Nat) (num : CycleNo) (s : State) (k : LaneNo) :
    laneAt (phaseOn l m num s) k = carried (placeDiff m (cycleStart (cycleAt (place m 2560))))
      (num - cycleAt (place m 2560)) (laneAt s k) := laneAt_moved _ _ _ _

/-! ### CONFIRM (R20 to R22) -/

/-- A verdict on a CONFIRM lane (R21). -/
theorem exec_markVerdict_confirm {l : LaneNo} {w : Window} {s : State} (hreset : s.pins.resetAsserted = false)
    (h : (laneAt s l).state = .confirm) :
    exec (.markVerdict l w) s = .next (settle (confirmVerdict l (verdictOf l w) s)) := by
  rw [exec_markVerdict, execMarkVerdict, run_of_released hreset, h]

/-- A lane with no expected position takes no verdict (R18, log entry 1). -/
theorem exec_markVerdict_none {l : LaneNo} {s : State} (w : Window) (hreset : s.pins.resetAsserted = false)
    (h : (laneAt s l).state = .disabled ∨ (laneAt s l).state = .hunt ∨ (laneAt s l).state = .coast) :
    exec (.markVerdict l w) s = .next (settle s) := by
  rw [exec_markVerdict, execMarkVerdict, run_of_released hreset]
  rcases h with h | h | h <;> rw [h]

section Confirm

variable {l : LaneNo} {num : CycleNo} {s : State} (m : Nat)

theorem confirmMark_other (h : (laneAt s l).expNum ≠ some num) :
    confirmMark l m num s = s.modLane l (Lane.confirmFrom m num) := if_pos h

/-- A mark with the expected number confirms, and the third one locks (R21, R22). -/
theorem confirmMark_expected (h : (laneAt s l).expNum = some num) : confirmMark l m num s =
    if 2 ≤ (laneAt s l).confirm then lockLane l m num (s.modLane l (Lane.confirmMore m num))
    else s.modLane l (Lane.confirmMore m num) := by
  have hc : (laneAt (s.modLane l (Lane.confirmMore m num)) l).confirm = (laneAt s l).confirm + 1 := by
    rw [laneAt_modLane, if_pos rfl]
    rfl
  rw [confirmMark, if_neg (not_not_intro h)]
  dsimp only
  rw [hc]
  exact if_congr (by omega) rfl rfl

/-- The confirming lane locks as the phase reference (R22, R33). -/
theorem lockLane_reference (h : isReference l s = true) :
    lockLane l m num s = handLock l true false { s with
      lanes := ((phaseOn l m num s).modLane l (Lane.lockOn num 0 0)).lanes
      timing := (phaseOn l m num s).timing
      port := (s.port.post (.laneState l .confirm .locked (some 0))).1 } := by
  have hl : laneAt ((phaseOn l m num s).modLane l (Lane.lockOn num 0 0)) l =
      Lane.lockOn num 0 0 (laneAt (phaseOn l m num s) l) := vget_vmod_same _ _ _
  rw [lockLane, if_pos h, reportLane_eq hl]
  rfl

/-- The confirming lane locks at its measured lag (R22). -/
theorem lockLane_measured {lag : Int} {residue : Nat} (h : isReference l s = false)
    (hm : measure m num = some (lag, residue)) :
    lockLane l m num s = handLock l true false { s with
      lanes := (s.modLane l (Lane.lockOn num lag residue)).lanes
      timing := s.timing
      port := (s.port.post (.laneState l .confirm .locked (some lag))).1 } := by
  have hl : laneAt (s.modLane l (Lane.lockOn num lag residue)) l = Lane.lockOn num lag residue (laneAt s l) :=
    vget_vmod_same _ _ _
  rw [lockLane, if_neg (by simp [h]), hm]
  dsimp only
  rw [reportLane_eq hl]
  rfl

/-- The confirming lane measures out of range (R22). -/
theorem lockLane_outOfRange (h : isReference l s = false) (hm : measure m num = none) :
    lockLane l m num s = s.modLane l (fun x => { x.unconfirm with lagOutOfRange := bump x.lagOutOfRange }) := by
  rw [lockLane, if_neg (by simp [h]), hm]

/-- The lanes and the timing record after the lock of the reference: every place is carried along (R33, R41). -/
theorem lockLane_reference_lanes (h : isReference l s = true) (k : LaneNo) :
    laneAt (lockLane l m num s) k =
      let moved := carried (placeDiff m (cycleStart (cycleAt (place m 2560)))) (num - cycleAt (place m 2560))
      if k = l then Lane.lockOn num 0 0 (moved (laneAt s l)) else moved (laneAt s k) := by
  rw [lockLane_reference m h, laneAt, handLock_lanes]
  refine (laneAt_modLane _ _ _ _).trans ?_
  rw [laneAt_phaseOn, laneAt_phaseOn]

theorem lockLane_reference_timing (h : isReference l s = true) :
    (lockLane l m num s).timing = (phaseOn l m num s).timing := by
  rw [lockLane_reference m h, handLock_timing]

theorem lockLane_measured_lanes {lag : Int} {residue : Nat} (h : isReference l s = false)
    (hm : measure m num = some (lag, residue)) (k : LaneNo) :
    laneAt (lockLane l m num s) k = if k = l then Lane.lockOn num lag residue (laneAt s l) else laneAt s k := by
  rw [lockLane_measured m h hm, laneAt, handLock_lanes]
  exact laneAt_modLane _ _ _ _

theorem lockLane_measured_timing {lag : Int} {residue : Nat} (h : isReference l s = false)
    (hm : measure m num = some (lag, residue)) : (lockLane l m num s).timing = s.timing := by
  rw [lockLane_measured m h hm, handLock_timing]

end Confirm

/-- Settles O13: the verdicts of CONFIRM, of which the third confirming mark locks as reference, locks at its measured
lag, or is out of range. -/
theorem markVerdictOnAnUnlockedLane : Obligations.MarkVerdictOnAnUnlockedLane := by
  intro l w s hreset
  refine ⟨exec_markVerdict_none w hreset, fun hstate => ?_⟩
  have hsilent : timingSilence l s = s := timingSilence_unlocked (by rw [hstate]; nofun)
  rw [exec_markVerdict_confirm hreset hstate]
  refine ⟨fun hv => ?_, fun hv => ?_, fun f offset word hv => ?_⟩ <;> rw [hv]
  · rw [confirmVerdict, hsilent]
    rfl
  · rw [confirmVerdict, hsilent]
    rfl
  intro m s1
  have hverdict : confirmVerdict l (.valid f offset word) s = confirmMark l m f.number s1 := rfl
  rw [hverdict]
  refine ⟨fun hnum => ?_, fun hnum hc => ?_, isReference_iff l s1, fun hnum hc => ?_⟩
  · rw [confirmMark_other m hnum]
    rfl
  · rw [confirmMark_expected m hnum, if_neg (by omega)]
    rfl
  rw [confirmMark_expected m hnum, if_pos hc]
  let s2 := s1.modLane l (Lane.confirmMore m f.number)
  have hl : laneAt s2 l = (laneAt s1 l).confirmMore m f.number := vget_vmod_same _ _ _
  have hk (k : LaneNo) (hk : k ≠ l) : laneAt s2 k = laneAt s1 k := by rw [laneAt_modLane, if_neg hk]
  have href : isReference l s2 = isReference l s1 := isReference_modLane _ _ _
  refine ⟨lockLane l m f.number s2, rfl, fun h => ?_, fun h lag residue hm => ?_, fun h hm => ?_⟩
  · rw [← href] at h
    have hlock : laneAt (lockLane l m f.number s2) l = _ := lockLane_reference_lanes m h l
    rw [if_pos rfl, hl, Lane.lockOn_zero] at hlock
    have htiming : (lockLane l m f.number s2).timing = _ := lockLane_reference_timing m h
    rw [hlock]
    refine ⟨rfl, rfl, rfl, rfl, rfl, rfl, rfl, rfl, ⟨htiming, rfl, fun k hne => ?_⟩, ?_⟩
    · refine (lockLane_reference_lanes m h k).trans ?_
      rw [if_neg hne, hk k hne]
      rfl
    · rw [lockLane_reference m h]
      exact lockHanded_handLock l true false s1 _ _ _
  · rw [← href] at h
    have hlock : laneAt (lockLane l m f.number s2) l = Lane.lockOn f.number lag residue (laneAt s2 l) := by
      rw [lockLane_measured_lanes m h hm, if_pos rfl]
    rw [hlock, hl]
    refine ⟨rfl, rfl, rfl, rfl, rfl, rfl, rfl, rfl, lockLane_measured_timing m h hm, rfl, fun k hne => ?_, ?_⟩
    · rw [lockLane_measured_lanes m h hm, if_neg hne, hk k hne]
    · rw [lockLane_measured m h hm]
      exact lockHanded_handLock l true false s1 _ _ _
  · rw [← href] at h
    have hlost : laneAt (lockLane l m f.number s2) l =
        { (laneAt s2 l).unconfirm with lagOutOfRange := bump (laneAt s2 l).lagOutOfRange } := by
      rw [lockLane_outOfRange m h hm, laneAt_modLane, if_pos rfl]
    rw [hlost, hl]
    refine ⟨rfl, rfl, rfl, ?_, rfl, fun k hne => ?_⟩
    · rw [lockLane_outOfRange m h hm]
      rfl
    · rw [lockLane_outOfRange m h hm, laneAt_modLane, if_neg hne, hk k hne]

end Sys2Proof.Machine
end


section
/-! SUPPORT. An adoption of a LOCKED lane (R25, R26, R35, R41): the pacer of record, what the flywheel takes of the
numbering, and the lane that stays LOCKED or is lost. -/

namespace Sys2Proof.Machine

/-! ### The pacer of record (R35) -/

/-- A timing record of the same role, pacer of record and phase, of which TIMING_ROLE (R46) tells alike. -/
structure SameRole (t t' : Timing) : Prop where
  role : t'.role = t.role
  pacer : t'.pacer = t.pacer
  phased : t'.phased = t.phased

/-- TIMING_ROLE (R46), of a role that is known. -/
theorem reportRole_eq {s : State} {role : Role} (h : s.timing.role = role) (left : Role) : reportRole left s =
    { s with port := (s.port.post (.timingRole left role s.timing.pacer
      (if s.timing.phased then some s.timing.number else none))).1 } := by
  subst h
  rfl

/-- The pacer of record follows an adopted mark, and TIMING_ROLE is posted where it changes (R35, log entry 79). -/
theorem adoptPacer_eq (pacer : StationId) {s : State} (lanes : Vector Lane 4) {t : Timing}
    (h : SameRole s.timing t) : adoptPacer pacer { s with lanes := lanes, timing := t } = { s with
      lanes := lanes
      timing := { t with pacer := some pacer }
      port := adoptReports s pacer t.number [] } := by
  have changes : (t.role = .following ∧ t.pacer ≠ some pacer) ↔
      s.timing.role = .following ∧ s.timing.pacer ≠ some pacer := by rw [h.role, h.pacer]
  by_cases hc : s.timing.role = .following ∧ s.timing.pacer ≠ some pacer
  · rw [adoptPacer, if_pos (changes.mpr hc), adoptReports, if_pos hc, ← h.phased]
    exact reportRole_eq (s := { s with lanes := lanes, timing := { t with pacer := some pacer } })
      (h.role.trans hc.1) .following
  · rw [adoptPacer, if_neg (mt changes.mp hc), adoptReports, if_neg hc]
    rfl

/-! ### The flywheel takes an adopted numbering (R26, R35, R41) -/

section Numbering

variable {l : LaneNo} {e m : Nat} {num : CycleNo} {s : State} {lag : Int} {residue : Nat}

/-- The timing record of a flywheel renumbered by n (R35). -/
def Timing.renumbered (n : CycleNo) (t : Timing) : Timing :=
  { t with number := t.number + n, live := t.live.map (fun c => c + n) }

/-- The timing record after an adoption that ends a pending re-phase (R35, R41). -/
def Timing.rephased (l : LaneNo) (t : Timing) : Timing :=
  { t with rephase := false, trim := if t.role = .following then some l else t.trim }

theorem cycleOfPlace_eq {x : Lane} (hlag : x.lag = some lag) (hres : x.residue = some residue) (e : Nat) :
    cycleOfPlace x e = cycleHeld e lag residue := by
  rw [cycleOfPlace, hlag, hres]
  rfl

theorem carries_iff (hlag : (laneAt s l).lag = some lag) (hres : (laneAt s l).residue = some residue) :
    carries s l e num = true ↔ cycleHeld e lag residue = num := by
  rw [carries, cycleOfPlace_eq hlag hres, beq_iff_eq]

/-- Where the flywheel does not carry the numbering it is renumbered, and the lane keeps its lag (R35). -/
theorem adoptNumbering_renumbers (hlag : (laneAt s l).lag = some lag) (hres : (laneAt s l).residue = some residue)
    (hthere : cycleHeld e lag residue ≠ num) (hrole : s.timing.role ≠ .electing) :
    adoptNumbering l e m num s = ({ s with
      lanes := (renumber (num - cycleHeld e lag residue) s).lanes
      timing := (s.timing.renumbered (num - cycleHeld e lag residue)).rephased l }, some (lag, residue)) := by
  rw [adoptNumbering, if_neg (mt (carries_iff hlag hres).mp hthere), if_neg hrole, cycleOfPlace_eq hlag hres, hlag,
    hres]
  rfl

/-- Where it carries the numbering and a re-phase is pending, the lane keeps its lag (R41, log entry 15). -/
theorem adoptNumbering_keeps (hlag : (laneAt s l).lag = some lag) (hres : (laneAt s l).residue = some residue)
    (hthere : cycleHeld e lag residue = num) (hre : s.timing.rephase = true) :
    adoptNumbering l e m num s =
      ({ s with lanes := s.lanes, timing := s.timing.rephased l }, some (lag, residue)) := by
  rw [adoptNumbering, if_pos ((carries_iff hlag hres).mpr hthere), if_pos hre, hlag, hres]
  rfl

/-- Else the lag is measured: the flywheel carries the numbering, or the timing unit is ELECTING (R26, log entry 52). -/
theorem adoptNumbering_measures (hlag : (laneAt s l).lag = some lag) (hres : (laneAt s l).residue = some residue)
    (hren : ¬ (cycleHeld e lag residue ≠ num ∧ s.timing.role ≠ .electing))
    (hkeep : ¬ (cycleHeld e lag residue = num ∧ s.timing.rephase = true)) :
    adoptNumbering l e m num s = ({ s with lanes := s.lanes, timing := s.timing }, measure m num) := by
  rw [adoptNumbering]
  by_cases h : cycleHeld e lag residue = num
  · rw [if_pos ((carries_iff hlag hres).mpr h), if_neg fun hre => hkeep ⟨h, hre⟩]
  · rw [if_neg (mt (carries_iff hlag hres).mp h), if_pos (Classical.not_not.mp fun hrole => hren ⟨h, hrole⟩)]

end Numbering

/-! ### A LOCKED lane adopts (R25, R26) -/

section AdoptLocked

variable {l : LaneNo} {m : Nat} {f : MarkFields} {s : State} {old : CycleNo} {e : Nat}

/-- A LOCKED lane's mark that is adopted (R25). -/
theorem lockedMark_adopted (m : Nat) (offset : Int) (hnum : (laneAt s l).expNum ≠ some f.number)
    (h : f.fresh = true ∨ ∃ c, (laneAt s l).cand = some c ∧ f.number = c + 1) :
    lockedMark l m offset f s = adoptLocked l m f s := by
  have hadopt : f.fresh ∨ (laneAt s l).cand.any (fun c => f.number == nextCycle c) := by
    simpa [Option.any_eq_true, nextCycle] using h
  rw [lockedMark, if_neg hnum, if_pos hadopt]

/-- The adoption of a lane that stays LOCKED (R26, R30, R35). -/
theorem adoptLocked_adopts {lanes : Vector Lane 4} {t : Timing} {lag : Int} {residue : Nat}
    (hnum : (laneAt s l).expNum = some old) (hpos : (laneAt s l).expPos = some e)
    (hout : adoptNumbering l e m f.number s = ({ s with lanes := lanes, timing := t }, some (lag, residue)))
    (h : SameRole s.timing t) :
    adoptLocked l m f s = handed l false true { s with
      lanes := vmod lanes l (Lane.adopt f.number old lag residue)
      timing := { t with pacer := some f.pacer }
      port := adoptReports s f.pacer t.number [.laneRenumbered l old f.number (some lag)] } := by
  simp only [adoptLocked, hnum, hpos, Option.getD_some, hout, adoptPacer_eq f.pacer lanes h]
  rfl

/-- The record of a lane whose adoption measures out of range, before it loses its place (R26). -/
def Lane.unadopted (x : Lane) : Lane :=
  { x with lagOutOfRange := bump x.lagOutOfRange, miss := 0, cand := none, lockAge := min 255 (x.lockAge + 1) }

/-- The adoption of a lane that measures out of range (R26, R30, log entry 14). -/
theorem adoptLocked_fails (hnum : (laneAt s l).expNum = some old) (hpos : (laneAt s l).expPos = some e)
    (hout : adoptNumbering l e m f.number s = ({ s with lanes := s.lanes, timing := s.timing }, none)) :
    adoptLocked l m f s = loseLane l { s with
      lanes := vset s.lanes l (laneAt s l).unadopted
      timing := { s.timing with pacer := some f.pacer }
      port := adoptReports s f.pacer s.timing.number [.laneRenumbered l old f.number none] } := by
  simp only [adoptLocked, hnum, hpos, Option.getD_some, hout, adoptPacer_eq f.pacer s.lanes ⟨rfl, rfl, rfl⟩,
    adoptFailed, State.modLane, vmod_vmod]
  rfl

end AdoptLocked

/-- A renumbering moves no more of a lane than the places on its record (R35). -/
theorem renumber_places (n : CycleNo) (s : State) (k : LaneNo) : laneAt (renumber n s) k = { laneAt s k with
    expPos := (laneAt (renumber n s) k).expPos, emitted := (laneAt (renumber n s) k).emitted } := by
  rw [laneAt_renumber]

/-- What the statement says of a lane that adopts and stays LOCKED, at a lag and residue: its record, its handing to the
receive records, and the state whole where no trunk is received. -/
def AdoptsAt (l : LaneNo) (num old : CycleNo) (pacer : StationId) (lag : Int) (residue : Nat) (s t : State) : Prop :=
  laneAt t l = { laneAt s l with
    expNum := some (num + 1)
    expPos := some (place (cycleStart (num + 1)) (lag * 320 + residue))
    lag := some lag, residue := some residue, miss := 0, cand := none, lockAge := min 255 ((laneAt s l).lockAge + 1)
    former := some old, r8Failed := (laneAt s l).r8Failed.map (fun c => c + (num - old))
    emitted := (laneAt t l).emitted } ∧
  (∃ u, t = handed l false true u ∧ u = { s with
    lanes := t.lanes
    timing := t.timing
    port := adoptReports s pacer t.timing.number [.laneRenumbered l old num (some lag)] }) ∧
  ((∀ r, (rxAt s r).state ≠ .accepted) → t = { s with
    lanes := t.lanes
    timing := t.timing
    port := adoptReports s pacer t.timing.number [.laneRenumbered l old num (some lag)] })

/-- An adoption that has moved no more of the lane than the places on its record (R35). -/
theorem adoptsAt_handed {l : LaneNo} {num old : CycleNo} {pacer : StationId} {lag : Int} {residue : Nat} {s : State}
    {lanes : Vector Lane 4} {timing : Timing}
    (h : vget lanes l = { laneAt s l with expPos := (vget lanes l).expPos, emitted := (vget lanes l).emitted }) :
    AdoptsAt l num old pacer lag residue s (handed l false true { s with
      lanes := vmod lanes l (Lane.adopt num old lag residue)
      timing := timing
      port := adoptReports s pacer timing.number [.laneRenumbered l old num (some lag)] }) := by
  refine ⟨?_, ⟨_, rfl, by rw [handed_lanes, handed_timing]⟩, fun hnone => ?_⟩
  · rw [laneAt, handed_lanes, vget_vmod_same, h]
    rfl
  · rw [handed_of_none_accepted]
    exact hnone

section Adoption

variable {l : LaneNo} {m : Nat} {f : MarkFields} {s : State} {old : CycleNo} {e : Nat} {lag : Int} {residue : Nat}

/-- What an adoption comes to where the lane stays LOCKED: its own record, the timing record and the other lanes. -/
theorem adoptLocked_spec {lanes : Vector Lane 4} {t : Timing} (hnum : (laneAt s l).expNum = some old)
    (hpos : (laneAt s l).expPos = some e)
    (hout : adoptNumbering l e m f.number s = ({ s with lanes := lanes, timing := t }, some (lag, residue)))
    (ht : SameRole s.timing t)
    (h : vget lanes l = { laneAt s l with expPos := (vget lanes l).expPos, emitted := (vget lanes l).emitted }) :
    AdoptsAt l f.number old f.pacer lag residue s (adoptLocked l m f s) ∧
      (adoptLocked l m f s).timing = { t with pacer := some f.pacer } ∧
      ∀ k, k ≠ l → laneAt (adoptLocked l m f s) k = vget lanes k := by
  rw [adoptLocked_adopts hnum hpos hout ht]
  refine ⟨adoptsAt_handed h, by rw [handed_timing], fun k hk => ?_⟩
  rw [laneAt, handed_lanes, vget_vmod_of_ne _ hk]

/-- The adoption of a lane that is lost (R26, R30, R63, log entry 14). -/
theorem adoptLocked_lost (hnum : (laneAt s l).expNum = some old) (hpos : (laneAt s l).expPos = some e)
    (hout : adoptNumbering l e m f.number s = ({ s with lanes := s.lanes, timing := s.timing }, none)) :
    laneAt (adoptLocked l m f s) l = (laneAt s l).unadopted.lose ∧
      (∀ k, k ≠ l → laneAt (adoptLocked l m f s) k = laneAt s k) ∧
      (adoptLocked l m f s).timing.number = s.timing.number ∧
      (adoptLocked l m f s).timing.pacer = some f.pacer ∧
      LaneLeaves l (laneAt s l).unadopted.lose slotGone { s with
        timing := { s.timing with pacer := some f.pacer }
        port := adoptReports s f.pacer s.timing.number [.laneRenumbered l old f.number none] }
        (adoptLocked l m f s) := by
  rw [adoptLocked_fails hnum hpos hout]
  refine ⟨?_, fun k hk => ?_, loseLane_number _ _, loseLane_pacer _ _, laneLeaves_loseLane rfl⟩
  · rw [laneAt_loseLane, if_pos rfl, laneAt, vget_vset_same]
  · rw [laneAt_loseLane, if_neg hk, laneAt, vget_vset_of_ne _ hk]
    rfl

end Adoption

/-- Settles O16: the flywheel is renumbered, or the lane keeps its lag, or the lag is measured, in range or not. -/
theorem lockedLaneAdoptsANewNumbering : Obligations.LockedLaneAdoptsANewNumbering := by
  intro l w f offset word s hreset hlocked hv m s1 x hnum hadopt
  refine ⟨adoptLocked l m f s1, ?_, fun old e lag residue hold hpos hlag hres => ?_⟩
  · rw [exec_markVerdict_locked hreset hlocked, hv]
    exact congrArg (fun u => Host.Outcome.next (settle u)) (lockedMark_adopted m offset hnum hadopt)
  intro there renumbers keeps
  refine ⟨carries_iff hlag hres, ?_⟩
  by_cases hren : renumbers
  case pos =>
    obtain ⟨hspec, htiming, hlanes⟩ := adoptLocked_spec hold hpos
      (adoptNumbering_renumbers (m := m) hlag hres hren.1 hren.2) ⟨rfl, rfl, rfl⟩
      (renumber_places _ s1 l)
    generalize adoptLocked l m f s1 = t at *
    refine ⟨by rw [htiming], fun lag' residue' h => ?_,
      fun _ => ⟨htiming, fun k hk => (hlanes k hk).trans (laneAt_renumber _ s1 k)⟩,
      fun h => absurd h.1 hren.1, fun h => absurd hren h, fun h => absurd hren h, fun h => absurd hren h⟩
    obtain ⟨-, rfl, rfl⟩ := h.resolve_right fun h => h.1 hren
    exact hspec
  by_cases hkeep : keeps
  case pos =>
    obtain ⟨hspec, htiming, hlanes⟩ := adoptLocked_spec hold hpos
      (adoptNumbering_keeps (m := m) hlag hres hkeep.1 hkeep.2) ⟨rfl, rfl, rfl⟩ rfl
    generalize adoptLocked l m f s1 = t at *
    refine ⟨by rw [htiming], fun lag' residue' h => ?_, fun h => absurd h hren, fun _ => htiming, fun _ => hlanes,
      fun _ h => absurd hkeep h, fun _ h => absurd hkeep h⟩
    obtain ⟨-, rfl, rfl⟩ := h.resolve_right fun h => h.2.1 hkeep
    exact hspec
  have hmeasured {p q : Prop} (h : (renumbers ∨ keeps) ∧ p ∨ ¬ renumbers ∧ ¬ keeps ∧ q) : q :=
    (h.resolve_left fun h => h.1.elim hren hkeep).2.2
  have hout := adoptNumbering_measures (m := m) hlag hres hren hkeep
  cases hm : measure m f.number with
  | some y =>
    obtain ⟨hspec, htiming, hlanes⟩ := adoptLocked_spec hold hpos (hm ▸ hout) ⟨rfl, rfl, rfl⟩ rfl
    generalize adoptLocked l m f s1 = t at *
    refine ⟨by rw [htiming], fun lag' residue' h => ?_, fun h => absurd h hren, fun h => absurd h hkeep,
      fun _ => hlanes, fun _ _ _ _ => htiming, fun _ _ h => absurd h nofun⟩
    obtain rfl : y = (lag', residue') := Option.some.inj (hmeasured h)
    exact hspec
  | none =>
    obtain ⟨hl, hlanes, hnumber, hpacer, hleaves⟩ := adoptLocked_lost hold hpos (hm ▸ hout)
    generalize adoptLocked l m f s1 = t at *
    refine ⟨hpacer, fun lag' residue' h => absurd (hmeasured h) nofun, fun h => absurd h hren,
      fun h => absurd h hkeep, fun _ => hlanes, fun _ _ _ h => absurd h nofun, fun _ _ _ => ?_⟩
    rw [hl]
    exact ⟨rfl, rfl, rfl, rfl, hnumber, rfl, hleaves⟩

end Sys2Proof.Machine
end


section
/-! SUPPORT. A mark found in open search (R18, R27): how a coasting lane resumes LOCKED or adopts a numbering, and
what the flywheel takes of it (R35, R41). -/

namespace Sys2Proof.Machine

/-! ### A mark found in open search (R18, R27) -/

theorem exec_openSearchMarkFound (l : LaneNo) (c : CycleNo) (bit : Nat) (word : BitVec 64) (s : State) :
    exec (.openSearchMarkFound l c bit word) s = execOpenSearchMarkFound l c bit word s := rfl

/-- A match that is no valid mark, or on a lane that does not search openly (R18, log entry 1). -/
theorem exec_openSearchMarkFound_ignored {l : LaneNo} {word : BitVec 64} {s : State} (c : CycleNo) (bit : Nat)
    (hreset : s.pins.resetAsserted = false)
    (h : readMark l word = none ∨ (laneAt s l).state = .disabled ∨ (laneAt s l).state = .confirm ∨
      (laneAt s l).state = .locked) :
    exec (.openSearchMarkFound l c bit word) s = .next (settle s) := by
  rw [exec_openSearchMarkFound, execOpenSearchMarkFound, run_of_released hreset]
  rcases h with h | h | h | h
  · rw [h]
    cases (laneAt s l).state <;> rfl
  all_goals rw [h]

theorem exec_openSearchMarkFound_hunt {l : LaneNo} {word : BitVec 64} {f : MarkFields} {s : State} (c : CycleNo)
    (bit : Nat) (hreset : s.pins.resetAsserted = false) (hf : readMark l word = some f)
    (h : (laneAt s l).state = .hunt) : exec (.openSearchMarkFound l c bit word) s =
      .next (settle ((timingMark l (c.toNat * 5120 + bit) word f s).modLane l
        (Lane.confirmFrom (c.toNat * 5120 + bit) f.number))) := by
  rw [exec_openSearchMarkFound, execOpenSearchMarkFound, run_of_released hreset, h, hf]
  rfl

theorem exec_openSearchMarkFound_coast {l : LaneNo} {word : BitVec 64} {f : MarkFields} {s : State} (c : CycleNo)
    (bit : Nat) (hreset : s.pins.resetAsserted = false) (hf : readMark l word = some f)
    (h : (laneAt s l).state = .coast) : exec (.openSearchMarkFound l c bit word) s =
      .next (settle (coastMark l (c.toNat * 5120 + bit) f (timingMark l (c.toNat * 5120 + bit) word f s))) := by
  rw [exec_openSearchMarkFound, execOpenSearchMarkFound, run_of_released hreset, h, hf]
  rfl

theorem nearNumber_iff (reference num : CycleNo) :
    nearNumber reference num = true ↔ num = reference ∨ num = reference + 1 ∨ num + 1 = reference := by
  simp [nearNumber, or_assoc]

/-! ### A coasting lane resumes LOCKED (R27, R41) -/

/-- Lane l has resumed LOCKED from s, with these lanes, timing record and reports, and is handed on (R23, R29). -/
def relocked (l : LaneNo) (renumbered : Bool) (num : CycleNo) (lag : Int) (residue : Nat) (lanes : Vector Lane 4)
    (timing : Timing) (port : Port) (s : State) : State :=
  handLock l false renumbered { s with
    lanes := vmod lanes l (Lane.lockOn num lag residue), timing := timing, port := port }

/-- The flywheel after a coasting lane has re-phased it (R41): the place it stands at, and what was renumbered. -/
def Timing.rephasedOn (l : LaneNo) (e : Nat) (n : CycleNo) (t : Timing) : Timing :=
  { standAt (place (place e 64) (n.toNat * 5120 : Nat)) (t.renumbered n) with rephase := false, trim := some l }

section Coast

variable {l : LaneNo} {m : Nat} {num : CycleNo} {s : State} {lag : Int} {residue : Nat} {e : Nat}

theorem rephaseOn_eq (hlag : (laneAt s l).lag = some lag) (hres : (laneAt s l).residue = some residue) :
    rephaseOn l e m num s = { s with
      lanes := (renumber (num - cycleHeld e lag residue) (shiftConfirm (placeDiff m e) s)).lanes
      timing := s.timing.rephasedOn l e (num - cycleHeld e lag residue) } := by
  rw [rephaseOn, cycleOfPlace_eq hlag hres]
  rfl

/-- LANE_STATE of a coasting lane that resumes, after what the flywheel took (R29). -/
theorem relock_eq (l : LaneNo) (num : CycleNo) (lag : Int) (residue : Nat) (s : State) :
    relock l num lag residue s = { s with
      lanes := vmod s.lanes l (Lane.lockOn num lag residue)
      port := (s.port.post (.laneState l .coast .locked (some lag))).1 } := by
  have hl : laneAt (s.modLane l (Lane.lockOn num lag residue)) l = Lane.lockOn num lag residue (laneAt s l) :=
    vget_vmod_same _ _ _
  rw [relock, reportLane_eq hl]
  rfl

theorem resumeLane_moves (hlag : (laneAt s l).lag = some lag) (hres : (laneAt s l).residue = some residue)
    (hre : s.timing.rephase = true) (hrole : s.timing.role = .following)
    (he : nearestPlace (laneAt s l) m = e) :
    resumeLane l m num s = relocked l false num lag residue
      (renumber (num - cycleHeld e lag residue) (shiftConfirm (placeDiff m e) s)).lanes
      (s.timing.rephasedOn l e (num - cycleHeld e lag residue))
      (s.port.post (.laneState l .coast .locked (some lag))).1 s := by
  rw [resumeLane, if_pos ⟨hre, hrole⟩, he, hlag, hres, rephaseOn_eq hlag hres, relock_eq]
  rfl

theorem resumeLane_measures (hmove : ¬ (s.timing.rephase = true ∧ s.timing.role = .following))
    (hm : measure m num = some (lag, residue)) :
    resumeLane l m num s = relocked l false num lag residue s.lanes s.timing
      (s.port.post (.laneState l .coast .locked (some lag))).1 s := by
  rw [resumeLane, if_neg hmove, hm]
  dsimp only
  rw [relock_eq]
  rfl

/-- A resume that measures out of range (R26). -/
theorem resumeLane_fails (hmove : ¬ (s.timing.rephase = true ∧ s.timing.role = .following))
    (hm : measure m num = none) : resumeLane l m num s =
      loseLane l { s with lanes := vset s.lanes l { laneAt s l with
        lagOutOfRange := bump (laneAt s l).lagOutOfRange } } := by
  rw [resumeLane, if_neg hmove, hm]
  rfl

/-! ### A coasting lane adopts a numbering (R27, R35, R41) -/

/-- What the flywheel takes of a numbering that a coasting lane adopts: a re-phase, or what it takes of a LOCKED lane's
(log entry 85). -/
def coastNumbering (l : LaneNo) (m : Nat) (num : CycleNo) (s : State) : State × Option (Int × Nat) :=
  let x := laneAt s l
  let e := nearestPlace x m
  if s.timing.rephase ∧ s.timing.role = .following then
    (rephaseOn l e m num s, some (x.lag.getD 0, x.residue.getD 0))
  else adoptNumbering l e m num s

theorem coastNumbering_moves (hlag : (laneAt s l).lag = some lag) (hres : (laneAt s l).residue = some residue)
    (he : nearestPlace (laneAt s l) m = e) (hmove : s.timing.rephase = true ∧ s.timing.role = .following) :
    coastNumbering l m num s = ({ s with
      lanes := (renumber (num - cycleHeld e lag residue) (shiftConfirm (placeDiff m e) s)).lanes
      timing := s.timing.rephasedOn l e (num - cycleHeld e lag residue) }, some (lag, residue)) := by
  rw [coastNumbering, if_pos hmove, he, hlag, hres, rephaseOn_eq hlag hres]
  rfl

theorem coastNumbering_adopts (he : nearestPlace (laneAt s l) m = e)
    (hmove : ¬ (s.timing.rephase = true ∧ s.timing.role = .following)) :
    coastNumbering l m num s = adoptNumbering l e m num s := by
  rw [coastNumbering, if_neg hmove, he]

end Coast

section AdoptCoast

variable {l : LaneNo} {m : Nat} {f : MarkFields} {s : State} {lag : Int} {residue : Nat}

theorem adoptCoast_adopts {lanes : Vector Lane 4} {t : Timing}
    (hout : coastNumbering l m f.number s = ({ s with lanes := lanes, timing := t }, some (lag, residue)))
    (h : SameRole s.timing t) :
    adoptCoast l m f s = relocked l true f.number lag residue lanes { t with pacer := some f.pacer }
      (adoptReports s f.pacer t.number [.laneState l .coast .locked (some lag),
        .laneRenumbered l (referenceNumber (laneAt s l) m) f.number (some lag)]) s := by
  unfold coastNumbering at hout
  simp only [adoptCoast, hout, adoptPacer_eq f.pacer lanes h, relock_eq]
  rfl

/-- The record of a coasting lane whose adoption measures out of range, before it loses its place (R26). -/
def Lane.coastUnadopted (x : Lane) : Lane :=
  { x with lagOutOfRange := bump x.lagOutOfRange, miss := 0, cand := none }

theorem adoptCoast_fails
    (hout : coastNumbering l m f.number s = ({ s with lanes := s.lanes, timing := s.timing }, none)) :
    adoptCoast l m f s = loseLane l { s with
      lanes := vset s.lanes l (laneAt s l).coastUnadopted
      timing := { s.timing with pacer := some f.pacer }
      port := adoptReports s f.pacer s.timing.number
        [.laneRenumbered l (referenceNumber (laneAt s l) m) f.number none] } := by
  unfold coastNumbering at hout
  simp only [adoptCoast, hout, adoptPacer_eq f.pacer s.lanes ⟨rfl, rfl, rfl⟩, adoptFailed]
  rfl

end AdoptCoast

/-! ### What a lock from COAST comes to -/

/-- What the statement says of a coasting lane that has resumed LOCKED from the record x, at a lag and residue. -/
def LocksAt (l : LaneNo) (num : CycleNo) (x : Lane) (lag : Int) (residue : Nat) (t : State) : Prop :=
  (laneAt t l).state = .locked ∧ (laneAt t l).expNum = some (num + 1) ∧ (laneAt t l).lockAge = 0 ∧
    (laneAt t l).expPos = some (place (cycleStart (num + 1)) (lag * 320 + residue)) ∧
    (laneAt t l).lag = some lag ∧ (laneAt t l).residue = some residue ∧ (laneAt t l).coast = 0 ∧
    (laneAt t l).r8Failed = some num ∧ laneAt t l = { x with
      state := .locked, expNum := some (num + 1), lockAge := 0
      expPos := some (place (cycleStart (num + 1)) (lag * 320 + residue)), lag := some lag
      residue := some residue, miss := 0, cand := none, coast := 0, r8Failed := some num, former := none
      emitted := (laneAt t l).emitted }

section Relocked

variable {l : LaneNo} {renumbered : Bool} {num : CycleNo} {lag : Int} {residue : Nat} {lanes : Vector Lane 4}
  {timing : Timing} {port : Port} {s : State}

theorem laneAt_relocked (k : LaneNo) : laneAt (relocked l renumbered num lag residue lanes timing port s) k =
    if k = l then Lane.lockOn num lag residue (vget lanes l) else vget lanes k := by
  rw [relocked, laneAt, handLock_lanes, vget_vmod]

theorem relocked_timing : (relocked l renumbered num lag residue lanes timing port s).timing = timing := by
  rw [relocked, handLock_timing]

theorem lockHanded_relocked : LockHanded l false renumbered s port
    (relocked l renumbered num lag residue lanes timing port s) := lockHanded_handLock _ _ _ _ _ _ _

/-- A lock whose move of the flywheel has changed no more of the lane than the places on its record. -/
theorem relocked_spec
    (h : vget lanes l = { laneAt s l with expPos := (vget lanes l).expPos, emitted := (vget lanes l).emitted }) :
    LocksAt l num (laneAt s l) lag residue (relocked l renumbered num lag residue lanes timing port s) ∧
      (relocked l renumbered num lag residue lanes timing port s).timing = timing ∧
      (∀ k, k ≠ l → laneAt (relocked l renumbered num lag residue lanes timing port s) k = vget lanes k) ∧
      LockHanded l false renumbered s port (relocked l renumbered num lag residue lanes timing port s) := by
  refine ⟨?_, relocked_timing, fun k hk => by rw [laneAt_relocked, if_neg hk], lockHanded_relocked⟩
  rw [LocksAt, laneAt_relocked, if_pos rfl, h]
  exact ⟨rfl, rfl, rfl, rfl, rfl, rfl, rfl, rfl, rfl⟩

/-- With no trunk received, a lane's lock posts no report after those given (R118). -/
theorem LockHanded.port_eq {fromConfirm : Bool} {t : State} (h : LockHanded l fromConfirm renumbered s port t)
    (hnone : ∀ r, (rxAt s r).state ≠ .accepted) : t.port = port := by
  obtain ⟨u, ht, hu, -⟩ := h
  have hrx : u.rx = s.rx := by rw [hu]
  have hu' : ∀ r, (rxAt u r).state ≠ .accepted := fun r => by
    rw [rxAt, hrx]
    exact hnone r
  rw [ht, handed_of_none_accepted l fromConfirm renumbered hu', hu]

end Relocked

/-- The timing record after a re-phase, with the pacer of record then (R41): the flywheel stands at the place given. -/
theorem rephasedOn_spec {l : LaneNo} {e : Nat} {n : CycleNo} {pacer : Option StationId} {t t' : Timing}
    (h : t' = { t.rephasedOn l e n with pacer := pacer }) : t'.rephase = false ∧ t'.trim = some l ∧ t'.slip = 0 ∧
      t'.number.toNat * 5120 + t'.position = place (place e 64) (n.toNat * 5120 : Nat) ∧
      t' = { t with
        number := t'.number, position := t'.position, slip := 0, rephase := false, trim := some l
        live := t.live.map (fun c => c + n), pacer := pacer } := by
  subst h
  refine ⟨rfl, rfl, rfl, ?_, rfl⟩
  have hlt := place_lt (place e 64) (n.toNat * 5120 : Nat)
  simp only [Timing.rephasedOn, standAt, cycleAt, Config.cycleBits, BitVec.toNat_ofNat]
  omega

end Sys2Proof.Machine
end


section
/-! SUPPORT. What a coasting lane's resume and adoption come to, outcome by outcome (R26, R27, R41). -/

namespace Sys2Proof.Machine

/-! ### A resume (R27, R41) -/

section Resume

variable {l : LaneNo} {m : Nat} {s : State} {lag : Int} {residue : Nat} {e : Nat}

/-- A move and a renumbering change no more of a lane than the places on its record (R35, R41). -/
theorem moved_places (d : Int) (n : CycleNo) (s : State) (k : LaneNo) :
    laneAt (renumber n (shiftConfirm d s)) k = { laneAt s k with
      expPos := (laneAt (renumber n (shiftConfirm d s)) k).expPos
      emitted := (laneAt (renumber n (shiftConfirm d s)) k).emitted } := by
  rw [laneAt_moved]
  rfl

/-- The lane has resumed LOCKED at a lag, its LANE_STATE and the lag handed. -/
def Resumed (l : LaneNo) (num : CycleNo) (lag : Int) (residue : Nat) (s t : State) : Prop :=
  LocksAt l num (laneAt s l) lag residue t ∧
    LockHanded l false false s (s.port.post (.laneState l .coast .locked (some lag))).1 t

theorem resumeLane_moved {num : CycleNo} (hlag : (laneAt s l).lag = some lag)
    (hres : (laneAt s l).residue = some residue) (he : nearestPlace (laneAt s l) m = e)
    (hmove : s.timing.rephase = true ∧ s.timing.role = .following) :
    Resumed l num lag residue s (resumeLane l m num s) ∧
      (resumeLane l m num s).timing = s.timing.rephasedOn l e (num - cycleHeld e lag residue) ∧
      ∀ k, k ≠ l → laneAt (resumeLane l m num s) k =
        carried (placeDiff m e) (num - cycleHeld e lag residue) (laneAt s k) := by
  rw [resumeLane_moves hlag hres hmove.1 hmove.2 he]
  obtain ⟨hlocks, htiming, hlanes, hhanded⟩ := relocked_spec (renumbered := false) (num := num) (lag := lag)
    (residue := residue) (timing := s.timing.rephasedOn l e (num - cycleHeld e lag residue))
    (port := (s.port.post (.laneState l .coast .locked (some lag))).1)
    (moved_places (placeDiff m e) (num - cycleHeld e lag residue) s l)
  exact ⟨⟨hlocks, hhanded⟩, htiming, fun k hk => (hlanes k hk).trans (laneAt_moved _ _ s k)⟩

theorem resumeLane_measured {num : CycleNo} (hmove : ¬ (s.timing.rephase = true ∧ s.timing.role = .following))
    (hm : measure m num = some (lag, residue)) :
    Resumed l num lag residue s (resumeLane l m num s) ∧ (resumeLane l m num s).timing = s.timing ∧
      ∀ k, k ≠ l → laneAt (resumeLane l m num s) k = laneAt s k := by
  rw [resumeLane_measures hmove hm]
  obtain ⟨hlocks, htiming, hlanes, hhanded⟩ := relocked_spec (l := l) (s := s) (renumbered := false) (num := num)
    (lag := lag) (residue := residue) (lanes := s.lanes) (timing := s.timing)
    (port := (s.port.post (.laneState l .coast .locked (some lag))).1) rfl
  exact ⟨⟨hlocks, hhanded⟩, htiming, hlanes⟩

theorem resumeLane_lost {num : CycleNo} (hmove : ¬ (s.timing.rephase = true ∧ s.timing.role = .following))
    (hm : measure m num = none) :
    let gone := { laneAt s l with lagOutOfRange := bump (laneAt s l).lagOutOfRange }.lose
    laneAt (resumeLane l m num s) l = gone ∧ (resumeLane l m num s).timing.number = s.timing.number ∧
      LaneLeaves l gone slotGone s (resumeLane l m num s) := by
  intro gone
  rw [resumeLane_fails hmove hm]
  refine ⟨?_, loseLane_number _ _, laneLeaves_loseLane rfl⟩
  rw [laneAt_loseLane, if_pos rfl, laneAt, vget_vset_same]

end Resume

/-! ### An adoption from COAST (R27, R30, R35) -/

section FromCoast

variable {l : LaneNo} {m : Nat} {f : MarkFields} {s : State} {lag : Int} {residue : Nat} {reference : CycleNo}

/-- The lane has adopted a numbering and is LOCKED at a lag, its reports posted and the lag handed. -/
def AdoptedFromCoast (l : LaneNo) (reference : CycleNo) (f : MarkFields) (lag : Int) (residue : Nat) (s t : State) :
    Prop :=
  LocksAt l f.number (laneAt s l) lag residue t ∧
    LockHanded l false true s (adoptReports s f.pacer t.timing.number [.laneState l .coast .locked (some lag),
      .laneRenumbered l reference f.number (some lag)]) t

theorem adoptCoast_spec {lanes : Vector Lane 4} {t : Timing} (href : referenceNumber (laneAt s l) m = reference)
    (hout : coastNumbering l m f.number s = ({ s with lanes := lanes, timing := t }, some (lag, residue)))
    (ht : SameRole s.timing t)
    (h : vget lanes l = { laneAt s l with expPos := (vget lanes l).expPos, emitted := (vget lanes l).emitted }) :
    AdoptedFromCoast l reference f lag residue s (adoptCoast l m f s) ∧
      (adoptCoast l m f s).timing = { t with pacer := some f.pacer } ∧
      ∀ k, k ≠ l → laneAt (adoptCoast l m f s) k = vget lanes k := by
  rw [adoptCoast_adopts hout ht, href]
  obtain ⟨hlocks, htiming, hlanes, hhanded⟩ := relocked_spec (renumbered := true) (num := f.number) (lag := lag)
    (residue := residue) (timing := { t with pacer := some f.pacer })
    (port := adoptReports s f.pacer t.number [.laneState l .coast .locked (some lag),
      .laneRenumbered l reference f.number (some lag)]) h
  refine ⟨⟨hlocks, ?_⟩, htiming, hlanes⟩
  rw [htiming]
  exact hhanded

theorem adoptCoast_lost (href : referenceNumber (laneAt s l) m = reference)
    (hout : coastNumbering l m f.number s = ({ s with lanes := s.lanes, timing := s.timing }, none)) :
    laneAt (adoptCoast l m f s) l = (laneAt s l).coastUnadopted.lose ∧
      (adoptCoast l m f s).timing.number = s.timing.number ∧ (adoptCoast l m f s).timing.pacer = some f.pacer ∧
      LaneLeaves l (laneAt s l).coastUnadopted.lose slotGone { s with
        timing := { s.timing with pacer := some f.pacer }
        port := adoptReports s f.pacer s.timing.number [.laneRenumbered l reference f.number none] }
        (adoptCoast l m f s) := by
  rw [adoptCoast_fails hout, href]
  refine ⟨?_, loseLane_number _ _, loseLane_pacer _ _, laneLeaves_loseLane rfl⟩
  rw [laneAt_loseLane, if_pos rfl, laneAt, vget_vset_same]

theorem Timing.renumbered_zero (t : Timing) : t.renumbered 0 = t := by
  simp [Timing.renumbered]

/-- Where a coasting lane keeps its lag with no re-phase of the flywheel: the flywheel is renumbered, by nothing where
it carries the numbering (R35, R41, log entry 15). -/
theorem coastNumbering_keeps {e : Nat} {num : CycleNo} (hlag : (laneAt s l).lag = some lag)
    (hres : (laneAt s l).residue = some residue) (he : nearestPlace (laneAt s l) m = e)
    (hmove : ¬ (s.timing.rephase = true ∧ s.timing.role = .following))
    (hkeep : cycleHeld e lag residue ≠ num ∧ s.timing.role ≠ .electing ∨
      cycleHeld e lag residue = num ∧ s.timing.rephase = true) :
    ∃ lanes, coastNumbering l m num s = ({ s with
        lanes := lanes
        timing := (s.timing.renumbered (num - cycleHeld e lag residue)).rephased l }, some (lag, residue)) ∧
      (vget lanes l = { laneAt s l with expPos := (vget lanes l).expPos, emitted := (vget lanes l).emitted }) ∧
      (cycleHeld e lag residue ≠ num → ∀ k, vget lanes k = carried 0 (num - cycleHeld e lag residue) (laneAt s k)) ∧
      (cycleHeld e lag residue = num → ∀ k, vget lanes k = laneAt s k) := by
  rcases hkeep with ⟨hthere, hrole⟩ | ⟨hthere, hre⟩
  · refine ⟨(renumber (num - cycleHeld e lag residue) s).lanes, ?_, renumber_places _ s l,
      fun _ k => (laneAt_renumber _ s k).trans (carried_zero _ _).symm, fun h => absurd h hthere⟩
    rw [coastNumbering_adopts he hmove, adoptNumbering_renumbers hlag hres hthere hrole]
  · refine ⟨s.lanes, ?_, rfl, fun h => absurd hthere h, fun _ k => rfl⟩
    have hzero : num - cycleHeld e lag residue = 0 := hthere ▸ BitVec.sub_self _
    rw [coastNumbering_adopts he hmove, adoptNumbering_keeps hlag hres hthere hre, hzero, Timing.renumbered_zero]

end FromCoast

end Sys2Proof.Machine
end


section
/-! SUPPORT. The statement of open search: the handing after a lock, and a coasting lane that starts CONFIRM. -/

namespace Sys2Proof.Machine

/-! ### The handing after a lock (R23, R118) -/

theorem LocksAt.lag_eq {l : LaneNo} {num : CycleNo} {x : Lane} {lag lag' : Int} {residue : Nat} {t : State}
    (h : LocksAt l num x lag residue t) (h' : (laneAt t l).lag = some lag') : lag = lag' := by
  obtain ⟨-, -, -, -, hlag, -⟩ := h
  exact Option.some.inj (hlag.symm.trans h')

/-- The handing of a lane that resumes, at whatever lag it holds (R23, R118). -/
theorem Resumed.handed {l : LaneNo} {num : CycleNo} {lag lag' : Int} {residue : Nat} {s t : State}
    (h : Resumed l num lag residue s t) (h' : (laneAt t l).lag = some lag') :
    LockHanded l false false s (s.port.post (.laneState l .coast .locked (some lag'))).1 t := by
  obtain rfl := h.1.lag_eq h'
  exact h.2

theorem AdoptedFromCoast.handed {l : LaneNo} {reference : CycleNo} {f : MarkFields} {lag lag' : Int}
    {residue : Nat} {s t : State} (h : AdoptedFromCoast l reference f lag residue s t)
    (h' : (laneAt t l).lag = some lag') :
    LockHanded l false true s (adoptReports s f.pacer t.timing.number [.laneState l .coast .locked (some lag'),
      .laneRenumbered l reference f.number (some lag')]) t := by
  obtain rfl := h.1.lag_eq h'
  exact h.2

/-! ### A valid mark found by a coasting lane (R27) -/

section CoastMark

variable {l : LaneNo} {m : Nat} {f : MarkFields} {s : State}

theorem coastMark_near (h : nearNumber (referenceNumber (laneAt s l) m) f.number = true) :
    coastMark l m f s = resumeLane l m f.number s := if_pos h

theorem coastMark_adopts (h : nearNumber (referenceNumber (laneAt s l) m) f.number = false) (hfresh : f.fresh = true) :
    coastMark l m f s = adoptCoast l m f s := by
  rw [coastMark, if_neg (by simp [h]), if_pos hfresh]

/-- A coasting lane that starts CONFIRM, its LANE_STATE posted (R27, R29). -/
def confirming (l : LaneNo) (m : Nat) (num : CycleNo) (s : State) : State :=
  { s with
    lanes := vset s.lanes l ((laneAt s l).confirmFrom m num)
    port := (s.port.post (.laneState l .coast .confirm none)).1 }

/-- A coasting lane starts CONFIRM from a mark of another numbering, and its slot records end (R27, R63). -/
theorem coastMark_confirms (h : nearNumber (referenceNumber (laneAt s l) m) f.number = false)
    (hfresh : f.fresh = false) :
    laneAt (coastMark l m f s) l = (laneAt s l).confirmFrom m f.number ∧
      ((∃ q a, inService s = some q ∧ a ∈ q.running ++ q.won ∧ laneOf a = l) →
        coastMark l m f s = look (eachSlot l slotGone (confirming l m f.number s))) ∧
      (¬ (∃ q a, inService s = some q ∧ a ∈ q.running ++ q.won ∧ laneOf a = l) →
        coastMark l m f s = eachSlot l slotGone (confirming l m f.number s)) := by
  have hl : laneAt (s.modLane l (Lane.confirmFrom m f.number)) l = (laneAt s l).confirmFrom m f.number :=
    vget_vmod_same _ _ _
  have hmark : coastMark l m f s = slotsLost l (confirming l m f.number s) := by
    rw [coastMark, if_neg (by simp [h]), if_neg (by simp [hfresh]), coastToConfirm, reportLane_eq hl]
    rfl
  rw [hmark, slotsLost_eq]
  refine ⟨?_, lookIf_iff (serviceOn_iff (confirming l m f.number s) l) _⟩
  rw [← slotsLost_eq, laneAt_slotsLost, laneAt, confirming, vget_vset_same]

end CoastMark

/-- Settles O17: of a coasting lane, a mark near the reference (a move, a lag measured, a lag out of range), one of
another numbering without FRESH, and one with FRESH (a move, a lag kept, a lag measured, a lag out of range). -/
theorem openSearchMarkFound : Obligations.OpenSearchMarkFound := by
  intro l c bit word s hreset
  refine ⟨exec_openSearchMarkFound_ignored c bit hreset, fun f hf => ?_⟩
  intro m s1 x
  refine ⟨exec_openSearchMarkFound_hunt c bit hreset hf, fun hcoast n p lag residue hn hp hlag hres => ?_⟩
  intro ahead reference near e there moves keeps n' renumbered service locks lost gone
  have hreference : referenceNumber x m = reference := by
    rw [referenceNumber, hn, hp]
    rfl
  have he : nearestPlace x m = e := by
    rw [nearestPlace, hp]
    rfl
  have hnearNumber : nearNumber (referenceNumber x m) f.number = true ↔ near := by
    rw [hreference]
    exact nearNumber_iff reference f.number
  refine ⟨coastMark l m f s1, exec_openSearchMarkFound_coast c bit hreset hf hcoast, ?_⟩
  by_cases hnear : near
  · rw [coastMark_near (hnearNumber.mpr hnear)]
    by_cases hmove : moves
    · obtain ⟨hresumed, htiming, hlanes⟩ := resumeLane_moved (num := f.number) hlag hres he hmove
      generalize resumeLane l m f.number s1 = t at *
      have hspec := rephasedOn_spec (pacer := if near then s1.timing.pacer else some f.pacer)
        (htiming.trans (by rw [if_pos hnear]; rfl))
      obtain ⟨hre, htrim, hslip, hplace, hrecord⟩ := hspec
      exact ⟨fun _ _ => ⟨hresumed.1, hre, htrim, hslip, hplace, hrecord, hlanes⟩, fun _ h => absurd hmove h,
        fun _ h => absurd hmove h, fun h => absurd hnear h, fun h => absurd hnear h, fun h => absurd hnear h,
        fun h => absurd hnear h, fun lag' _ h => ⟨fun _ => hresumed.handed h, fun h => absurd hnear h⟩,
        fun hnone lag' _ h => ⟨fun _ => LockHanded.port_eq (hresumed.handed h) hnone, fun h => absurd hnear h⟩,
        fun h => absurd hnear h⟩
    cases hm : measure m f.number with
    | some y =>
      obtain ⟨hresumed, htiming, hlanes⟩ := resumeLane_measured (l := l) hmove hm
      generalize resumeLane l m f.number s1 = t at *
      refine ⟨fun _ h => absurd h hmove, fun _ _ lag' residue' h => ?_, fun _ _ h => absurd h nofun,
        fun h => absurd hnear h, fun h => absurd hnear h, fun h => absurd hnear h, fun h => absurd hnear h,
        fun lag' _ h => ⟨fun _ => hresumed.handed h, fun h => absurd hnear h⟩,
        fun hnone lag' _ h => ⟨fun _ => LockHanded.port_eq (hresumed.handed h) hnone, fun h => absurd hnear h⟩,
        fun h => absurd hnear h⟩
      obtain rfl : y = (lag', residue') := Option.some.inj h
      exact ⟨hresumed.1, htiming, hlanes⟩
    | none =>
      obtain ⟨hl, hnumber, hleaves⟩ := resumeLane_lost (l := l) hmove hm
      generalize resumeLane l m f.number s1 = t at *
      have hhunt : (laneAt t l).state = .hunt := congrArg Lane.state hl
      have hnot : (laneAt t l).state ≠ .locked := by
        rw [hhunt]
        nofun
      exact ⟨fun _ h => absurd h hmove, fun _ _ _ _ h => absurd h nofun,
        fun _ _ _ => ⟨⟨hhunt, congrArg Lane.lag hl, congrArg Lane.lagOutOfRange hl⟩, hnumber, hl, hleaves⟩,
        fun h => absurd hnear h, fun h => absurd hnear h, fun h => absurd hnear h, fun h => absurd hnear h,
        fun _ h => absurd h hnot, fun _ _ h => absurd h hnot, fun h => absurd hnear h⟩
  have hfar : nearNumber (referenceNumber x m) f.number = false := Bool.eq_false_iff.mpr (mt hnearNumber.mp hnear)
  cases hfresh : f.fresh with
  | false =>
    obtain ⟨hl, hlook⟩ := coastMark_confirms hfar hfresh
    generalize coastMark l m f s1 = t at *
    have hconfirm : (laneAt t l).state = .confirm := congrArg Lane.state hl
    have hnot : (laneAt t l).state ≠ .locked := by
      rw [hconfirm]
      nofun
    exact ⟨fun h => h.elim (fun h => absurd h hnear) nofun, fun h => absurd h hnear, fun h => absurd h hnear,
      fun _ => nofun, fun _ => nofun, fun _ => nofun, fun _ => nofun, fun _ h => absurd h hnot,
      fun _ _ h => absurd h hnot, fun _ _ => ⟨hconfirm, congrArg Lane.confirm hl, congrArg Lane.lag hl,
        congrArg Lane.expNum hl, congrArg Lane.expPos hl, hlook⟩⟩
  | true =>
  rw [coastMark_adopts hfar hfresh]
  by_cases hmove : moves
  · obtain ⟨hadopted, htiming, hlanes⟩ := adoptCoast_spec (f := f) hreference
      (coastNumbering_moves hlag hres he hmove) ⟨rfl, rfl, rfl⟩ (moved_places _ _ s1 l)
    generalize adoptCoast l m f s1 = t at *
    have hspec := rephasedOn_spec (pacer := if near then s1.timing.pacer else some f.pacer)
      (htiming.trans (by rw [if_neg hnear]))
    obtain ⟨hre, htrim, hslip, hplace, hrecord⟩ := hspec
    exact ⟨fun _ _ => ⟨hadopted.1, hre, htrim, hslip, hplace, hrecord,
        fun k hk => (hlanes k hk).trans (laneAt_moved _ _ s1 k)⟩,
      fun h => absurd h hnear, fun h => absurd h hnear, fun _ _ => by rw [htiming], fun _ _ h => absurd hmove h,
      fun _ _ h => absurd hmove h, fun _ _ h => absurd hmove h,
      fun lag' _ h => ⟨fun h => absurd h hnear, fun _ => hadopted.handed h⟩,
      fun hnone lag' _ h => ⟨fun h => absurd h hnear, fun _ => LockHanded.port_eq (hadopted.handed h) hnone⟩,
      fun _ h => absurd h nofun⟩
  by_cases hkeep : keeps
  · obtain ⟨lanes, hout, hplaces, hcarried, hsame⟩ := coastNumbering_keeps hlag hres he hmove hkeep
    obtain ⟨hadopted, htiming, hlanes⟩ := adoptCoast_spec (f := f) hreference hout ⟨rfl, rfl, rfl⟩ hplaces
    generalize adoptCoast l m f s1 = t at *
    exact ⟨fun _ h => absurd h hmove, fun h => absurd h hnear, fun h => absurd h hnear, fun _ _ => by rw [htiming],
      fun _ _ _ _ => ⟨hadopted.1, by rw [htiming]; rfl, by rw [htiming]; rfl, htiming,
        fun h k hk => (hlanes k hk).trans (hcarried h k), fun h k hk => (hlanes k hk).trans (hsame h k)⟩,
      fun _ _ _ h => absurd hkeep h, fun _ _ _ h => absurd hkeep h,
      fun lag' _ h => ⟨fun h => absurd h hnear, fun _ => hadopted.handed h⟩,
      fun hnone lag' _ h => ⟨fun h => absurd h hnear, fun _ => LockHanded.port_eq (hadopted.handed h) hnone⟩,
      fun _ h => absurd h nofun⟩
  have hout : coastNumbering l m f.number s1 = _ := (coastNumbering_adopts he hmove).trans
    (adoptNumbering_measures hlag hres (fun h => hkeep (Or.inl h)) (fun h => hkeep (Or.inr h)))
  cases hm : measure m f.number with
  | some y =>
    obtain ⟨hadopted, htiming, hlanes⟩ := adoptCoast_spec hreference (hm ▸ hout) ⟨rfl, rfl, rfl⟩ rfl
    generalize adoptCoast l m f s1 = t at *
    refine ⟨fun _ h => absurd h hmove, fun h => absurd h hnear, fun h => absurd h hnear, fun _ _ => by rw [htiming],
      fun _ _ _ h => absurd h hkeep, fun _ _ _ _ lag' residue' h => ?_, fun _ _ _ _ h => absurd h nofun,
      fun lag' _ h => ⟨fun h => absurd h hnear, fun _ => hadopted.handed h⟩,
      fun hnone lag' _ h => ⟨fun h => absurd h hnear, fun _ => LockHanded.port_eq (hadopted.handed h) hnone⟩,
      fun _ h => absurd h nofun⟩
    obtain rfl : y = (lag', residue') := Option.some.inj h
    exact ⟨hadopted.1, by rw [htiming], htiming, hlanes⟩
  | none =>
    obtain ⟨hl, hnumber, hpacer, hleaves⟩ := adoptCoast_lost hreference (hm ▸ hout)
    generalize adoptCoast l m f s1 = t at *
    have hhunt : (laneAt t l).state = .hunt := congrArg Lane.state hl
    have hnot : (laneAt t l).state ≠ .locked := by
      rw [hhunt]
      nofun
    exact ⟨fun _ h => absurd h hmove, fun h => absurd h hnear, fun h => absurd h hnear, fun _ _ => hpacer,
      fun _ _ _ h => absurd h hkeep, fun _ _ _ _ _ _ h => absurd h nofun,
      fun _ _ _ _ _ => ⟨⟨hhunt, congrArg Lane.lag hl, congrArg Lane.lagOutOfRange hl⟩, hnumber, hl, hleaves⟩,
      fun _ h => absurd h hnot, fun _ _ h => absurd h hnot, fun _ h => absurd h nofun⟩

end Sys2Proof.Machine
end


section
/-! SUPPORT. Silence, and the election it brings (R34, R37, R38, R45): the limits of the quiet count, and the test for
loss of the pacer. -/

namespace Sys2Proof.Machine

/-! ### The test for loss of the pacer (R37) -/

theorem lowestLocked_eq_none_iff (s : State) : lowestLocked s = none ↔ ∀ l, (laneAt s l).state ≠ .locked := by
  simp [lowestLocked, List.find?_eq_none, mem_allLanes, isLocked]

theorem lowestLocked_isSome_iff (s : State) : (lowestLocked s).isSome = true ↔ ∃ l, (laneAt s l).state = .locked := by
  simp [lowestLocked, List.find?_isSome, mem_allLanes, isLocked]

theorem allSilent_iff (s : State) : allSilent s = true ↔ (∃ l, (laneAt s l).state = .locked) ∧
    ∀ l, (laneAt s l).state = .locked → vget s.timing.silent l = 3 := by
  rw [allSilent, Bool.and_eq_true, lowestLocked_isSome_iff, List.all_eq_true]
  refine and_congr_right fun _ => forall_congr' fun l => ?_
  rw [forall_prop_of_true (mem_allLanes l), Bool.or_eq_true, Bool.not_eq_true', beq_iff_eq, ← isLocked_iff]
  cases isLocked s l <;> simp

theorem pacerLost_iff (s : State) :
    PacerLost s ↔ s.timing.role = .following ∧ s.timing.phased = true ∧ allSilent s = true := by
  rw [allSilent_iff, PacerLost]

/-- The test brings the election just where the pacer is lost. -/
theorem afterLossTest_lossTest (s : State) : AfterLossTest s (lossTest s) := by
  rw [lossTest, enterElecting_eq]
  exact ⟨fun h => if_pos ((pacerLost_iff s).mp h), fun h => if_neg (mt (pacerLost_iff s).mpr h)⟩

theorem timingSilence_locked {l : LaneNo} {s : State} (hrole : s.timing.role = .following)
    (hlane : (laneAt s l).state = .locked) : timingSilence l s = lossTest { s with timing := { s.timing with
      silent := vset s.timing.silent l (min 3 (vget s.timing.silent l + 1)) } } :=
  if_pos ⟨hrole, (isLocked_iff s l).mpr hlane⟩

theorem timingSilence_not_following {s : State} (l : LaneNo) (hrole : s.timing.role ≠ .following) :
    timingSilence l s = s := if_neg fun h => hrole h.1

/-! ### The limits of the quiet count (R37, R45) -/

theorem exec_quietCountLimit_reached {s : State} (hreset : s.pins.resetAsserted = false)
    (h : s.timing.role = .following ∧ s.timing.phased = true ∧ (∀ l, (laneAt s l).state ≠ .locked) ∧
      3 ≤ s.timing.quiet) : exec .quietCountLimit s = .next (settle (elected s)) := by
  rw [← lowestLocked_eq_none_iff] at h
  rw [← enterElecting_eq]
  exact (run_of_released hreset _).trans (by rw [if_pos h])

theorem exec_quietCountLimit_not_reached {s : State} (hreset : s.pins.resetAsserted = false)
    (h : ¬ (s.timing.role = .following ∧ s.timing.phased = true ∧ (∀ l, (laneAt s l).state ≠ .locked) ∧
      3 ≤ s.timing.quiet)) : exec .quietCountLimit s = .next (settle s) := by
  rw [← lowestLocked_eq_none_iff] at h
  exact (run_of_released hreset _).trans (by rw [if_neg h])

theorem exec_listenTimeExpiry_reached {s : State} (hreset : s.pins.resetAsserted = false)
    (h : s.timing.role = .following ∧ s.timing.phased = false ∧ 256 ≤ s.timing.quiet) :
    exec .listenTimeExpiry s = .next (settle (elected s)) := by
  rw [← enterElecting_eq]
  exact (run_of_released hreset _).trans (by rw [if_pos h])

theorem exec_listenTimeExpiry_not_reached {s : State} (hreset : s.pins.resetAsserted = false)
    (h : ¬ (s.timing.role = .following ∧ s.timing.phased = false ∧ 256 ≤ s.timing.quiet)) :
    exec .listenTimeExpiry s = .next (settle s) :=
  (run_of_released hreset _).trans (by rw [if_neg h])

/-- Settles O10: the two limits of the quiet count, then a verdict and a lane's leaving, each with the test for loss. -/
theorem silenceBringsAnElection : Obligations.SilenceBringsAnElection := by
  refine fun s => ⟨fun hreset => ⟨?_, fun h => ?_, ?_, fun h => ?_⟩,
    fun l => ⟨fun hrole hlane => ?_, ?_, afterLossTest_lossTest _⟩⟩
  · exact fun hrole hphased hlanes hquiet => exec_quietCountLimit_reached hreset ⟨hrole, hphased, hlanes, hquiet⟩
  · refine exec_quietCountLimit_not_reached hreset ?_
    rintro ⟨hrole, hphased, hlanes, hquiet⟩
    rcases h with h | h | ⟨l, h⟩ | h
    · exact h hrole
    · exact Bool.false_ne_true (h.symm.trans hphased)
    · exact hlanes l h
    · omega
  · exact fun hrole hphased hquiet => exec_listenTimeExpiry_reached hreset ⟨hrole, hphased, hquiet⟩
  · refine exec_listenTimeExpiry_not_reached hreset ?_
    rintro ⟨hrole, hphased, hquiet⟩
    rcases h with h | h | h
    · exact h hrole
    · exact Bool.false_ne_true (hphased.symm.trans h)
    · omega
  · rw [timingSilence_locked hrole hlane]
    exact afterLossTest_lossTest _
  · rintro (hrole | hlane)
    · exact timingSilence_not_following l hrole
    · exact timingSilence_unlocked hlane

end Sys2Proof.Machine
end


section
/-! SUPPORT. The end of the election wait (R40, R42): the numbering a pacer takes, the cycles that stay undriven (R8)
and its first marks. -/

namespace Sys2Proof.Machine

/-! ### The numbering a pacer takes (R40) -/

/-- The number of the flywheel cycle in which this station begins to pace (R40). -/
def pacedNumber (s : State) : CycleNo := if s.timing.phased then s.timing.number else 0

/-- The flywheel under that numbering (R35, R40). -/
def pacedNumbering (s : State) : State := if s.timing.phased then s else renumber (0 - s.timing.number) s

theorem timing_pacedNumbering (s : State) : (pacedNumbering s).timing = { s.timing with
    number := pacedNumber s
    live := if s.timing.phased then s.timing.live else s.timing.live.map (fun c => c + (0 - s.timing.number)) } := by
  unfold pacedNumbering pacedNumber
  split
  · rfl
  · simp [renumber]

theorem pacedNumbering_eta (s : State) : pacedNumbering s =
    { s with lanes := (pacedNumbering s).lanes, timing := (pacedNumbering s).timing } := by
  unfold pacedNumbering
  split <;> rfl

/-- The numbering moves no more of a lane than the places on its record (R35). -/
theorem laneAt_pacedNumbering (s : State) (k : LaneNo) : laneAt (pacedNumbering s) k = { laneAt s k with
    expPos := (laneAt (pacedNumbering s) k).expPos, emitted := (laneAt (pacedNumbering s) k).emitted } := by
  unfold pacedNumbering
  split
  · rfl
  · exact renumber_places _ s k

/-! ### PACING (R40, R42) -/

theorem laneAt_latchR8 (now : Nat) (s : State) (k : LaneNo) : laneAt (latchR8 now s) k = { laneAt s k with
    r8Failed := if (laneAt s k).state = .locked then currentCycle (laneAt s k) now else (laneAt s k).r8Failed } := by
  have h : laneAt (latchR8 now s) k = if (laneAt s k).state = .locked then
      { laneAt s k with r8Failed := currentCycle (laneAt s k) now } else laneAt s k := vget_vmap _ _ _
  rw [h]
  split <;> rfl

theorem Lane.emit_eq (mark : Emission) (x : Lane) :
    x.emit mark = { x with emitted := if x.state = .disabled then x.emitted else some mark } := by
  unfold Lane.emit
  split <;> rfl

/-- The timing record on entry to PACING, before the first mark has gone (R40, R42). -/
def Timing.paces (own : StationId) (t : Timing) : Timing :=
  { t with role := .pacing, phased := true, fresh := 16, pacer := some own, rephase := false, wait := 0 }

/-- A state that has entered PACING, before its first marks (R8, R40, R46). -/
def pacingBegun (s : State) : State :=
  latchR8 (cycleStart (pacedNumber s)) (reportRole .electing
    ((pacedNumbering s).modTiming (Timing.paces (ownId s))))

theorem ownId_pacedNumbering (s : State) : ownId (pacedNumbering s) = ownId s := by
  rw [pacedNumbering_eta]
  rfl

theorem timing_pacingBegun (s : State) : (pacingBegun s).timing = (pacedNumbering s).timing.paces (ownId s) := rfl

theorem enterPacing_eq (s : State) : enterPacing s = emitMarks (pacingBegun s) := by
  have hnumber : ((pacedNumbering s).modTiming (Timing.paces (ownId s))).timing.number = pacedNumber s :=
    congrArg Timing.number (timing_pacedNumbering s)
  rw [pacingBegun, ← hnumber]
  rfl

/-- The first mark of a pacer on a lane, one of its 16 FRESH marks (R42). -/
def firstMark (s : State) (l : LaneNo) : Emission where
  pos := cycleStart (pacedNumber s)
  word := encodeMark (ownId s) l (pacedNumber s) true
  awaited := true
  cut := false

theorem markOf_pacingBegun (s : State) (l : LaneNo) : markOf (pacingBegun s) l = firstMark s l := by
  have hown : ownId (pacingBegun s) = ownId s := ownId_pacedNumbering s
  rw [markOf, hown, timing_pacingBegun, timing_pacedNumbering]
  rfl

/-- A lane on entry to PACING: its cycle under way where it is LOCKED, and its first mark where it is enabled. -/
theorem laneAt_enterPacing (s : State) (l : LaneNo) :
    let x := laneAt (pacedNumbering s) l
    laneAt (enterPacing s) l = { x with
      r8Failed := if x.state = .locked then currentCycle x (cycleStart (pacedNumber s)) else x.r8Failed
      emitted := if x.state = .disabled then x.emitted else some (firstMark s l) } := by
  have hbegun := laneAt_latchR8 (cycleStart (pacedNumber s))
    (reportRole .electing ((pacedNumbering s).modTiming (Timing.paces (ownId s)))) l
  rw [enterPacing_eq, laneAt_emitMarks, markOf_pacingBegun, Lane.emit_eq, pacingBegun, hbegun]
  rfl

theorem timing_enterPacing (s : State) : (enterPacing s).timing = { s.timing with
    role := .pacing
    number := pacedNumber s
    phased := true
    fresh := 15
    pacer := some (ownId s)
    rephase := false
    wait := 0
    live := if s.timing.phased then s.timing.live else s.timing.live.map (fun c => c + (0 - s.timing.number)) } := by
  rw [enterPacing_eq, emitMarks_eq, timing_pacingBegun, timing_pacedNumbering]
  rfl

/-- Entry to PACING changes the timing record, the lanes and the reports (R46). -/
theorem enterPacing_eta (s : State) : enterPacing s = { s with
    timing := (enterPacing s).timing
    lanes := (enterPacing s).lanes
    port := (s.port.post (.timingRole .electing .pacing (some (ownId s)) (some (pacedNumber s)))).1 } := by
  have hport : (pacingBegun s).port =
      (s.port.post (.timingRole .electing .pacing (some (ownId s)) (some (pacedNumber s)))).1 := by
    rw [pacingBegun, reportRole_eq (role := .pacing) rfl, State.modTiming_timing, timing_pacedNumbering,
      pacedNumbering_eta]
    rfl
  rw [← hport, enterPacing_eq, emitMarks_eq, pacingBegun, pacedNumbering_eta]
  rfl

/-! ### The end of the wait (R40) -/

theorem exec_electionWaitExpiry_over {s : State} (hreset : s.pins.resetAsserted = false)
    (h : s.timing.role = .electing ∧ s.timing.wait = 0) :
    exec .electionWaitExpiry s = .next (settle (enterPacing s)) :=
  (run_of_released hreset _).trans (by rw [if_pos h])

theorem exec_electionWaitExpiry_not_over {s : State} (hreset : s.pins.resetAsserted = false)
    (h : ¬ (s.timing.role = .electing ∧ s.timing.wait = 0)) : exec .electionWaitExpiry s = .next (settle s) :=
  (run_of_released hreset _).trans (by rw [if_neg h])

/-- Settles O11: entry to PACING, read field by field. -/
theorem electionWaitExpiryBringsPacing : Obligations.ElectionWaitExpiryBringsPacing := by
  refine fun s hreset => ⟨fun h => exec_electionWaitExpiry_not_over hreset (not_and_or.mpr h), fun hrole hwait => ?_⟩
  refine ⟨enterPacing s, exec_electionWaitExpiry_over hreset ⟨hrole, hwait⟩, timing_enterPacing s, fun l => ?_,
    enterPacing_eta s⟩
  have hstate : (laneAt (pacedNumbering s) l).state = (laneAt s l).state := by rw [laneAt_pacedNumbering]
  have hnumber : (laneAt (pacedNumbering s) l).expNum = (laneAt s l).expNum := by rw [laneAt_pacedNumbering]
  have hlag : (laneAt (pacedNumbering s) l).lag = (laneAt s l).lag := by rw [laneAt_pacedNumbering]
  rw [laneAt_enterPacing]
  refine ⟨hstate, hnumber, hlag, fun henabled => ?_, fun c p hlocked hnum hpos => ?_⟩
  · exact if_neg (by rwa [hstate])
  · exact (if_pos hlocked).trans (currentCycle_eq _ hnum hpos)

end Sys2Proof.Machine
end


section
/-! SUPPORT. The passing of time while no command waits (log entry 3). -/

namespace Sys2Proof.Machine

/-! ### The flywheel, the read under way and the frame being sent -/

/-- The flywheel comes no further than the end of its cycle, or stays where a trim has moved it past it (R33, R34). -/
theorem Timing.pass_eq_moveTo (n : Nat) (t : Timing) :
    ∃ p : Int, t.stands ≤ p ∧ p ≤ max 5119 t.stands ∧ t.pass n = t.moveTo p :=
  ⟨_, le_max_left _ _, by omega, rfl⟩

/-- A byte leaves client output where more than one is left of its frame. -/
theorem Stage.idle1_cases (x : Stage) : x.idle1 = x ∨
    ∃ frame left, x = .sending frame (left + 1) ∧ 1 ≤ left ∧ x.idle1 = .sending frame left := by
  cases x with
  | idle => exact Or.inl rfl
  | sending frame left =>
    rcases Nat.lt_or_ge 1 left with hmore | hlast
    · obtain ⟨k, rfl⟩ := Nat.exists_eq_add_of_le' hmore
      exact (ite_eq_or_eq _ _ _).imp id fun h => ⟨frame, k + 1, rfl, Nat.le_add_left 1 k, h⟩
    · exact Or.inl (by cases frame <;> simp [Stage.idle1, hlast])

/-! ### What an idle step moves -/

theorem passTime_reset {s : State} (h : s.pins.resetAsserted = true) : passTime s = s := if_pos h

section Released

variable {s : State} (h : s.pins.resetAsserted = false)
include h

theorem passTime_released : passTime s = { s with
    free := s.free + 1
    timing := if s.timing.role = .quiet then s.timing else s.timing.pass (Config.idleBits s.free)
    loader := if s.loader.reading ∧ s.loader.bytesRead < 31 ∧ Config.idleRecordByte s.free then
        { s.loader with bytesRead := s.loader.bytesRead + 1 } else s.loader
    port := if Config.idleOutputByte s.free then { s.port with stage := s.port.stage.idle1 } else s.port } :=
  if_neg (by simp [h])

/-- An idle step moves the flywheel's place, the bytes read and the stage of client output. -/
theorem passTime_eta : passTime s = { s with
    free := s.free + 1
    timing := { s.timing with position := (passTime s).timing.position, slip := (passTime s).timing.slip }
    loader := { s.loader with bytesRead := (passTime s).loader.bytesRead }
    port := { s.port with stage := (passTime s).port.stage } } := by
  rw [passTime_released h]
  congr 1 <;> dsimp only <;> split <;> rfl

theorem timing_passTime_quiet (hrole : s.timing.role = .quiet) : (passTime s).timing = s.timing := by
  rw [passTime_released h]
  exact if_pos hrole

theorem timing_passTime_moves (hrole : s.timing.role ≠ .quiet) : ∃ p : Int, s.timing.stands ≤ p ∧
    p ≤ max 5119 s.timing.stands ∧ (passTime s).timing = s.timing.moveTo p := by
  rw [passTime_released h]
  dsimp only
  rw [if_neg hrole]
  exact s.timing.pass_eq_moveTo _

theorem bytesRead_passTime : (passTime s).loader.bytesRead = s.loader.bytesRead ∨
    s.loader.reading = true ∧ (passTime s).loader.bytesRead = s.loader.bytesRead + 1 ∧
      (passTime s).loader.bytesRead ≤ 31 := by
  rw [passTime_released h]
  dsimp only
  split
  · rename_i hread
    obtain ⟨hreading, hcount, -⟩ := hread
    exact Or.inr ⟨hreading, rfl, hcount⟩
  · exact Or.inl rfl

theorem stage_passTime : (passTime s).port.stage = s.port.stage ∨ ∃ frame left,
    s.port.stage = .sending frame (left + 1) ∧ 1 ≤ left ∧ (passTime s).port.stage = .sending frame left := by
  rw [passTime_released h]
  dsimp only
  split
  · exact s.port.stage.idle1_cases
  · exact Or.inl rfl

end Released

theorem step_idle {s : State} (h : s.pending = []) : step s = .next (passTime s) := by
  rw [step, h]

/-- Settles O2: what an idle step moves, and how far. -/
theorem idleStepPassesTime : Obligations.IdleStepPassesTime := by
  refine fun s hpending => ⟨fun hreset => ?_, fun hreset => ?_⟩
  · rw [step_idle hpending, passTime_reset hreset]
  · refine ⟨_, _, _, _, (step_idle hpending).trans (congrArg _ (passTime_eta hreset)), fun hquiet => ?_,
      fun hrole => ?_, bytesRead_passTime hreset, stage_passTime hreset⟩
    · rw [timing_passTime_quiet hreset hquiet]
      exact ⟨rfl, rfl⟩
    · obtain ⟨p, hfrom, hto, hmoved⟩ := timing_passTime_moves hreset hrole
      rw [hmoved]
      refine ⟨p, hfrom, hto, ?_, rfl⟩
      rw [moveTo_eq]
      dsimp only
      omega

end Sys2Proof.Machine
end


section
/-! SUPPORT. The roster (R58, R59): a station that is heard, and one that no longer is. -/

namespace Sys2Proof.Machine

/-! ### A station that is heard (R58) -/

section Refreshed

variable {id : StationId} {s : State} {i : Fin 62} (hpeer : id ≠ ownId s) (hi : i.val + 1 = id.toNat)
include hpeer hi

theorem refresh_present (by_ : HeardBy) (h : (vget s.roster i).present = true) :
    refresh id by_ s = s.modRoster i (fun e => { e with present := true, age := 0, heardBy := some by_ }) := by
  simp [refresh, hpeer, rosterIx_of_toNat hi, h]

theorem refresh_absent (by_ : HeardBy) (h : (vget s.roster i).present = false) :
    refresh id by_ s = report (.peerJoined id by_)
      (s.modRoster i (fun e => { e with present := true, age := 0, heardBy := some by_ })) := by
  simp [refresh, hpeer, rosterIx_of_toNat hi, h]

end Refreshed

/-- Settles O22: this station's own entry, then a peer's, PRESENT or ABSENT before. -/
theorem heardStationBecomesPresent : Obligations.HeardStationBecomesPresent := by
  intro id by_ s i hi
  refine ⟨fun hown => if_pos hown, fun hpeer => ⟨fun hpresent => ?_, fun habsent => ?_⟩⟩
  · exact refresh_present hpeer hi by_ hpresent
  · exact refresh_absent hpeer hi by_ habsent

/-! ### A peer that is heard no more (R59) -/

theorem exec_rosterAgeExpiry (id : StationId) (s : State) :
    exec (.rosterAgeExpiry id) s = execRosterAgeExpiry id s := rfl

section Expiry

variable {id : StationId} {s : State} {i : Fin 62} (hreset : s.pins.resetAsserted = false)
  (hi : i.val + 1 = id.toNat)
include hreset hi

theorem exec_rosterAgeExpiry_lost (hrun : s.Running) (hpeer : id ≠ ownId s)
    (hpresent : (vget s.roster i).present = true) (hage : (vget s.roster i).age = 1024) :
    exec (.rosterAgeExpiry id) s = .next (settle (peerLost i id s)) := by
  rw [exec_rosterAgeExpiry, execRosterAgeExpiry, run_of_released hreset, rosterIx_of_toNat hi]
  dsimp only
  rw [if_pos ⟨(running_iff s).mpr hrun, hpeer, hpresent, hage⟩]

theorem exec_rosterAgeExpiry_kept (h : ¬ s.Running ∨ id = ownId s ∨ (vget s.roster i).present = false ∨
    (vget s.roster i).age ≠ 1024) : exec (.rosterAgeExpiry id) s = .next (settle s) := by
  rw [exec_rosterAgeExpiry, execRosterAgeExpiry, run_of_released hreset, rosterIx_of_toNat hi]
  dsimp only
  rw [if_neg]
  rintro ⟨hrun, hpeer, hpresent, hage⟩
  rcases h with h | h | h | h
  · exact h ((running_iff s).mp hrun)
  · exact hpeer h
  · exact Bool.false_ne_true (h.symm.trans hpresent)
  · exact h hage

end Expiry

/-- The transmit engine takes an absence record by record (R97). -/
theorem txAbsence_eq_foldl (id : StationId) (s : State) : txAbsence id s = allRecs.foldl (txLeft id) s := by
  refine congrArg (fun f => allRecs.foldl f s) (funext₂ fun x t => ?_)
  unfold txLeft txEnd
  cases (txAt x t).state <;> rfl

/-- The receive engine without a station's strays (R121). -/
def withoutStrays (id : StationId) (s : State) : State :=
  { s with rx := { s.rx with strays := s.rx.strays.filter (fun y => y.owner ≠ id) } }

/-- The receive engine takes an absence record by record, then drops the strays (R123). -/
theorem rxAbsence_eq_foldl (id : StationId) (s : State) :
    rxAbsence id s = withoutStrays id (allRecs.foldl (rxLeft id) s) := by
  refine congrArg₂ (fun (u : State) p => { u with rx := { u.rx with strays := u.rx.strays.filter p } })
    (congrArg (fun f => allRecs.foldl f s) (funext₂ fun x r => ?_)) (funext fun y => ?_)
  · rw [rxLeft]
    cases (rxAt x r).dismiss <;> rfl
  · simp [bne, beq_eq_decide]

/-- A peer gone ABSENT, before the engines are told (R59). -/
def peerGone (i : Fin 62) (id : StationId) (s : State) : State :=
  { s with
    roster := vset s.roster i { vget s.roster i with present := false, body := none }
    port := (s.port.post (.peerLeft id)).1 }

theorem peerLost_eq (i : Fin 62) (id : StationId) (s : State) :
    peerLost i id s = rxAbsence id (txAbsence id (peerGone i id s)) := rfl

theorem outside_peerLost (i : Fin 62) (id : StationId) (s : State) :
    (peerLost i id s).outside = (peerGone i id s).outside := by
  rw [peerLost_eq, outside_rxAbsence, outside_txAbsence]

theorem txLeft_of_ne {id : StationId} {s : State} {t : RecIx} (h : (txAt s t).sink ≠ some id) :
    txLeft id s t = s := if_neg h

theorem rxLeft_of_ne {id : StationId} {s : State} {r : RecIx} (h : (rxAt s r).source ≠ some id) :
    rxLeft id s r = s := if_neg h

/-- A transmit engine with no trunk to the peer does nothing at its absence. -/
theorem txAbsence_stranger {id : StationId} {s : State} (h : ∀ k, (txAt s k).sink ≠ some id) :
    txAbsence id s = s := by
  rw [txAbsence_eq_foldl]
  exact List.foldl_fixed' (fun k => txLeft_of_ne (h k)) allRecs

/-- A receive engine with no trunk from the peer and no stray of it does nothing at its absence. -/
theorem rxAbsence_stranger {id : StationId} {s : State} (h : ∀ k, (rxAt s k).source ≠ some id)
    (hstray : ∀ y ∈ s.rx.strays, y.owner ≠ id) : rxAbsence id s = s := by
  have hfold : allRecs.foldl (rxLeft id) s = s := List.foldl_fixed' (fun k => rxLeft_of_ne (h k)) allRecs
  have hkept : s.rx.strays.filter (fun y => y.owner ≠ id) = s.rx.strays :=
    List.filter_eq_self.mpr fun y hy => decide_eq_true (hstray y hy)
  rw [rxAbsence_eq_foldl, hfold, withoutStrays, hkept]

/-- Engines that hold nothing of the peer leave the absence at the roster. -/
theorem peerLost_stranger {i : Fin 62} {id : StationId} {s : State} (htx : ∀ k, (txAt s k).sink ≠ some id)
    (hrx : ∀ k, (rxAt s k).source ≠ some id) (hstray : ∀ y ∈ s.rx.strays, y.owner ≠ id) :
    peerLost i id s = peerGone i id s := by
  rw [peerLost_eq, txAbsence_stranger (s := peerGone i id s) htx,
    rxAbsence_stranger (s := peerGone i id s) hrx hstray]

/-- Settles O27: the absence at the roster, then each engine record by record; what the engines leave alone stays. -/
theorem rosterAgeExpiryMakesAPeerAbsent : Obligations.RosterAgeExpiryMakesAPeerAbsent := by
  intro id i s hreset hi
  refine ⟨exec_rosterAgeExpiry_kept hreset hi, fun hrun hpeer hpresent hage => ?_⟩
  intro left
  have hleft : left = peerGone i id s := rfl
  clear_value left
  subst hleft
  intro u
  have hu : u = allRecs.foldl (rxLeft id) (allRecs.foldl (txLeft id) (peerGone i id s)) := rfl
  clear_value u
  intro t
  have hlost : peerLost i id s = t := by
    rw [peerLost_eq, txAbsence_eq_foldl, rxAbsence_eq_foldl, ← hu]
    rfl
  clear_value t
  have houtside : t.outside = (peerGone i id s).outside := hlost ▸ outside_peerLost i id s
  exact ⟨hlost ▸ exec_rosterAgeExpiry_lost hreset hi hrun hpeer hpresent hage,
    congrArg Outside.lanes houtside, congrArg Outside.timing houtside,
    congrArg (fun o => o.fixed.loader) houtside, congrArg Outside.roster houtside,
    fun htx hrx hstray => hlost ▸ peerLost_stranger htx hrx hstray⟩

end Sys2Proof.Machine
end


section
/-! SUPPORT. The notice queue (R48 to R51): its order, what a post and a withdrawal do to an owner entry, and the
periodic notices (R60, R119). -/

namespace Sys2Proof.Machine

/-! ### The queue order (R48) -/

/-- Of one class the queue order holds what the queue holds, in the order of age. -/
theorem filter_queueOrder (q : List QueuedNotice) (c : BitVec 2) :
    (queueOrder q).filter (fun e => e.body.cls == c) = q.filter (fun e => e.body.cls == c) := by
  have hclass : ∀ c', (q.filter (fun e => e.body.cls == c')).filter (fun e => e.body.cls == c) =
      if c' = c then q.filter (fun e => e.body.cls == c) else [] := by
    intro c'
    split
    · next h => simp [h]
    · next h =>
      rw [List.filter_filter, List.filter_eq_nil_iff]
      intro e _ he
      simp only [Bool.and_eq_true, beq_iff_eq] at he
      exact h (he.2.symm.trans he.1)
  have hfour : ∀ c : BitVec 2, c = 0 ∨ c = 1 ∨ c = 2 ∨ c = 3 := by decide
  simp only [queueOrder, List.filter_flatMap, hclass]
  rcases hfour c with rfl | rfl | rfl | rfl <;> simp

theorem queueOrder_sorted (q : List QueuedNotice) :
    (queueOrder q).Pairwise (fun x y => x.body.cls.toNat ≤ y.body.cls.toNat) := by
  have hclass : ∀ (c : BitVec 2), ∀ e ∈ q.filter (fun e => e.body.cls == c), e.body.cls = c :=
    fun c e he => by simpa using (List.mem_filter.mp he).2
  rw [queueOrder, List.pairwise_flatMap]
  refine ⟨fun c _ => List.pairwise_of_forall_mem_list fun x hx y hy => ?_, ?_⟩
  · rw [hclass c x hx, hclass c y hy]
  · have hlt : [0#2, 1#2, 2#2, 3#2].Pairwise (fun a b => a.toNat ≤ b.toNat) := by decide
    refine hlt.imp fun hab x hx y hy => ?_
    rwa [hclass _ x hx, hclass _ y hy]

/-- The queue order holds each entry as often as the queue: both hold as many of its class. -/
theorem queueOrder_perm (q : List QueuedNotice) : (queueOrder q).Perm q := by
  rw [List.perm_iff_count]
  intro e
  have hown : ∀ l : List QueuedNotice, (l.filter (fun x => x.body.cls == e.body.cls)).count e = l.count e :=
    fun l => List.count_filter (beq_self_eq_true e.body.cls)
  rw [← hown (queueOrder q), filter_queueOrder, hown]

/-! ### Posting and withdrawing (R48 to R50) -/

section Entry

variable {s : State} {o : OwnerEntry}

theorem postNotice_empty (dest : StationId) (body : NoticeBody) (h : queued s o = none) :
    postNotice o dest body s = { s with notice := { s.notice with
      queue := s.notice.queue ++ [{ owner := o, dest := dest, body := body, expiry := 0 }] } } := by
  simp only [postNotice, h]
  rfl

theorem withdraw_empty (h : queued s o = none) : withdraw o s = s := by
  simp only [withdraw, h]

theorem postNotice_replaces {e : QueuedNotice} (dest : StationId) {body : NoticeBody} (h : queued s o = some e)
    (hkind : e.body.kind = body.kind) :
    postNotice o dest body s = { s with notice := { s.notice with
      queue := s.notice.queue.map (fun x =>
        if x.owner = o then { owner := o, dest := dest, body := body, expiry := 0 } else x)
      offers := vmap (Option.map (fun f => if f.owner = o then { f with replaced := true } else f))
        s.notice.offers } } := by
  simp [postNotice, h, hkind, State.modNotice, markReplaced]

theorem postNotice_reinserts {e : QueuedNotice} (dest : StationId) {body : NoticeBody} (h : queued s o = some e)
    (hkind : e.body.kind ≠ body.kind) :
    postNotice o dest body s = { s with notice := { s.notice with
      queue := s.notice.queue.filter (fun x => x.owner ≠ o) ++
        [{ owner := o, dest := dest, body := body, expiry := 0 }]
      offers := vmap (Option.map (fun f => if f.owner = o then { f with replaced := true } else f))
        s.notice.offers } } := by
  simp [postNotice, h, hkind, State.modNotice, markReplaced, bne, beq_eq_decide]

theorem withdraw_queued {e : QueuedNotice} (h : queued s o = some e) :
    withdraw o s = { s with notice := { s.notice with
      queue := s.notice.queue.filter (fun x => x.owner ≠ o)
      offers := vmap (Option.map (fun f => if f.owner = o then { f with withdrawn := true } else f))
        s.notice.offers } } := by
  simp [withdraw, h, State.modNotice, markWithdrawn, bne, beq_eq_decide]

end Entry

/-- Settles O20: the order, then each post and the withdrawal by what the owner entry holds. -/
theorem noticeQueueOrderPostAndWithdraw : Obligations.NoticeQueueOrderPostAndWithdraw :=
  ⟨fun q => ⟨queueOrder_sorted q, filter_queueOrder q, queueOrder_perm q⟩,
    fun _ dest body _ => ⟨fun hempty => ⟨postNotice_empty dest body hempty, withdraw_empty hempty⟩,
      fun _ hqueued => ⟨postNotice_replaces dest hqueued, postNotice_reinserts dest hqueued,
        withdraw_queued hqueued⟩⟩⟩

/-! ### PRESENCE (R60) -/

theorem exec_presenceCountdownExpiry (s : State) :
    exec .presenceCountdownExpiry s = execPresenceCountdownExpiry s := rfl

section Presence

variable {s : State} (hreset : s.pins.resetAsserted = false)
include hreset

theorem exec_presenceCountdownExpiry_ended (hattached : s.loader.state = .attached)
    (hcount : s.notice.countdown = 0) :
    exec .presenceCountdownExpiry s =
      .next (settle ((postNotice .presence nobody (.presence (ownPresence s)) s).modNotice
        (fun n => { n with countdown := 256 }))) := by
  rw [exec_presenceCountdownExpiry, execPresenceCountdownExpiry,
    run_of_released hreset, if_pos ⟨(attached_iff s).mpr hattached, hcount⟩]

theorem exec_presenceCountdownExpiry_not_ended (h : s.loader.state ≠ .attached ∨ s.notice.countdown ≠ 0) :
    exec .presenceCountdownExpiry s = .next (settle s) := by
  rw [exec_presenceCountdownExpiry, execPresenceCountdownExpiry,
    run_of_released hreset, if_neg]
  rw [attached_iff]
  tauto

end Presence

/-! ### TALLY (R108, R119) -/

theorem exec_tallyTimerExpiry (r : RecIx) (s : State) :
    exec (.tallyTimerExpiry r) s = execTallyTimerExpiry r s := rfl

/-- The kind code 2 is that of a DISMISS alone (R12). -/
theorem kind_eq_two_iff (b : NoticeBody) : b.kind = 2#4 ↔ ∃ tag reason, b = .dismiss tag reason := by
  cases b <;> simp [NoticeBody.kind]

theorem rxEntryKind_eq_two_iff (s : State) (r : RecIx) :
    rxEntryKind s r = some 2#4 ↔ ∃ e tag reason, queued s (.rx r) = some e ∧ e.body = .dismiss tag reason := by
  simp [rxEntryKind, kind_eq_two_iff]

/-- A TALLY is not posted over a DISMISS. -/
theorem postTally_dismissing {s : State} {r : RecIx} {e : QueuedNotice} {tag : Tag} {reason : DismissReason}
    (hqueued : queued s (.rx r) = some e) (hbody : e.body = .dismiss tag reason) : postTally r s = s :=
  if_pos ((rxEntryKind_eq_two_iff s r).mpr ⟨e, tag, reason, hqueued, hbody⟩)

theorem postTally_posts {s : State} {r : RecIx}
    (h : ∀ e, queued s (.rx r) = some e → ∀ tag reason, e.body ≠ .dismiss tag reason) :
    postTally r s = postNotice (.rx r) ((rxAt s r).source.getD nobody) (.tally (tallyBody s r)) s := by
  refine if_neg fun hkind => ?_
  obtain ⟨e, tag, reason, hqueued, hbody⟩ := (rxEntryKind_eq_two_iff s r).mp hkind
  exact h e hqueued tag reason hbody

section Tally

variable {s : State} {r : RecIx} (hreset : s.pins.resetAsserted = false)
include hreset

theorem exec_tallyTimerExpiry_ended (hrun : s.Running) (hstate : (rxAt s r).state = .accepted)
    (htimer : (rxAt s r).tally = some 0) :
    exec (.tallyTimerExpiry r) s =
      .next (settle ((postTally r s).modRx r (fun e => { e with tally := some (cfg s).tallyPeriod }))) := by
  rw [exec_tallyTimerExpiry, execTallyTimerExpiry,
    run_of_released hreset, if_pos ⟨(running_iff s).mpr hrun, hstate, htimer⟩]

theorem exec_tallyTimerExpiry_not_ended
    (h : ¬ s.Running ∨ (rxAt s r).state ≠ .accepted ∨ (rxAt s r).tally ≠ some 0) :
    exec (.tallyTimerExpiry r) s = .next (settle s) := by
  rw [exec_tallyTimerExpiry, execTallyTimerExpiry,
    run_of_released hreset, if_neg]
  rw [running_iff]
  tauto

end Tally

/-- Settles O25: PRESENCE, then TALLY, each at the end of its count and elsewhere. -/
theorem periodicNoticesArePosted : Obligations.PeriodicNoticesArePosted := by
  intro r s hreset
  refine ⟨exec_presenceCountdownExpiry_ended hreset, exec_presenceCountdownExpiry_not_ended hreset,
    fun hrun hstate htimer => ⟨fun hfree => ?_, fun e tag reason hqueued hbody => ?_⟩,
    exec_tallyTimerExpiry_not_ended hreset⟩
  · rw [exec_tallyTimerExpiry_ended hreset hrun hstate htimer, postTally_posts hfree]
  · rw [exec_tallyTimerExpiry_ended hreset hrun hstate htimer, postTally_dismissing hqueued hbody]

end Sys2Proof.Machine
end


section
/-! SUPPORT. The decline entries (R51), and an OFFER at the receive engine (R107, R108). -/

namespace Sys2Proof.Machine

/-! ### The entry that takes a decline request (R51) -/

/-- A decline entry holds a request of the same kind, destination and tag. -/
def SameRequest (s : State) (dest : StationId) (body : NoticeBody) (k : Fin 4) : Prop :=
  ∃ e, queued s (.decline k) = some e ∧ e.dest = dest ∧ e.body.kind = body.kind ∧ e.body.tag? = body.tag?

theorem any_queued_iff (s : State) (dest : StationId) (body : NoticeBody) (k : Fin 4) :
    (queued s (.decline k)).any (fun e =>
      e.dest == dest && e.body.kind == body.kind && e.body.tag? == body.tag?) = true ↔ SameRequest s dest body k := by
  simp [Option.any_eq_true, SameRequest, and_assoc]

/-- A search of the decline entries finds the lowest-numbered that passes. -/
theorem find?_declineEntries {p : OwnerEntry → Bool} {d : Fin 4} (hd : p (.decline d) = true)
    (hlow : ∀ k < d, p (.decline k) = false) : declineEntries.find? p = some (.decline d) := by
  have hmap : declineEntries = (List.finRange 4).map .decline := rfl
  have hfind : (List.finRange 4).find? (p ∘ .decline) = some d :=
    (find?_eq_some_iff_lowest (List.pairwise_lt_finRange 4) (List.mem_finRange) _ d).mpr ⟨hd, hlow⟩
  rw [hmap, List.find?_map, hfind]
  rfl

theorem find?_declineEntries_none {p : OwnerEntry → Bool} (h : ∀ k, p (.decline k) = false) :
    declineEntries.find? p = none := by
  simp [declineEntries, h]

section Request

variable {s : State} {dest : StationId} {body : NoticeBody} {d : Fin 4}

/-- The lowest-numbered entry with the same request takes it. -/
theorem declineSlot_same (hd : SameRequest s dest body d) (hlow : ∀ k < d, ¬ SameRequest s dest body k) :
    declineSlot s dest body = some (.decline d) := by
  rw [declineSlot, find?_declineEntries (d := d) ((any_queued_iff s dest body d).mpr hd)
    fun k hk => Bool.eq_false_iff.mpr fun h => hlow k hk ((any_queued_iff s dest body k).mp h)]
  rfl

/-- Where no entry holds the same request, the search goes to the empty entries. -/
theorem declineSlot_other (h : ∀ k, ¬ SameRequest s dest body k) :
    declineSlot s dest body = declineEntries.find? (fun o => (queued s o).isNone) := by
  rw [declineSlot, find?_declineEntries_none
    fun k => Bool.eq_false_iff.mpr fun hk => h k ((any_queued_iff s dest body k).mp hk)]
  rfl

theorem declineSlot_empty (h : ∀ k, ¬ SameRequest s dest body k) (hd : queued s (.decline d) = none)
    (hlow : ∀ k < d, queued s (.decline k) ≠ none) : declineSlot s dest body = some (.decline d) := by
  rw [declineSlot_other h]
  exact find?_declineEntries (Option.isNone_iff_eq_none.mpr hd)
    fun k hk => Bool.eq_false_iff.mpr fun hk' => hlow k hk (Option.isNone_iff_eq_none.mp hk')

theorem declineSlot_full (h : ∀ k, ¬ SameRequest s dest body k) (hfull : ∀ k, queued s (.decline k) ≠ none) :
    declineSlot s dest body = none := by
  rw [declineSlot_other h]
  exact find?_declineEntries_none
    fun k => Bool.eq_false_iff.mpr fun hk => hfull k (Option.isNone_iff_eq_none.mp hk)

theorem requestDecline_placed {o : OwnerEntry} (h : declineSlot s dest body = some o) :
    requestDecline dest body s = (postNotice o dest body s, true) := by
  simp [requestDecline, h]

theorem requestDecline_refused (h : declineSlot s dest body = none) :
    requestDecline dest body s =
      ({ s with notice := { s.notice with declineFull := bump s.notice.declineFull } }, false) := by
  simp [requestDecline, h, State.modNotice]

end Request

/-! ### DECLINE_ENTRY_EXPIRY (R51) -/

theorem exec_declineEntryExpiry (d : Fin 4) (s : State) :
    exec (.declineEntryExpiry d) s = execDeclineEntryExpiry d s := rfl

section Expiry

variable {s : State} {d : Fin 4} (hreset : s.pins.resetAsserted = false)
include hreset

theorem exec_declineEntryExpiry_expired {e : QueuedNotice} (hrun : s.Running) (he : queued s (.decline d) = some e)
    (hage : e.expiry = 64) :
    exec (.declineEntryExpiry d) s = .next (settle ((withdraw (.decline d) s).modNotice (fun n =>
      { n with declineExpired := bump n.declineExpired }))) := by
  rw [exec_declineEntryExpiry, execDeclineEntryExpiry,
    run_of_released hreset, if_pos ⟨(running_iff s).mpr hrun, by simp [he, hage]⟩]

theorem exec_declineEntryExpiry_not_expired
    (h : ¬ s.Running ∨ ∀ e, queued s (.decline d) = some e → e.expiry ≠ 64) :
    exec (.declineEntryExpiry d) s = .next (settle s) := by
  rw [exec_declineEntryExpiry, execDeclineEntryExpiry,
    run_of_released hreset, if_neg]
  simp only [running_iff, Option.any_eq_true, beq_iff_eq]
  rintro ⟨hrun, e, he, hage⟩
  rcases h with h | h
  · exact h hrun
  · exact h e he hage

end Expiry

/-! ### The records that hold a source and tag (R107) -/

section Records

variable {s : State} {st : RxState} {source : StationId} {tag : Tag} {r : RecIx}

theorem rxFind_test_iff (s : State) (st : RxState) (source : StationId) (tag : Tag) (r : RecIx) :
    ((rxAt s r).state == st && (rxAt s r).source == some source && (rxAt s r).tag == some tag) = true ↔
      Holds s st source tag r := by
  simp [Holds, and_assoc]

theorem rxFind_lowest (h : Holds s st source tag r) (hlow : ∀ k < r, ¬ Holds s st source tag k) :
    rxFind s st source tag = some r :=
  (find?_allRecs _ r).mpr ⟨(rxFind_test_iff s st source tag r).mpr h,
    fun k hk => Bool.eq_false_iff.mpr fun hk' => hlow k hk ((rxFind_test_iff s st source tag k).mp hk')⟩

theorem rxFind_none (h : ∀ k, ¬ Holds s st source tag k) : rxFind s st source tag = none :=
  List.find?_eq_none.mpr fun k _ hk => h k ((rxFind_test_iff s st source tag k).mp hk)

theorem rxFind_isSome (h : ∃ k, Holds s st source tag k) : (rxFind s st source tag).isSome = true := by
  obtain ⟨k, hk⟩ := h
  exact List.find?_isSome.mpr ⟨k, mem_allRecs k, (rxFind_test_iff s st source tag k).mpr hk⟩

theorem vacantRx_lowest (h : (rxAt s r).state = .vacant) (hlow : ∀ k < r, (rxAt s k).state ≠ .vacant) :
    vacantRx s = some r :=
  (find?_allRecs _ r).mpr ⟨beq_iff_eq.mpr h, fun k hk => beq_eq_false_iff_ne.mpr (hlow k hk)⟩

theorem vacantRx_none (h : ∀ k, (rxAt s k).state ≠ .vacant) : vacantRx s = none :=
  List.find?_eq_none.mpr fun k _ hk => h k (beq_iff_eq.mp hk)

end Records

/-! ### What a drain does to each record (R123, R125) -/

theorem rxAt_withdraw (o : OwnerEntry) (s : State) (k : RecIx) : rxAt (withdraw o s) k = rxAt s k := by
  unfold withdraw
  split <;> rfl

theorem rxAt_modRx_of_ne (s : State) {r k : RecIx} (h : k ≠ r) (f : RxRec → RxRec) :
    rxAt (s.modRx r f) k = rxAt s k := vget_vmod_of_ne _ h _

theorem rxAt_testVacant_of_ne (s : State) {r k : RecIx} (h : k ≠ r) : rxAt (testVacant r s) k = rxAt s k := by
  unfold testVacant
  split
  · exact rxAt_modRx_of_ne s h _
  · rfl

/-- A record that is DRAINING at the test for VACANT is DRAINING or VACANT after it. -/
theorem state_testVacant_ne_accepted {s : State} {r : RecIx} (h : (rxAt s r).state = .draining) :
    (rxAt (testVacant r s) r).state ≠ .accepted := by
  unfold testVacant
  split
  · rw [rxAt_modRx_same]
    nofun
  · rw [h]
    nofun

section Drained

variable (s : State) (r : RecIx) (reason : GoneReason) (keepEntry : Bool)

/-- A drain leaves every other record alone. -/
theorem rxAt_drain_of_ne {k : RecIx} (h : k ≠ r) : rxAt (drain r reason keepEntry s) k = rxAt s k := by
  have hentry : rxAt (if keepEntry then s else withdraw (.rx r) s) k = rxAt s k := by
    split
    · rfl
    · exact rxAt_withdraw _ s k
  rw [drain, rxAt_testVacant_of_ne _ h]
  exact ((rxAt_modRx_of_ne _ h _).trans (rxAt_modRx_of_ne _ h _)).trans hentry

/-- The drained record is ACCEPTED no more. -/
theorem state_drain_ne_accepted : (rxAt (drain r reason keepEntry s) r).state ≠ .accepted := by
  refine state_testVacant_ne_accepted ?_
  exact congrArg RxRec.state (rxAt_modRx_same _ r RxRec.drain)

/-- The drain of the one ACCEPTED record with a source and tag leaves none. -/
theorem not_holds_drain {source : StationId} {tag : Tag} (hone : ∀ k, k ≠ r → ¬ Holds s .accepted source tag k)
    (k : RecIx) : ¬ Holds (drain r reason keepEntry s) .accepted source tag k := by
  rintro ⟨hstate, hsource, htag⟩
  by_cases hk : k = r
  · exact state_drain_ne_accepted s r reason keepEntry (hk ▸ hstate)
  · rw [rxAt_drain_of_ne s r reason keepEntry hk] at hstate hsource htag
    exact hone k hk ⟨hstate, hsource, htag⟩

end Drained

/-! ### An OFFER (R107, R108) -/

/-- An ACCEPT goes to the record's source with its tag, but for a TALLY or a DISMISS queued (R108). -/
theorem postAccept_eq {s : State} {r : RecIx} {source : StationId} {tag : Tag}
    (hsource : (rxAt s r).source = some source) (htag : (rxAt s r).tag = some tag) :
    postAccept r s = acceptPosted r source tag s := by
  have hkind : (NoticeBody.accept tag).kind = 4#4 := rfl
  simp only [postAccept, acceptPosted, rxEntryKind, hsource, htag, Option.getD_some, hkind]
  cases queued s (.rx r) with
  | none => rfl
  | some e => by_cases hk : e.body.kind = 4#4 <;> simp [hk]

/-- The accept list leaves a source out where it is not empty and does not hold it (R107). -/
theorem leftOut_iff (s : State) (source : StationId) :
    (!(cfg s).accept.isEmpty && !(cfg s).accept.contains source) = true ↔
      ¬ ((cfg s).accept = [] ∨ source ∈ (cfg s).accept) := by simp

section Offer

variable {s : State} {source : StationId} {tag : Tag} {r : RecIx}

/-- An OFFER of the other tag of the pair drains the record first, then is handled as in the state after. -/
theorem takeOffer_supersedes (h : Holds s .accepted source (tag ^^^ 8) r)
    (hone : ∀ k, k ≠ r → ¬ Holds s .accepted source (tag ^^^ 8) k) :
    takeOffer source tag s = takeOffer source tag (drain r .superseded false s) := by
  have hbefore := rxFind_lowest h fun k hk => hone k hk.ne
  have hafter := rxFind_none (not_holds_drain s r .superseded false hone)
  simp only [takeOffer, hbefore, hafter]

variable (hother : ∀ k, ¬ Holds s .accepted source (tag ^^^ 8) k)
include hother

theorem takeOffer_again (h : Holds s .accepted source tag r) (hlow : ∀ k < r, ¬ Holds s .accepted source tag k) :
    takeOffer source tag s = acceptPosted r source tag s := by
  have ⟨_, hsource, htag⟩ := h
  simp only [takeOffer, rxFind_none hother, rxFind_lowest h hlow]
  exact postAccept_eq hsource htag

variable (hnew : ∀ k, ¬ Holds s .accepted source tag k)
include hnew

theorem takeOffer_draining (h : ∃ k, Holds s .draining source tag k) :
    takeOffer source tag s = decline source tag .noRoom s := by
  simp only [takeOffer, rxFind_none hother, rxFind_none hnew, rxFind_isSome h, if_true]

variable (hdrained : ∀ k, ¬ Holds s .draining source tag k)
include hdrained

theorem takeOffer_notListed (h : ¬ ((cfg s).accept = [] ∨ source ∈ (cfg s).accept)) :
    takeOffer source tag s = decline source tag .notListed s := by
  have hout := (leftOut_iff s source).mpr h
  simp only [takeOffer, rxFind_none hother, rxFind_none hnew, rxFind_none hdrained, hout, Option.isSome_none,
    Bool.false_eq_true, if_false, if_true]

section Listed

variable (hlisted : (cfg s).accept = [] ∨ source ∈ (cfg s).accept)
include hlisted

/-- A listed OFFER of no record with its source and tag takes the lowest VACANT record. -/
theorem takeOffer_taken (h : (rxAt s r).state = .vacant) (hlow : ∀ k < r, (rxAt s k).state ≠ .vacant) :
    takeOffer source tag s = acceptOffer r source tag s := by
  have hin := Bool.eq_false_iff.mpr fun hout => (leftOut_iff s source).mp hout hlisted
  simp only [takeOffer, rxFind_none hother, rxFind_none hnew, rxFind_none hdrained, hin, vacantRx_lowest h hlow,
    Option.isSome_none, Bool.false_eq_true, if_false]

theorem takeOffer_full (h : ∀ k, (rxAt s k).state ≠ .vacant) :
    takeOffer source tag s = decline source tag .noRoom s := by
  have hin := Bool.eq_false_iff.mpr fun hout => (leftOut_iff s source).mp hout hlisted
  simp only [takeOffer, rxFind_none hother, rxFind_none hnew, rxFind_none hdrained, hin, vacantRx_none h,
    Option.isSome_none, Bool.false_eq_true, if_false]

end Listed

end Offer

/-- An OFFER accepted into a record (R107, step 6): the ACCEPT, TRUNK_ARRIVED, and the strays without the trunk's. -/
theorem acceptOffer_eq (r : RecIx) (source : StationId) (tag : Tag) (s : State) :
    let s1 := acceptPosted r source tag (s.modRx r (RxRec.accept source tag (cfg s).tallyPeriod))
    acceptOffer r source tag s = { s1 with
      port := (s1.port.post (.trunkArrived r source tag)).1
      rx := { s1.rx with strays := s1.rx.strays.filter (fun y => ¬ (y.owner = source ∧ y.tag = tag)) } } := by
  have hrec := rxAt_modRx_same s r (RxRec.accept source tag (cfg s).tallyPeriod)
  have hkeep : (fun y : Stray => !(y.owner == source && y.tag == tag)) =
      fun y => decide (¬ (y.owner = source ∧ y.tag = tag)) := by
    funext y
    simp [beq_eq_decide]
  have haccept := postAccept_eq (source := source) (tag := tag) (congrArg RxRec.source hrec) (congrArg RxRec.tag hrec)
  simp only [acceptOffer, haccept, hkeep, report]

/-- What the receive engine does with an OFFER to this station. -/
theorem rxNotice_offer (source : StationId) (tag : Tag) (n : BitVec 4) (s : State) :
    rxNotice source (ownId s) (.offer tag n) s = takeOffer source tag s := if_neg (not_not.mpr rfl)

theorem ownId_drain (r : RecIx) (reason : GoneReason) (keepEntry : Bool) (s : State) :
    ownId (drain r reason keepEntry s) = ownId s :=
  congrArg (fun o => (o.fixed.loader.record.getD noRecord).id) (outside_drain r reason keepEntry s)

/-- Settles O24: the entry a request takes and the expiry of one, then the six steps of an OFFER. -/
theorem declineEntries_holds : Obligations.DeclineEntries := by
  refine ⟨fun dest body d s => ⟨fun hsame hlow => requestDecline_placed (declineSlot_same hsame hlow),
    fun hnone hempty hlow => requestDecline_placed (declineSlot_empty hnone hempty hlow),
    fun hnone hfull => requestDecline_refused (declineSlot_full hnone hfull),
    fun hreset hrun e he => ⟨exec_declineEntryExpiry_expired hreset hrun he, fun hage => ?_⟩,
    fun hreset hidle => ?_⟩, fun source dest tag n s => ?_⟩
  · exact exec_declineEntryExpiry_not_expired hreset (.inr fun x hx => by rwa [← Option.some.inj (he.symm.trans hx)])
  · exact exec_declineEntryExpiry_not_expired hreset (hidle.imp_right fun hnone e he => by simp [hnone] at he)
  · intro offered declined listed
    have hoffered : offered s = takeOffer source tag s := rxNotice_offer source tag n s
    simp only [hoffered]
    refine ⟨fun hother => if_pos hother, fun r hr hone => ?_, fun hother => ⟨fun r => takeOffer_again hother,
      fun hnew => ⟨takeOffer_draining hother hnew, fun hdrained => ⟨takeOffer_notListed hother hnew hdrained,
        fun hlisted => takeOffer_full hother hnew hdrained hlisted, fun hlisted r hr hlow => ?_⟩⟩⟩⟩
    · rw [takeOffer_supersedes hr hone, ← rxNotice_offer source tag n, ownId_drain]
    · exact (takeOffer_taken hother hnew hdrained hlisted hr hlow).trans (acceptOffer_eq r source tag s)

end Sys2Proof.Machine
end


section
/-! SUPPORT. What releases and new member lists come to (R65, R73, R82): the slot records after a number of releases,
and the record and the slots of a trunk whose members have changed. -/

namespace Sys2Proof.Machine

/-! ### Changes of a transmit record -/

theorem txAt_modTx_of_ne (s : State) {t k : RecIx} (h : k ≠ t) (f : TxRec → TxRec) :
    txAt (s.modTx t f) k = txAt s k := vget_vmod_of_ne _ h _

/-! ### Releases (R65) -/

theorem cyclesUnderWay_eq (s : State) (a : SlotAddr) : cyclesUnderWay s a = slotCycles s a := by
  unfold cyclesUnderWay slotCycles
  cases (laneAt s (laneOf a)).expNum with
  | none => rfl
  | some e =>
    by_cases hfirst : (slotIx a).val = 0
    · simp [hfirst]
    · simp [hfirst]

/-- What a trunk's staging lists for a slot, entry by entry. -/
theorem stagedFor_eq (r : TxRec) (a : SlotAddr) : stagedFor r a = r.staging.toList.flatMap (fun x => match x with
    | some e => if e.stale then [] else ((e.slots.find? (fun y => y.slot == a)).map (fun y => (e.cycle, y))).toList
    | none => []) := by
  unfold stagedFor
  rw [List.filterMap_eq_flatMap_toList]
  refine congrArg (fun f => r.staging.toList.flatMap f) (funext fun x => ?_)
  cases x with
  | none => rfl
  | some e =>
    cases hstale : e.stale <;> simp [StagedCycle.lists, hstale]

/-- The record of a released slot, as the statements give it. -/
theorem released_eq (s : State) (a : SlotAddr) :
    { (slotAt s a).barred with began := mayHaveBegun s a, underWay := cyclesUnderWay s a } = released s a := by
  have hbegan : mayHaveBegun s a = (released s a).began := by
    unfold mayHaveBegun released slotAt
    cases (vget s.slots.recs a).assign with
    | member t seq => exact congrArg ((vget s.slots.recs a).began ++ ·) (stagedFor_eq (txAt s t) a)
    | spare t => exact (List.append_nil _).symm
    | none => exact (List.append_nil _).symm
  rw [hbegan, cyclesUnderWay_eq]
  rfl

/-- A release leaves the slot BARRED: a second one finds nothing to release. -/
theorem released_state (s : State) (a : SlotAddr) : (released s a).state = .barred := rfl

/-- What a release makes of a slot depends on its own record, on its trunk's staging and on its lane. -/
theorem released_congr {s u : State} {a : SlotAddr} (htx : u.tx = s.tx) (hlanes : u.lanes = s.lanes)
    (h : slotAt u a = slotAt s a) : released u a = released s a := by
  simp only [released, slotCycles, laneAt, txAt, h, htx, hlanes]

section Releases

variable {s u w : State} {l l' : List SlotAddr}

theorem releases_eta (h : Releases l s u) : u = { s with slots := { s.slots with recs := u.slots.recs } } := h.1

theorem releases_slotAt (h : Releases l s u) (a : SlotAddr) :
    slotAt u a = if a ∈ l ∧ (slotAt s a).state = .mine then released s a else slotAt s a := h.2 a

theorem releases_tx (h : Releases l s u) : u.tx = s.tx := by rw [releases_eta h]

theorem releases_txAt (h : Releases l s u) (t : RecIx) : txAt u t = txAt s t := by
  rw [txAt, releases_tx h, txAt]

theorem releases_lanes (h : Releases l s u) : u.lanes = s.lanes := by rw [releases_eta h]

theorem releases_nil (s : State) : Releases [] s s := ⟨rfl, fun a => by simp⟩

theorem releases_releaseSlot (a : SlotAddr) (s : State) : Releases [a] s (releaseSlot a s) := by
  refine ⟨rfl, fun b => ?_⟩
  rw [slotAt_releaseSlot, released_eq]
  by_cases h : b = a
  · subst h; simp
  · simp [h]

/-- Releases one after another: a slot listed twice is released at the first. -/
theorem releases_trans (h : Releases l s u) (h' : Releases l' u w) : Releases (l ++ l') s w := by
  refine ⟨by rw [releases_eta h', releases_eta h], fun a => ?_⟩
  have hkept := released_congr (a := a) (releases_tx h) (releases_lanes h)
  rw [releases_slotAt h] at hkept
  rw [releases_slotAt h', releases_slotAt h]
  by_cases hmine : (slotAt s a).state = .mine
  · by_cases hl : a ∈ l
    · simp [hl, hmine, released_state]
    · simp only [hl, false_and, if_false] at hkept
      simp [hl, hmine, hkept]
  · simp [hmine]

theorem releases_foldl (l : List SlotAddr) (s : State) : Releases l s (l.foldl (fun x a => releaseSlot a x) s) := by
  induction l generalizing s with
  | nil => exact releases_nil s
  | cons a l ih => exact releases_trans (releases_releaseSlot a s) (ih _)

theorem releases_releaseMembers (ms : List Member) (s : State) :
    Releases (ms.map (fun m => m.slot)) s (releaseMembers ms s) := by
  have h := releases_foldl (ms.map (fun m => m.slot)) s
  rwa [List.foldl_map] at h

end Releases

/-! ### The sequences handed to the slot unit (R73, R82) -/

theorem slotAt_assignSlot (t : RecIx) (seq : Nat) (a b : SlotAddr) (s : State) : slotAt (assignSlot t seq a s) b =
    if b = a ∧ (slotAt s a).state = .mine then { slotAt s a with assign := .member t seq } else slotAt s b := by
  by_cases h : b = a
  · subst h
    simp [assignSlot]
  · simp [assignSlot, slotAt, State.modSlot, vget_vmod_of_ne _ h, h]

/-- A number of assignments to a record's members, each with its sequence. -/
def assignAll (t : RecIx) (l : List (Member × Nat)) (s : State) : State :=
  l.foldl (fun x p => assignSlot t p.2 p.1.slot x) s

section AssignAll

variable (t : RecIx) {l : List (Member × Nat)} (s : State)

theorem assignAll_eta (l : List (Member × Nat)) :
    assignAll t l s = { s with slots := { s.slots with recs := (assignAll t l s).slots.recs } } := by
  induction l generalizing s with
  | nil => rfl
  | cons p l ih => exact (ih (assignSlot t p.2 p.1.slot s)).trans rfl

theorem slotAt_assignAll_of_not_mem {a : SlotAddr} (h : ∀ p ∈ l, p.1.slot ≠ a) :
    slotAt (assignAll t l s) a = slotAt s a := by
  induction l generalizing s with
  | nil => rfl
  | cons p l ih =>
    obtain ⟨hp, hl⟩ := List.forall_mem_cons.mp h
    refine (ih (assignSlot t p.2 p.1.slot s) hl).trans ?_
    rw [slotAt_assignSlot, if_neg (fun hb => hp hb.1.symm)]

theorem slotAt_assignAll_of_mem (hl : (l.map (fun p => p.1.slot)).Nodup) {p : Member × Nat} (hp : p ∈ l) :
    slotAt (assignAll t l s) p.1.slot = if (slotAt s p.1.slot).state = .mine
      then { slotAt s p.1.slot with assign := .member t p.2 } else slotAt s p.1.slot := by
  induction l generalizing s with
  | nil => exact absurd hp List.not_mem_nil
  | cons q l ih =>
    rw [List.map_cons, List.nodup_cons] at hl
    obtain ⟨hq, hl⟩ := hl
    change slotAt (assignAll t l (assignSlot t q.2 q.1.slot s)) p.1.slot = _
    rcases List.mem_cons.mp hp with rfl | hp
    · rw [slotAt_assignAll_of_not_mem t _ (fun x hx hxp => hq (List.mem_map.mpr ⟨x, hx, hxp⟩)), slotAt_assignSlot]
      simp
    · have hne : p.1.slot ≠ q.1.slot := fun h => hq (List.mem_map.mpr ⟨p, hp, h⟩)
      have hkept : slotAt (assignSlot t q.2 q.1.slot s) p.1.slot = slotAt s p.1.slot :=
        (slotAt_assignSlot _ _ _ _ _).trans (if_neg fun hb => hne hb.1)
      rw [ih _ hl hp, hkept]

end AssignAll

theorem syncAssign_eq (t : RecIx) (s : State) : syncAssign t s = assignAll t (txAt s t).members.zipIdx s := rfl

/-! ### A trunk's members change (R73, R82) -/

section Reseated

variable {t : RecIx} {f : TxRec → TxRec} {s u : State}

/-- A change of a record whose sequences are then handed to the slot unit. -/
theorem reseated_syncAssign (t : RecIx) (f : TxRec → TxRec) (s : State) :
    Reseated t f s (syncAssign t (s.modTx t f)) := by
  rw [syncAssign_eq, txAt_modTx_same]
  refine ⟨by rw [assignAll_eta]; rfl, by rw [assignAll_eta]; rfl, fun a ha => ?_, fun hnodup i a hi => ?_⟩
  · exact slotAt_assignAll_of_not_mem t _ fun p hp hslot =>
      ha (List.mem_map.mpr ⟨p.1, List.fst_mem_of_mem_zipIdx hp, hslot⟩)
  · rw [List.getElem?_map, Option.map_eq_some_iff] at hi
    obtain ⟨m, hm, rfl⟩ := hi
    have hslots : (f (txAt s t)).members.zipIdx.map (fun p => p.1.slot) =
        (f (txAt s t)).members.map (fun m => m.slot) := by
      conv_rhs => rw [← List.zipIdx_map_fst 0 (f (txAt s t)).members, List.map_map]
      rfl
    exact slotAt_assignAll_of_mem t (s.modTx t f) (hslots ▸ hnodup) (p := (m, i))
      (List.mk_mem_zipIdx_iff_getElem?.mpr hm)

theorem reseated_txAt_same (h : Reseated t f s u) : txAt u t = f (txAt s t) := by
  rw [txAt, h.1, vget_vset_same]

theorem reseated_txAt_of_ne (h : Reseated t f s u) {k : RecIx} (hk : k ≠ t) : txAt u k = txAt s k := by
  rw [txAt, h.1, vget_vset_of_ne _ hk, txAt]

/-- A later change of the record that keeps its members. -/
theorem reseated_modTx (h : Reseated t f s u) (g : TxRec → TxRec) (hg : (g (f (txAt s t))).members =
    (f (txAt s t)).members) : Reseated t (fun r => g (f r)) s (u.modTx t g) := by
  obtain ⟨htx, heta, hslots⟩ := id h
  refine ⟨?_, ?_, ?_⟩
  · rw [State.modTx_tx, htx, vmod, vget_vset_same, vset_vset]
  · rw [State.modTx, heta]
  · rwa [hg]

/-- What the new record comes to is all that is said of it. -/
theorem reseated_congr {g : TxRec → TxRec} (h : Reseated t f s u) (hg : f (txAt s t) = g (txAt s t)) :
    Reseated t g s u := by
  unfold Reseated at *
  rwa [← hg]

theorem reseated_setMembers (t : RecIx) (ms : List Member) (s : State) :
    Reseated t (fun r => { r with members := ms }) s (setMembers t ms s) := reseated_syncAssign t _ s

theorem reseated_editMembers (t : RecIx) (ms : List Member) (s : State) :
    Reseated t (edited ms) s (editMembers t ms s) := reseated_syncAssign t _ s

theorem txAt_setMembers (t : RecIx) (ms : List Member) (s : State) :
    txAt (setMembers t ms s) t = { txAt s t with members := ms } := reseated_txAt_same (reseated_setMembers t ms s)

theorem txAt_editMembers (t : RecIx) (ms : List Member) (s : State) :
    txAt (editMembers t ms s) t = edited ms (txAt s t) := reseated_txAt_same (reseated_editMembers t ms s)

/-- New PROBE members, with the deadline of the change (R84, R85). -/
theorem reseated_addProbes (t : RecIx) (slots : List SlotAddr) (s : State) :
    Reseated t (probed slots) s (addProbes t slots s) := by
  have hset := reseated_setMembers t ((txAt s t).members ++ slots.map probeMember) s
  unfold addProbes
  dsimp only
  rw [txAt_setMembers]
  cases hchange : (txAt s t).change with
  | none =>
    refine reseated_congr hset ?_
    simp only [probed, hchange, Option.map_none]
    rfl
  | some c =>
    refine reseated_congr (reseated_modTx hset (fun r => { r with change := _ }) rfl) ?_
    simp only [probed, hchange, Option.map_some]
    rfl

/-- The members a test picks are released and leave the list (R65, R82). -/
theorem dropMembers_releases (t : RecIx) (leaves : Member → Bool) (s : State) : ∃ s1,
    Releases (((txAt s t).members.filter leaves).map (fun m => m.slot)) s s1 ∧
    dropMembers t leaves s = setMembers t ((txAt s t).members.filter (fun m => !leaves m)) s1 :=
  ⟨_, releases_releaseMembers _ s, rfl⟩

theorem txAt_dropMembers (t : RecIx) (leaves : Member → Bool) (s : State) : txAt (dropMembers t leaves s) t =
    { txAt s t with members := (txAt s t).members.filter (fun m => !leaves m) } := by
  obtain ⟨s1, hrel, heq⟩ := dropMembers_releases t leaves s
  rw [heq, txAt_setMembers, releases_txAt hrel]

end Reseated

end Sys2Proof.Machine
end


section
/-! SUPPORT. A claim left undriven (R66), and the end of a bar (R65). -/

namespace Sys2Proof.Machine

theorem exec_claimCycleNotDriven (a : SlotAddr) (c : CycleNo) (s : State) :
    exec (.claimCycleNotDriven a c) s = execClaimCycleNotDriven a c s := rfl

theorem exec_barCountdownExpiry (a : SlotAddr) (s : State) :
    exec (.barCountdownExpiry a) s = execBarCountdownExpiry a s := rfl

/-- Where the bar ends (R65): at the owner that has been heard, if any. -/
theorem judgeBar_eq (r : SlotRec) : r.judgeBar = { r with state := if r.owner.isSome then .theirs else .free } := by
  unfold SlotRec.judgeBar
  cases r.owner <;> rfl

section Steps

variable {a : SlotAddr} {c : CycleNo} {s : State} (hreset : s.pins.resetAsserted = false)
include hreset

theorem exec_claimCycleNotDriven_kept (h : ¬ s.Running ∨ (slotAt s a).state ≠ .claiming ∨ ¬ Passing s (laneOf a) c ∨
    drives s (laneOf a) c = true) : exec (.claimCycleNotDriven a c) s = .next (settle s) := by
  rw [exec_claimCycleNotDriven, execClaimCycleNotDriven, run_of_released hreset, if_neg]
  rw [running_iff, ofLane_iff]
  rintro ⟨hrun, hclaim, hpass, hdrives⟩
  rcases h with h | h | h | h
  · exact h hrun
  · exact h hclaim
  · exact h hpass
  · exact Bool.false_ne_true (hdrives.symm.trans h)

theorem exec_claimCycleNotDriven_abandoned (hrun : s.Running) (hclaim : (slotAt s a).state = .claiming)
    (hpass : Passing s (laneOf a) c) (hdrives : drives s (laneOf a) c = false) :
    exec (.claimCycleNotDriven a c) s =
      .next (settle (lookIf (claimInService s a) (abandonClaim a SlotRec.barred s))) := by
  rw [exec_claimCycleNotDriven, execClaimCycleNotDriven, run_of_released hreset,
    if_pos ⟨(running_iff s).mpr hrun, hclaim, (ofLane_iff s _ c).mpr hpass, hdrives⟩]

theorem exec_barCountdownExpiry_kept (h : ¬ s.Running ∨ (slotAt s a).state ≠ .barred ∨ (slotAt s a).bar ≠ 0) :
    exec (.barCountdownExpiry a) s = .next (settle s) := by
  rw [exec_barCountdownExpiry, execBarCountdownExpiry, run_of_released hreset, if_neg]
  rw [running_iff]
  tauto

theorem exec_barCountdownExpiry_ended (hrun : s.Running) (hstate : (slotAt s a).state = .barred)
    (hbar : (slotAt s a).bar = 0) :
    exec (.barCountdownExpiry a) s = .next (settle (s.modSlot a SlotRec.judgeBar)) := by
  rw [exec_barCountdownExpiry, execBarCountdownExpiry, run_of_released hreset,
    if_pos ⟨(running_iff s).mpr hrun, hstate, hbar⟩]

end Steps

/-- Settles O31: the undriven claim, then the end of the bar, each with the steps that have no effect. -/
theorem claimNotDrivenBarsTheSlotAndTheBarEnds : Obligations.ClaimNotDrivenBarsTheSlotAndTheBarEnds :=
  ⟨fun _ _ _ hreset => ⟨exec_claimCycleNotDriven_kept hreset, exec_claimCycleNotDriven_abandoned hreset⟩,
    fun a s hreset => ⟨exec_barCountdownExpiry_kept hreset, fun hrun hstate hbar => by
      rw [exec_barCountdownExpiry_ended hreset hrun hstate hbar, funext judgeBar_eq]⟩⟩

end Sys2Proof.Machine
end


section
/-! SUPPORT. The arbiter's preference (R69, R70): the trunk's lanes, the skew with a slot added, and the first slot of
the least preference. -/

namespace Sys2Proof.Machine

/-! ### The trunk's lanes and its skew (R69) -/

theorem mem_trunkLanes (s : State) (q : ClaimReq) (l : LaneNo) : l ∈ trunkLanes s q ↔
    ∃ a, laneOf a = l ∧ ((∃ m ∈ (txAt s q.tx).members, m.slot = a) ∨ a ∈ q.won ∨ a ∈ q.running) := by
  simp only [trunkLanes, List.mem_map, List.mem_append, or_assoc]
  exact exists_congr fun a => and_comm

theorem mem_lagsOf (s : State) (ls : List LaneNo) (x : Int) :
    x ∈ lagsOf s ls ↔ ∃ l ∈ ls, (laneAt s l).lag = some x := List.mem_filterMap

/-- The spread of a list is the difference of its bounds. -/
theorem spread_eq {xs : List Int} {low high : Int} (hlow : low ∈ xs) (hhigh : high ∈ xs)
    (hbounds : ∀ x ∈ xs, low ≤ x ∧ x ≤ high) : spread xs = (high - low).toNat := by
  cases xs with
  | nil => exact absurd hlow List.not_mem_nil
  | cons x xs =>
    have hmax := List.max?_eq_some_iff.mpr ⟨hhigh, fun y hy => (hbounds y hy).2⟩
    have hmin := List.min?_eq_some_iff.mpr ⟨hlow, fun y hy => (hbounds y hy).1⟩
    rw [List.max?_cons', Option.some.injEq] at hmax
    rw [List.min?_cons', Option.some.injEq] at hmin
    rw [spread, hmax, hmin]

section Skew

variable {s : State} {q : ClaimReq} {a : SlotAddr}

theorem mem_skewLags (x : Int) : x ∈ lagsOf s (laneOf a :: trunkLanes s q) ↔
    ∃ l, (l = laneOf a ∨ l ∈ trunkLanes s q) ∧ (laneAt s l).lag = some x := by
  simp only [mem_lagsOf, List.mem_cons]

theorem skewWith_eq {low high : Int}
    (hlow : ∃ l, (l = laneOf a ∨ l ∈ trunkLanes s q) ∧ (laneAt s l).lag = some low)
    (hhigh : ∃ l, (l = laneOf a ∨ l ∈ trunkLanes s q) ∧ (laneAt s l).lag = some high)
    (hbounds : ∀ x, (∃ l, (l = laneOf a ∨ l ∈ trunkLanes s q) ∧ (laneAt s l).lag = some x) → low ≤ x ∧ x ≤ high) :
    skewWith s q a = (high - low).toNat :=
  spread_eq ((mem_skewLags low).mpr hlow) ((mem_skewLags high).mpr hhigh)
    fun x hx => hbounds x ((mem_skewLags x).mp hx)

theorem skewWith_of_no_lag
    (h : ∀ x, ¬ ∃ l, (l = laneOf a ∨ l ∈ trunkLanes s q) ∧ (laneAt s l).lag = some x) : skewWith s q a = 0 := by
  have hnil : lagsOf s (laneOf a :: trunkLanes s q) = [] :=
    List.eq_nil_iff_forall_not_mem.mpr fun x hx => h x ((mem_skewLags x).mp hx)
  rw [skewWith, hnil, spread]

end Skew

/-! ### Eligibility and preference (R69, R70) -/

theorem eligible_iff (s : State) (q : ClaimReq) (a : SlotAddr) : eligible s q a = true ↔
    (slotAt s a).state = .free ∧ (laneAt s (laneOf a)).state = .locked ∧ 8 ≤ (laneAt s (laneOf a)).lockAge ∧
    (s.timing.role = .following ∨ s.timing.role = .pacing) ∧ skewWith s q a ≤ (cfg s).skewLimit * 16 ∧
    claimingOrMine s < (cfg s).maxOwned := by
  rw [← show skewSlots s = (cfg s).skewLimit * 16 from rfl]
  simp only [eligible, Bool.and_eq_true, beq_iff_eq, isLocked_iff, decide_eq_true_eq, roleDrives_iff, and_assoc]

/-- Of two slots whose skews are within the greatest SKEW_LIMIT, the one on a lane of the trunk is preferred, then the
one of the smaller skew. -/
theorem preference_compare {s : State} {q : ClaimReq} {a b : SlotAddr} (ha : skewWith s q a < 1024)
    (hb : skewWith s q b < 1024) :
    (preference s q a < preference s q b ↔
      (laneOf a ∈ trunkLanes s q ∧ laneOf b ∉ trunkLanes s q) ∨
      ((laneOf a ∈ trunkLanes s q ↔ laneOf b ∈ trunkLanes s q) ∧ skewWith s q a < skewWith s q b)) ∧
    (preference s q a = preference s q b ↔
      (laneOf a ∈ trunkLanes s q ↔ laneOf b ∈ trunkLanes s q) ∧ skewWith s q a = skewWith s q b) := by
  by_cases hla : laneOf a ∈ trunkLanes s q <;> by_cases hlb : laneOf b ∈ trunkLanes s q <;>
    simp [preference, hla, hlb] <;> omega

/-! ### The best slot (R70) -/

section LeastBy

variable {α : Type} (f : α → Nat)

theorem leastBy_eq_none_iff (l : List α) : leastBy f l = none ↔ l = [] := by
  cases l with
  | nil => simp [leastBy]
  | cons a l =>
    unfold leastBy
    cases leastBy f l with
    | none => simp
    | some b => by_cases h : f a ≤ f b <;> simp [h]

/-- In a list in ascending order the first of the least preference is the lowest of the least preference. -/
theorem leastBy_spec [LinearOrder α] {l : List α} (sorted : l.Pairwise (· < ·)) {a : α} (h : leastBy f l = some a) :
    a ∈ l ∧ ∀ b ∈ l, f a < f b ∨ f a = f b ∧ a ≤ b := by
  induction l generalizing a with
  | nil => cases h
  | cons x l ih =>
    obtain ⟨hx, sorted⟩ := List.pairwise_cons.mp sorted
    unfold leastBy at h
    cases hrest : leastBy f l with
    | none =>
      obtain rfl := (leastBy_eq_none_iff f l).mp hrest
      simp only [hrest, Option.some.injEq] at h
      subst h
      simp
    | some y =>
      obtain ⟨hy, hleast⟩ := ih sorted hrest
      simp only [hrest] at h
      by_cases hle : f x ≤ f y
      · rw [if_pos hle, Option.some.injEq] at h
        subst h
        refine ⟨List.mem_cons_self, fun b hb => ?_⟩
        rcases List.mem_cons.mp hb with rfl | hb
        · exact .inr ⟨rfl, le_rfl⟩
        · have hxb := (hx b hb).le
          rcases hleast b hb with hlt | ⟨heq, -⟩
          · exact .inl (hle.trans_lt hlt)
          · rcases (heq ▸ hle).lt_or_eq with hlt | heq
            · exact .inl hlt
            · exact .inr ⟨heq, hxb⟩
      · rw [if_neg hle, Option.some.injEq] at h
        subst h
        refine ⟨List.mem_cons_of_mem _ hy, fun b hb => ?_⟩
        rcases List.mem_cons.mp hb with rfl | hb
        · exact .inl (not_le.mp hle)
        · exact hleast b hb

end LeastBy

section BestSlot

variable {s : State} {q : ClaimReq}

theorem bestSlot_eq_none_iff : bestSlot s q = none ↔ ∀ a, eligible s q a = false := by
  rw [bestSlot, leastBy_eq_none_iff, List.filter_eq_nil_iff]
  exact ⟨fun h a => by simpa using h a (mem_allSlots a), fun h a _ => by simp [h a]⟩

theorem bestSlot_spec {a : SlotAddr} (h : bestSlot s q = some a) : eligible s q a = true ∧
    ∀ b, eligible s q b = true →
      preference s q a < preference s q b ∨ preference s q a = preference s q b ∧ a ≤ b := by
  obtain ⟨ha, hleast⟩ := leastBy_spec (preference s q) (allSlots_sorted.filter _) h
  exact ⟨(List.mem_filter.mp ha).2, fun b hb => hleast b (List.mem_filter.mpr ⟨mem_allSlots b, hb⟩)⟩

end BestSlot

/-- Settles O34: the trunk's lanes, the skew and eligibility by their definitions, then the best slot by its
preference. -/
theorem arbiterPrefersByLaneThenSkewThenAddress : Obligations.ArbiterPrefersByLaneThenSkewThenAddress := by
  intro s q hlimit
  refine ⟨mem_trunkLanes s q, fun a => ⟨fun low high => skewWith_eq, skewWith_of_no_lag⟩, eligible_iff s q,
    bestSlot_eq_none_iff, fun a ha => ?_⟩
  have hskew : ∀ b, eligible s q b = true → skewWith s q b < 1024 := by
    intro b hb
    obtain ⟨-, -, -, -, hwithin, -⟩ := (eligible_iff s q b).mp hb
    omega
  obtain ⟨hel, hbest⟩ := bestSlot_spec ha
  refine ⟨hel, fun b hb => ?_⟩
  obtain ⟨hlt, heq⟩ := preference_compare (hskew a hel) (hskew b hb)
  rcases hbest b hb with h | ⟨h, haddress⟩
  · rcases hlt.mp h with h | ⟨hlane, hless⟩
    · exact .inl h
    · exact .inr ⟨hlane, .inl hless⟩
  · obtain ⟨hlane, hsame⟩ := heq.mp h
    exact .inr ⟨hlane, .inr ⟨hsame, haddress⟩⟩

end Sys2Proof.Machine
end


section
/-! SUPPORT. The end of a claim, late results, and the loss of a MINE slot (R68, R71, R72, R82, R85, R87, R94). -/

namespace Sys2Proof.Machine

/-! ### One entry of a list -/

section OneEntry

variable {α : Type} {before after : List α} {x : α}

/-- A change of one entry alone. -/
theorem map_one_entry {f : α → α} (h : ∀ y ∈ before ++ after, f y = y) :
    (before ++ x :: after).map f = before ++ f x :: after := by
  obtain ⟨hbefore, hafter⟩ := List.forall_mem_append.mp h
  rw [List.map_append, List.map_cons, List.map_congr_left hbefore, List.map_congr_left hafter, List.map_id',
    List.map_id']

/-- A test that one entry alone may fail. -/
theorem filter_one_entry {p : α → Bool} (h : ∀ y ∈ before ++ after, p y = true) :
    (before ++ x :: after).filter p = if p x then before ++ x :: after else before ++ after := by
  obtain ⟨hbefore, hafter⟩ := List.forall_mem_append.mp h
  rw [List.filter_append, List.filter_cons, List.filter_eq_self.mpr hbefore, List.filter_eq_self.mpr hafter]
  split <;> rfl

/-- The first entry to pass a test, where one is known to pass and those before it to fail. -/
theorem find?_first_entry {p : α → Bool} (hx : p x = true) (hbefore : ∀ y ∈ before, p y = false) :
    (before ++ x :: after).find? p = some x :=
  List.find?_eq_some_iff_append.mpr ⟨hx, before, after, rfl, fun y hy => by simp [hbefore y hy]⟩

/-- The same in a list of entries with their places. -/
theorem find?_zipIdx_first {p : α → Bool} (hx : p x = true) (hbefore : ∀ y ∈ before, p y = false) :
    (before ++ x :: after).zipIdx.find? (fun y => p y.1) = some (x, before.length) := by
  rw [List.zipIdx_append, List.zipIdx_cons, Nat.zero_add]
  exact find?_first_entry (x := (x, before.length)) hx
    fun y hy => hbefore y.1 (List.fst_mem_of_mem_zipIdx hy)

end OneEntry

/-! ### The end of a claim (R68, R72) -/

/-- A request once a claim of it has ended (R68): a win joins the won list of a request in service. -/
def claimEnded (a : SlotAddr) (won : Bool) (q : ClaimReq) : ClaimReq :=
  { q with
    running := q.running.erase a
    won := if won = true ∧ q.phase = .inService then q.won ++ [a] else q.won }

/-- The state with another queue of claim requests. -/
def withQueue (queue : List ClaimReq) (s : State) : State := { s with slots := { s.slots with queue := queue } }

section HandEnd

variable {s : State} {a : SlotAddr} {q : ClaimReq} {before after : List ClaimReq}
  (hqueue : s.slots.queue = before ++ q :: after) (hrunning : a ∈ q.running)
  (hothers : ∀ x ∈ before ++ after, a ∉ x.running)
include hqueue hrunning hothers

theorem requestOf_eq : requestOf s a = some q := by
  rw [requestOf, hqueue]
  refine find?_first_entry (by simpa using hrunning) fun y hy => ?_
  simpa using hothers y (List.mem_append_left _ hy)

theorem dropRunning_eq (won : Bool) :
    dropRunning a won s = withQueue (before ++ claimEnded a won q :: after) s := by
  have hmap := map_one_entry (x := q) (f := fun q : ClaimReq => if q.running.contains a then
    { q with running := q.running.erase a
             won := if won && q.phase == .inService then q.won ++ [a] else q.won } else q)
    fun y hy => if_neg (by simpa using hothers y hy)
  rw [dropRunning, State.modSlots, hqueue, hmap, if_pos (by simpa using hrunning), withQueue, claimEnded]
  simp only [Bool.and_eq_true, beq_iff_eq]

/-- ENDED requests without running claims leave the queue; the others had none such. -/
theorem pruneQueue_dropRunning (hkept : ∀ x ∈ before ++ after, x.phase ≠ .ended ∨ x.running ≠ []) (won : Bool) :
    pruneQueue (dropRunning a won s) = withQueue (if q.phase = .ended ∧ q.running.erase a = [] then before ++ after
      else before ++ claimEnded a won q :: after) s := by
  rw [dropRunning_eq hqueue hrunning hothers, pruneQueue, State.modSlots]
  refine congrArg (fun l => withQueue l s) ?_
  refine (filter_one_entry fun y hy => ?_).trans ?_
  · rcases hkept y hy with h | h <;> simp [h]
  · change (if !(q.phase == .ended && (q.running.erase a).isEmpty) then _ else _) = _
    generalize q.running.erase a = rest
    by_cases hphase : q.phase = .ended
    · cases rest <;> simp [hphase]
    · simp [hphase]

end HandEnd

/-! ### Late results (R85) -/

theorem wantsLate_iff (r : TxRec) : wantsLate r = true ↔
    ∃ c, r.change = some c ∧ c.kind = .grow ∧ c.phase = .probe ∧ (probing r).length < c.arg := by
  unfold wantsLate
  cases r.change <;> simp [and_assoc]

/-- A late win is wanted, else released, before it lowers the late claims outstanding. -/
theorem lateResult_win (t : RecIx) (a : SlotAddr) (s : State) : lateResult t (some a) s =
    testProbe t (countLate t (if wantsLate (txAt s t) then addProbes t [a] s else releaseSlot a s)) := rfl

theorem lateResult_loss (t : RecIx) (s : State) : lateResult t none s = testProbe t (countLate t s) := rfl

theorem testProbe_iff (t : RecIx) (s : State) :
    let failed := (∀ m ∈ (txAt s t).members, m.role ≠ .probe) ∧
      ∃ c, (txAt s t).change = some c ∧ c.kind = .grow ∧ c.phase = .probe ∧ c.late = 0
    (failed → testProbe t s = endChange t .probeFailed s) ∧ (¬ failed → testProbe t s = s) := by
  intro failed
  have hprobing : probing (txAt s t) = [] ↔ ∀ m ∈ (txAt s t).members, m.role ≠ .probe := by
    simp [probing, List.filter_eq_nil_iff]
  unfold testProbe
  cases hchange : (txAt s t).change with
  | none => exact ⟨fun ⟨_, c, hc, _⟩ => (nomatch hchange.symm.trans hc), fun _ => rfl⟩
  | some c =>
    have hfailed : failed ↔ c.kind = .grow ∧ c.phase = .probe ∧ c.late = 0 ∧ probing (txAt s t) = [] := by
      simp only [failed, hchange, Option.some.injEq, exists_eq_left', hprobing]
      tauto
    rw [hfailed]
    exact ⟨fun h => if_pos h, fun h => if_neg h⟩

/-! ### The loss of a MINE slot (R71, R94) -/

section MineLost

variable (a : SlotAddr) {old : SlotRec} (newOwner : Option StationId) (s : State)

/-- A slot not yet handed leaves the won list of its request (R71). -/
theorem mineLost_won (h : old.handed = false) : mineLost a old newOwner s =
    withQueue (s.slots.queue.map (fun q => { q with won := q.won.erase a })) s := by
  simp only [mineLost, h, Bool.false_eq_true, if_false]
  rfl

theorem mineLost_member {t : RecIx} {seq : Nat} (h : old.handed = true) (hassign : old.assign = .member t seq) :
    mineLost a old newOwner s = memberLost t a newOwner s := by
  simp only [mineLost, h, hassign, if_true]

theorem mineLost_spare (h : old.handed = true) (hassign : ∀ t seq, old.assign ≠ .member t seq) :
    mineLost a old newOwner s = s := by
  simp only [mineLost, h, if_true]
  cases hold : old.assign with
  | member t seq => exact absurd hold (hassign t seq)
  | spare t | none => rfl

end MineLost

section MemberLost

variable {t : RecIx} {a : SlotAddr} (newOwner : Option StationId) {s : State}

theorem memberLost_stranger (h : ∀ m ∈ (txAt s t).members, m.slot ≠ a) : memberLost t a newOwner s = s := by
  have hnone : (txAt s t).members.zipIdx.find? (fun p => p.1.slot == a) = none :=
    List.find?_eq_none.mpr fun p hp => by simpa using h p.1 (List.fst_mem_of_mem_zipIdx hp)
  simp only [memberLost, hnone]

theorem filter_bne_slot (ms : List Member) (a : SlotAddr) :
    ms.filter (fun m => m.slot != a) = ms.filter (fun x => x.slot ≠ a) := by
  simp only [bne, beq_eq_decide, decide_not]

variable {before after : List Member} {m : Member} (hmembers : (txAt s t).members = before ++ m :: after)
  (hslot : m.slot = a) (hfirst : ∀ x ∈ before, x.slot ≠ a)
include hmembers hslot hfirst

theorem find?_memberLost :
    (txAt s t).members.zipIdx.find? (fun p => p.1.slot == a) = some (m, before.length) := by
  rw [hmembers]
  exact find?_zipIdx_first (p := fun m : Member => m.slot == a) (by simpa using hslot)
    fun x hx => by simpa using hfirst x hx

theorem memberLost_closing (hstate : (txAt s t).state ≠ .opened) :
    memberLost t a newOwner s = setMembers t ((txAt s t).members.filter (fun x => x.slot ≠ a)) s := by
  rw [memberLost, find?_memberLost hmembers hslot hfirst, ← filter_bne_slot]
  exact if_neg hstate

theorem memberLost_opened (hstate : (txAt s t).state = .opened) :
    let s1 := editMembers t ((txAt s t).members.filter (fun x => x.slot ≠ a)) s
    memberLost t a newOwner s = confirmIfEmpty t (testProbe t { s1 with
      port := (s1.port.post (.slotSeized t a before.length m.role newOwner (txAt s1 t).epoch)).1 }) := by
  rw [memberLost, find?_memberLost hmembers hslot hfirst, ← filter_bne_slot]
  exact if_pos hstate

end MemberLost

theorem confirmIfEmpty_kept {t : RecIx} {s : State}
    (h : ∀ c, (txAt s t).change = some c → c.phase ≠ .switchWait ∨ (txAt s t).members ≠ []) :
    confirmIfEmpty t s = s := by
  unfold confirmIfEmpty
  cases hchange : (txAt s t).change with
  | none => rfl
  | some c =>
    refine if_neg ?_
    rcases h c hchange with h | h <;> simp [h]

theorem confirmIfEmpty_confirms {t : RecIx} {s : State} {c : Change} (hchange : (txAt s t).change = some c)
    (hphase : c.phase = .switchWait) (hempty : (txAt s t).members = []) :
    confirmIfEmpty t s = s.modTx t (fun r => { r with
      change := some { c with phase := .confirm, deadline := some 64 } }) := by
  simp only [confirmIfEmpty, hchange, hphase, hempty, and_self, if_true]
  rfl

/-- Settles O32: the end of a claim by the phase of its request, a late result by what it finds, then the members and
the loss of a slot by what it was. -/
theorem endOfAClaimIsHandedToItsRequest : Obligations.EndOfAClaimIsHandedToItsRequest := by
  refine ⟨?_, ?_, testProbe_iff,
    fun t ms slots s => ⟨reseated_setMembers t ms s, reseated_editMembers t ms s, reseated_addProbes t slots s⟩,
    fun a old newOwner s => ⟨mineLost_won a newOwner s, mineLost_spare a newOwner s,
      fun t seq => mineLost_member a newOwner s⟩,
    fun t a newOwner s => ⟨memberLost_stranger newOwner, fun before m after hmembers hslot hfirst =>
      ⟨memberLost_closing newOwner hmembers hslot hfirst, memberLost_opened newOwner hmembers hslot hfirst⟩⟩,
    fun t s => ⟨confirmIfEmpty_kept, fun c => confirmIfEmpty_confirms⟩⟩
  · intro a won q before after s hqueue hrunning hothers hkept q'
    have hq' : claimEnded a won q = q' := rfl
    rw [handEnd, requestOf_eq hqueue hrunning hothers, pruneQueue_dropRunning hqueue hrunning hothers hkept, hq']
    constructor
    · intro hphase
      simp only [hphase, false_and, if_false]
      rfl
    · intro hphase
      simp only [hphase, true_and, if_true]
      rfl
  · intro t win s wanted
    have hwanted : wantsLate (txAt s t) = true ↔ wanted := wantsLate_iff _
    cases win with
    | none => exact ⟨s, fun _ => rfl, nofun, nofun, lateResult_loss t s⟩
    | some a =>
      refine ⟨if wantsLate (txAt s t) then addProbes t [a] s else releaseSlot a s, nofun, ?_, ?_,
        lateResult_win t a s⟩
      · rintro _ ⟨⟩ h
        exact if_pos (hwanted.mpr h)
      · rintro _ ⟨⟩ h
        rw [if_neg (mt hwanted.mp h)]
        exact releases_releaseSlot a s

end Sys2Proof.Machine
end


section
/-! SUPPORT. Claim requests (R67, R68, R71, R84): the end of the wait, what a look does, and a withdrawal. -/

namespace Sys2Proof.Machine

/-! ### The request in service (R68) -/

theorem exec_claimWaitExpiry (s : State) : exec .claimWaitExpiry s = execClaimWaitExpiry s := rfl

section Expiry

variable {s : State} (hreset : s.pins.resetAsserted = false)
include hreset

theorem exec_claimWaitExpiry_kept (h : ¬ s.Running ∨ (∀ q, inService s = some q → q.wait ≠ some 0)) :
    exec .claimWaitExpiry s = .next (settle s) := by
  rw [exec_claimWaitExpiry, execClaimWaitExpiry, run_of_released hreset, if_neg]
  rw [running_iff, Option.any_eq_true]
  rintro ⟨hrun, q, hq, hwait⟩
  rcases h with h | h
  · exact h hrun
  · exact h q hq (by simpa using hwait)

theorem exec_claimWaitExpiry_ended {q : ClaimReq} (hrun : s.Running) (hq : inService s = some q)
    (hwait : q.wait = some 0) : exec .claimWaitExpiry s = .next (settle (look (endService s))) := by
  rw [exec_claimWaitExpiry, execClaimWaitExpiry, run_of_released hreset,
    if_pos ⟨(running_iff s).mpr hrun, by simp [hq, hwait]⟩]

end Expiry

theorem inService_eq_none {s : State} (h : ∀ q ∈ s.slots.queue, q.phase ≠ .inService) : inService s = none :=
  List.find?_eq_none.mpr fun q hq => by simpa using h q hq

section InService

variable {s : State} {before after : List ClaimReq} {q : ClaimReq} (hqueue : s.slots.queue = before ++ q :: after)
  (hphase : q.phase = .inService) (hothers : ∀ x ∈ before ++ after, x.phase ≠ .inService)
include hqueue hphase hothers

theorem inService_eq : inService s = some q := by
  rw [inService, hqueue]
  exact find?_first_entry (by simpa using hphase) fun y hy => by simpa using hothers y (List.mem_append_left _ hy)

/-- Of the queue the request in service alone changes. -/
theorem modService_eq (f : ClaimReq → ClaimReq) : modService f s = withQueue (before ++ f q :: after) s := by
  have hmap := map_one_entry (x := q) (f := fun q : ClaimReq => if q.phase = .inService then f q else q)
    fun y hy => if_neg (hothers y hy)
  rw [modService, State.modSlots, hqueue, hmap, if_pos hphase, withQueue]

end InService

/-! ### The end of a request (R71, R84) -/

theorem slotAt_markHanded (won : List SlotAddr) (s : State) (a : SlotAddr) : slotAt (markHanded won s) a =
    if a ∈ won then { slotAt s a with handed := true } else slotAt s a := by
  induction won generalizing s with
  | nil => rfl
  | cons b won ih =>
    refine (ih (s.modSlot b (fun r => { r with handed := true }))).trans ?_
    by_cases hab : a = b
    · subst hab
      simp
    · have hkept : slotAt (s.modSlot b (fun r => { r with handed := true })) a = slotAt s a := vget_vmod_of_ne _ hab _
      simp [hkept, hab]

theorem markHanded_eta (won : List SlotAddr) (s : State) : markHanded won s =
    { s with slots := { s.slots with recs := (markHanded won s).slots.recs } } := by
  unfold markHanded
  rw [foldl_modSlot]

/-- The request in service has ended, its won slots marked as handed; its result is still to be handed. -/
def serviceEnded (q : ClaimReq) (s : State) : State :=
  pruneQueue (modService (fun q => { q with won := [], wait := none, phase := .ended }) (markHanded q.won s))

theorem endService_eq {s : State} {q : ClaimReq} (h : inService s = some q) :
    endService s = growResult q.tx q.won q.running.length (serviceEnded q s) := by
  simp only [endService, h, serviceEnded]

theorem serviceEnded_eq {s : State} {before after : List ClaimReq} {q : ClaimReq}
    (hqueue : s.slots.queue = before ++ q :: after) (hphase : q.phase = .inService)
    (hothers : ∀ x ∈ before ++ after, x.phase ≠ .inService ∧ (x.phase ≠ .ended ∨ x.running ≠ [])) :
    serviceEnded q s = withQueue (if q.running = [] then before ++ after
      else before ++ { q with won := [], wait := none, phase := .ended } :: after) (markHanded q.won s) := by
  have hqueue' : (markHanded q.won s).slots.queue = before ++ q :: after := by rw [markHanded_eta]; exact hqueue
  rw [serviceEnded, modService_eq hqueue' hphase fun x hx => (hothers x hx).1, pruneQueue, State.modSlots]
  refine congrArg (fun l => withQueue l (markHanded q.won s)) ((filter_one_entry fun y hy => ?_).trans ?_)
  · rcases (hothers y hy).2 with h | h <;> simp [h]
  · by_cases h : q.running = [] <;> simp [h]

section GrowResult

variable {t : RecIx} {won : List SlotAddr} {running : Nat} {s : State} {c : Change}

/-- A result finds no GROW in CLAIM: its slots are released. -/
theorem growResult_stray (h : ∀ c, (txAt s t).change = some c → c.kind ≠ .grow ∨ c.phase ≠ .claim) :
    Releases won s (growResult t won running s) := by
  have hrel : Releases won s (releaseMembers (won.map probeMember) s) := by
    have hslots : (won.map probeMember).map (fun m => m.slot) = won := by
      rw [List.map_map]
      exact List.map_id won
    have hrel := releases_releaseMembers (won.map probeMember) s
    rwa [hslots] at hrel
  unfold growResult
  cases hchange : (txAt s t).change with
  | none => exact hrel
  | some c =>
    have hnot : ¬ (c.kind = .grow ∧ c.phase = .claim) := by
      rintro ⟨hkind, hphase⟩
      exact (h c hchange).elim (fun h => h hkind) (fun h => h hphase)
    simp only [if_neg hnot]
    exact hrel

variable (hchange : (txAt s t).change = some c) (hkind : c.kind = .grow) (hphase : c.phase = .claim)
include hchange hkind hphase

theorem growResult_empty : growResult t [] running s = endChange t .noSlots s := by
  simp only [growResult, hchange, hkind, hphase, and_self, if_true, List.isEmpty_nil]

theorem growResult_won (h : won ≠ []) : growResult t won running s =
    addProbes t won (s.modTx t (fun r => { r with change := some { c with late := running } })) := by
  have hsome : won.isEmpty = false := by simpa using h
  simp only [growResult, hchange, hkind, hphase, hsome, and_self, if_true, Bool.false_eq_true, if_false]
  rfl

end GrowResult

/-! ### A look (R67, R68, R71) -/

/-- The head WAITING request enters service with its wait (R68). -/
theorem enterFirst_eq {before after : List ClaimReq} {q : ClaimReq} (hphase : q.phase = .waiting)
    (hbefore : ∀ x ∈ before, x.phase ≠ .waiting) : enterFirst (before ++ q :: after) =
      before ++ { q with wait := some 24, phase := .inService } :: after := by
  induction before with
  | nil => exact if_pos hphase
  | cons x before ih =>
    obtain ⟨hx, hbefore⟩ := List.forall_mem_cons.mp hbefore
    exact (if_neg hx).trans (congrArg (x :: ·) (ih hbefore))

section Serve

variable {n : Nat} {s : State}

theorem serve_enters {before after : List ClaimReq} {q : ClaimReq} (hqueue : s.slots.queue = before ++ q :: after)
    (hphase : q.phase = .waiting) (hbefore : ∀ x ∈ before, x.phase ≠ .waiting)
    (hothers : ∀ x ∈ before ++ after, x.phase ≠ .inService) : serve (n + 1) s =
      serve n (withQueue (before ++ { q with wait := some 24, phase := .inService } :: after) s) := by
  have hnone : inService s = none := by
    refine inService_eq_none fun x hx => ?_
    rw [hqueue, List.mem_append, List.mem_cons] at hx
    rcases hx with hx | rfl | hx
    · exact hothers x (List.mem_append_left _ hx)
    · simp [hphase]
    · exact hothers x (List.mem_append_right _ hx)
  have hwaiting : s.slots.queue.any (fun q => q.phase == .waiting) = true := by simp [hqueue, hphase]
  simp only [serve, hnone, hwaiting, if_true]
  rw [State.modSlots, hqueue, enterFirst_eq hphase hbefore]
  rfl

theorem serve_idle (h : ∀ q ∈ s.slots.queue, q.phase = .ended) : serve n s = s := by
  cases n with
  | zero => rfl
  | succ n =>
    have hnone : inService s = none := inService_eq_none fun q hq => by simp [h q hq]
    have hwaiting : s.slots.queue.any (fun q => q.phase == .waiting) = false :=
      List.any_eq_false.mpr fun q hq => by simp [h q hq]
    simp only [serve, hnone, hwaiting, Bool.false_eq_true, if_false]

theorem serve_inService {q q' : ClaimReq} (h : inService s = some q) (h' : inService (beginClaims 16 s) = some q') :
    serve (n + 1) s = if serviceDone (beginClaims 16 s) q' then serve n (endService (beginClaims 16 s))
      else beginClaims 16 s := by
  simp only [serve, h, h']

theorem serviceDone_beginClaims (n : Nat) (q : ClaimReq) : serviceDone (beginClaims n s) q = true ↔
    q.count ≤ q.won.length ∨ (s.timing.role = .following ∨ s.timing.role = .pacing) ∧ q.running = [] := by
  have htiming : (beginClaims n s).timing = s.timing := congrArg Outside.timing (outside_beginClaims n s)
  simp [serviceDone, roleDrives_iff, htiming]

end Serve

section BeginClaims

variable {n : Nat} {s : State} {before after : List ClaimReq} {q : ClaimReq}
  (hqueue : s.slots.queue = before ++ q :: after) (hphase : q.phase = .inService)
  (hothers : ∀ x ∈ before ++ after, x.phase ≠ .inService)
include hqueue hphase hothers

theorem beginClaims_none (h : q.count ≤ q.running.length + q.won.length ∨ bestSlot s q = none) :
    beginClaims n s = s := by
  cases n with
  | zero => rfl
  | succ n =>
    simp only [beginClaims, inService_eq hqueue hphase hothers]
    rcases h with h | h
    · rw [if_neg (not_lt.mpr h)]
    · simp [h]

theorem beginClaim_eq (a : SlotAddr) :
    beginClaim a s = claiming a (before ++ { q with running := q.running ++ [a] } :: after) s := by
  rw [beginClaim, modService_eq hqueue hphase hothers, cyclesUnderWay_eq]
  rfl

theorem beginClaims_some {a : SlotAddr} (hwants : q.running.length + q.won.length < q.count)
    (ha : bestSlot s q = some a) : beginClaims (n + 1) s =
      beginClaims n (claiming a (before ++ { q with running := q.running ++ [a] } :: after) s) := by
  simp only [beginClaims, inService_eq hqueue hphase hothers, if_pos hwants, ha,
    beginClaim_eq hqueue hphase hothers]

end BeginClaims

/-! ### A withdrawal (R67) -/

/-- The record of a claim that is stopped (R67): BARRED, the outcome of a cycle under way discarded. -/
def claimStopped (s : State) (a : SlotAddr) : SlotRec :=
  { barred (slotAt s a) with stopped := true, underWay := slotCycles s a }

/-- Running claims stopped one after another: what a slot listed twice becomes, it becomes at the first. -/
theorem slotAt_foldl_stopClaim (l : List SlotAddr) (s : State) (a : SlotAddr) :
    slotAt (l.foldl (fun x a => stopClaim a x) s) a =
      if a ∈ l ∧ (slotAt s a).state = .claiming then claimStopped s a else slotAt s a := by
  induction l generalizing s with
  | nil => simp
  | cons b l ih =>
    refine (ih (stopClaim b s)).trans ?_
    have hstop := slotAt_stopClaim b a s
    rw [cyclesUnderWay_eq] at hstop
    by_cases hclaim : a = b ∧ (slotAt s b).state = .claiming
    · rw [if_pos hclaim] at hstop
      obtain ⟨rfl, hclaim⟩ := hclaim
      have hbarred : (slotAt (stopClaim a s) a).state ≠ .claiming := by
        rw [hstop]
        exact SlotState.noConfusion
      rw [if_neg (fun h => hbarred h.2), if_pos ⟨List.mem_cons_self, hclaim⟩, hstop]
      rfl
    · rw [if_neg hclaim] at hstop
      have hstopped : claimStopped (stopClaim b s) a = claimStopped s a := by rw [claimStopped, hstop]; rfl
      have hmem : a ∈ b :: l ∧ (slotAt s a).state = .claiming ↔ a ∈ l ∧ (slotAt s a).state = .claiming := by
        rw [List.mem_cons]
        constructor
        · rintro ⟨rfl | hl, hs⟩
          · exact absurd ⟨rfl, hs⟩ hclaim
          · exact ⟨hl, hs⟩
        · exact fun ⟨hl, hs⟩ => ⟨.inr hl, hs⟩
      simp only [hstop, hstopped, hmem]

theorem foldl_stopClaim_eta (l : List SlotAddr) (s : State) : l.foldl (fun x a => stopClaim a x) s =
    { s with slots := { s.slots with recs := (l.foldl (fun x a => stopClaim a x) s).slots.recs } } := by
  induction l generalizing s with
  | nil => rfl
  | cons b l ih =>
    rw [List.foldl_cons, ih]
    rfl

/-- The slots of the claims that run for a record's requests. -/
def runningOf (t : RecIx) (s : State) : List SlotAddr :=
  (s.slots.queue.filter (fun q => q.tx == t)).flatMap (fun q => q.running)

/-- The slots won for a record's requests and not yet handed. -/
def wonOf (t : RecIx) (s : State) : List SlotAddr :=
  (s.slots.queue.filter (fun q => q.tx == t)).flatMap (fun q => q.won)

/-- The running claims of a record's requests stopped. -/
def claimsStopped (t : RecIx) (s : State) : State := (runningOf t s).foldl (fun x a => stopClaim a x) s

/-- The requests of a record are gone, their running claims stopped and their won slots released; the arbiter has not
looked yet. -/
def claimsWithdrawn (t : RecIx) (s : State) : State :=
  withQueue (s.slots.queue.filter (fun q => q.tx ≠ t))
    ((wonOf t s).foldl (fun x a => releaseSlot a x) (claimsStopped t s))

section Withdraw

variable (t : RecIx) (s : State)

theorem mem_runningOf (a : SlotAddr) : a ∈ runningOf t s ↔ ∃ q ∈ s.slots.queue, q.tx = t ∧ a ∈ q.running := by
  simp only [runningOf, List.mem_flatMap, List.mem_filter, beq_iff_eq, and_assoc]

theorem mem_wonOf (a : SlotAddr) : a ∈ wonOf t s ↔ ∃ q ∈ s.slots.queue, q.tx = t ∧ a ∈ q.won := by
  simp only [wonOf, List.mem_flatMap, List.mem_filter, beq_iff_eq, and_assoc]

theorem claimsWithdrawn_eta : claimsWithdrawn t s = { s with slots := { s.slots with
    recs := (claimsWithdrawn t s).slots.recs, queue := s.slots.queue.filter (fun q => q.tx ≠ t) } } := by
  have hstop : claimsStopped t s = { s with slots := { s.slots with recs := (claimsStopped t s).slots.recs } } :=
    foldl_stopClaim_eta _ _
  have hrel := releases_eta (releases_foldl (wonOf t s) (claimsStopped t s))
  unfold claimsWithdrawn
  generalize (wonOf t s).foldl (fun x a => releaseSlot a x) (claimsStopped t s) = u at hrel ⊢
  rw [hrel, hstop]
  rfl

theorem slotAt_claimsWithdrawn (a : SlotAddr) : slotAt (claimsWithdrawn t s) a =
    if a ∈ runningOf t s ∧ (slotAt s a).state = .claiming then claimStopped s a
    else if a ∈ wonOf t s ∧ (slotAt s a).state = .mine then released s a
    else slotAt s a := by
  have heta : claimsStopped t s = { s with slots := { s.slots with recs := (claimsStopped t s).slots.recs } } :=
    foldl_stopClaim_eta _ _
  have hstop : slotAt (claimsStopped t s) a = _ := slotAt_foldl_stopClaim (runningOf t s) s a
  refine (releases_slotAt (releases_foldl (wonOf t s) (claimsStopped t s)) a).trans ?_
  by_cases hclaim : a ∈ runningOf t s ∧ (slotAt s a).state = .claiming
  · rw [if_pos hclaim] at hstop
    rw [if_pos hclaim, hstop, if_neg (fun h => SlotState.noConfusion h.2)]
  · rw [if_neg hclaim] at hstop
    rw [if_neg hclaim, hstop, released_congr (by rw [heta]) (by rw [heta]) hstop]

variable {t s}

theorem withdrawClaims_none (h : ∀ q ∈ s.slots.queue, q.tx ≠ t) : withdrawClaims t s = s := by
  have hnil : s.slots.queue.filter (fun q => q.tx == t) = [] :=
    List.filter_eq_nil_iff.mpr fun q hq => by simpa using h q hq
  simp only [withdrawClaims, hnil, List.isEmpty_nil, if_true]

theorem withdrawClaims_some (h : ∃ q ∈ s.slots.queue, q.tx = t) : withdrawClaims t s =
    lookIf ((s.slots.queue.filter (fun q => q.tx == t)).any (fun q => q.phase == .inService))
      (claimsWithdrawn t s) := by
  have hsome : (s.slots.queue.filter (fun q => q.tx == t)).isEmpty = false := by
    obtain ⟨q, hq, ht⟩ := h
    exact List.isEmpty_eq_false_iff_exists_mem.mpr ⟨q, List.mem_filter.mpr ⟨hq, by simpa using ht⟩⟩
  have hrest (u : State) (hu : u.slots.queue = s.slots.queue) :
      u.modSlots (fun v => { v with queue := v.queue.filter (fun q => q.tx != t) }) =
        withQueue (s.slots.queue.filter (fun q => q.tx ≠ t)) u := by
    rw [State.modSlots, hu]
    simp only [bne, beq_eq_decide, decide_not]
    rfl
  unfold withdrawClaims
  simp only [hsome, Bool.false_eq_true, if_false]
  rw [hrest _ (by rw [releases_eta (releases_foldl _ _), foldl_stopClaim_eta])]
  rfl

/-- The arbiter looks where a request of the record was in service. -/
theorem any_inService_iff : (s.slots.queue.filter (fun q => q.tx == t)).any (fun q => q.phase == .inService) = true ↔
    ∃ q ∈ s.slots.queue, q.tx = t ∧ q.phase = .inService := by
  simp only [List.any_eq_true, List.mem_filter, beq_iff_eq, and_assoc]

theorem withdrawClaims_looks (h : ∃ q ∈ s.slots.queue, q.tx = t ∧ q.phase = .inService) :
    withdrawClaims t s = look (claimsWithdrawn t s) := by
  obtain ⟨q, hq, ht, -⟩ := id h
  rw [withdrawClaims_some ⟨q, hq, ht⟩, any_inService_iff.mpr h]
  rfl

theorem withdrawClaims_quiet (hsome : ∃ q ∈ s.slots.queue, q.tx = t)
    (h : ∀ q ∈ s.slots.queue, q.tx = t → q.phase ≠ .inService) : withdrawClaims t s = claimsWithdrawn t s := by
  have hno : ¬ ∃ q ∈ s.slots.queue, q.tx = t ∧ q.phase = .inService := fun ⟨q, hq, ht, hphase⟩ => h q hq ht hphase
  rw [withdrawClaims_some hsome, Bool.eq_false_iff.mpr (mt any_inService_iff.mp hno)]
  rfl

end Withdraw

theorem postClaim_refused {t : RecIx} {k : Nat} {s : State} (h : 8 ≤ s.slots.queue.length) :
    postClaim t k s = growResult t [] 0 s := if_pos h

theorem postClaim_joins {t : RecIx} {k : Nat} {s : State} (h : s.slots.queue.length < 8) :
    let s1 := withQueue (s.slots.queue ++
      [{ tx := t, count := k, won := [], running := [], wait := none, phase := .waiting }]) s
    postClaim t k s = if inService s = none then look s1 else s1 := by
  intro s1
  refine (if_neg (not_le.mpr h)).trans ?_
  cases hq : inService s <;> simp [s1, withQueue, State.modSlots]

/-- Settles O33: the end of the wait, the end of the request and its result, the queue, a look by what the queue
holds, and a withdrawal. -/
theorem claimWaitExpiryEndsTheRequest : Obligations.ClaimWaitExpiryEndsTheRequest := by
  refine ⟨fun s hreset => ⟨exec_claimWaitExpiry_kept hreset, fun q => exec_claimWaitExpiry_ended hreset⟩, ?_, ?_, ?_,
    fun _ => rfl, ?_, ?_, ?_⟩
  · intro s before after q hqueue hphase hothers
    have hended := serviceEnded_eq hqueue hphase hothers
    refine ⟨_, endService_eq (inService_eq hqueue hphase fun x hx => (hothers x hx).1), ?_, fun a => ?_, ?_⟩
    · rw [hended, markHanded_eta]
      rfl
    · rw [hended]
      exact slotAt_markHanded q.won s a
    · rw [hended]
      rfl
  · intro t won running s
    refine ⟨fun c hchange hkind hphase => ⟨?_, growResult_won hchange hkind hphase⟩, growResult_stray⟩
    rintro rfl
    exact growResult_empty hchange hkind hphase
  · exact fun t k s => ⟨postClaim_refused, postClaim_joins⟩
  · intro n s
    refine ⟨fun before q after => serve_enters, serve_idle, fun q hq q' hq' => ?_⟩
    rw [serve_inService hq hq']
    exact ⟨fun h => if_pos ((serviceDone_beginClaims 16 q').mpr h),
      fun h => if_neg (mt (serviceDone_beginClaims 16 q').mp h)⟩
  · exact fun n s before after q hqueue hphase hothers => ⟨beginClaims_none hqueue hphase hothers,
      fun a => beginClaims_some hqueue hphase hothers⟩
  · refine fun t s => ⟨withdrawClaims_none, fun hsome =>
      ⟨claimsWithdrawn t s, claimsWithdrawn_eta t s, fun a => ?_, withdrawClaims_looks, withdrawClaims_quiet hsome⟩⟩
    rw [slotAt_claimsWithdrawn]
    simp only [mem_runningOf, mem_wonOf]
    rfl

end Sys2Proof.Machine
end


section
/-! SUPPORT. The end of a change (R84 to R89, R92): the answer to its command, the restores it deferred, the switch of a
GROW, and the deadlines. -/

namespace Sys2Proof.Machine

/-! ### The answer to a record's command (R149, R150) -/

section AnswerTx

variable {t : RecIx} (o : CmdOutcome) (count : Nat) (reason : Byte) {s : State}

theorem answerTx_none (h : ∀ x ∈ s.port.inFlight, x.record ≠ .tx t) :
    answerTx t o count reason s = s.modTx t (fun r => { r with openCmd := none }) := by
  have hnone : s.port.inFlight.find? (fun e => e.record == .tx t) = none :=
    List.find?_eq_none.mpr fun x hx => by simpa using h x hx
  simp only [answerTx, answer, hnone]

theorem answerTx_some {before after : List InFlight} {x : InFlight} (h : s.port.inFlight = before ++ x :: after)
    (hx : x.record = .tx t) (hfirst : ∀ y ∈ before, y.record ≠ .tx t) : answerTx t o count reason s = { s with
      tx := vset s.tx t { txAt s t with openCmd := none }
      port := { s.port with
        inFlight := before ++ after
        responses := s.port.responses ++ [{ code := x.code, tag := x.tag, outcome := o, result :=
          [byteOf t.val, if x.code = 1 then (txAt s t).tag.setWidth 8 else 0xFF, byteOf count, reason] }] } } := by
  have hfind : s.port.inFlight.find? (fun e => e.record == .tx t) = some x := by
    rw [h]
    exact find?_first_entry (by simpa using hx) fun y hy => by simpa using hfirst y hy
  have herase : s.port.inFlight.erase x = before ++ after := by
    rw [h, List.erase_append_right _ fun hmem => hfirst x hmem hx, List.erase_cons_head]
  simp only [answerTx, answer, hfind, herase]
  rfl

/-- Of the record an answer changes the open command tag, and of the rest the port. -/
theorem answerTx_eta : answerTx t o count reason s = { s.modTx t (fun r => { r with openCmd := none }) with
    port := (answerTx t o count reason s).port } := by
  unfold answerTx answer
  cases s.port.inFlight.find? (fun e => e.record == .tx t) <;> rfl

end AnswerTx

/-! ### Deferred restores (R92) -/

/-- A report for each of a number of members, with the epoch as it stands. -/
theorem reportMembers_eq (t : RecIx) (ms : List (Member × Nat)) (rep : SlotAddr → Nat → Epoch → Report) (s : State) :
    reportMembers t ms rep s = { s with
      port := ms.foldl (fun p x => (p.post (rep x.1.slot x.2 (txAt s t).epoch)).1) s.port } := by
  induction ms generalizing s with
  | nil => rfl
  | cons x ms ih => exact ih (report (rep x.1.slot x.2 (txAt s t).epoch) s)

section Restore

variable (t : RecIx) (s : State)

theorem restoreDeferred_none (h : (txAt s t).members.zipIdx.filter (fun p => p.1.ready) = []) :
    restoreDeferred t s = s := by
  simp only [restoreDeferred, h, List.isEmpty_nil, if_true]

theorem restoreDeferred_some (h : (txAt s t).members.zipIdx.filter (fun p => p.1.ready) ≠ []) :
    let back := (txAt s t).members.zipIdx.filter (fun p => p.1.ready)
    let new := (txAt s t).members.map (fun m => if m.ready then m.restored else m)
    ∃ s1, Reseated t (fun r => { edited new r with restores := bumpBy r.restores back.length }) s s1 ∧
      restoreDeferred t s = { s1 with port := back.foldl (fun p x =>
        (p.post (.memberRestored t x.1.slot x.2 (txAt s1 t).epoch)).1) s1.port } := by
  intro back new
  have hback : back.isEmpty = false := List.isEmpty_eq_false_iff.mpr h
  refine ⟨(editMembers t new s).modTx t (fun r => { r with restores := bumpBy r.restores back.length }), ?_, ?_⟩
  · refine reseated_congr (reseated_modTx (reseated_editMembers t new s) _ rfl) ?_
    unfold edited
    split <;> rfl
  · refine (if_neg (by rw [hback]; exact Bool.false_ne_true)).trans ?_
    exact reportMembers_eq t back (fun a seq e => .memberRestored t a seq e) _

end Restore

/-- A counter raised a number of times stops at its top value. -/
theorem toNat_bumpBy {w : Nat} (n : Nat) (c : BitVec w) : (bumpBy c n).toNat = min (2 ^ w - 1) (c.toNat + n) := by
  have hbump (c : BitVec w) : (bump c).toNat = min (2 ^ w - 1) (c.toNat + 1) := by
    have hlt := c.isLt
    unfold bump
    by_cases htop : c = BitVec.allOnes w
    · rw [if_pos htop, htop, BitVec.toNat_allOnes]
      omega
    · have hne : c.toNat ≠ 2 ^ w - 1 := fun h => htop (BitVec.eq_of_toNat_eq (by rw [h, BitVec.toNat_allOnes]))
      have hroom : c.toNat + 1 < 2 ^ w := by omega
      have hnext : (c + 1).toNat = c.toNat + 1 := by
        rw [BitVec.toNat_add, BitVec.ofNat_eq_ofNat, BitVec.toNat_ofNat, Nat.add_mod_mod, Nat.mod_eq_of_lt hroom]
      rw [if_neg htop, hnext]
      omega
  induction n generalizing c with
  | zero =>
    have hlt := c.isLt
    rw [bumpBy]
    omega
  | succ n ih =>
    rw [bumpBy, ih, hbump]
    omega

/-- The end of a change (R84 to R89): its answer, then the restores it deferred. -/
theorem endChange_eq (t : RecIx) (o : CmdOutcome) (s : State) : endChange t o s = restoreDeferred t
    ((answerTx t o (((txAt s t).change.map resultCount).getD 0) 0 s).modTx t (fun r => { r with change := none })) := by
  unfold endChange setChange
  cases (txAt s t).change <;> rfl

/-! ### The switch of a GROW (R86) -/

/-- The good map of the last tally, where it echoed this epoch (R86). -/
def shownGood (r : TxRec) : BitVec 16 :=
  (r.lastTally.bind (fun x => x.info)).elim 0 (fun i => if i.echo = r.epoch then i.good else 0)

theorem goodAt_shownGood (r : TxRec) (seq : Nat) : goodAt (shownGood r) seq =
    r.lastTally.any (fun x => x.info.any (fun i => i.echo == r.epoch && i.good.getMsbD seq)) := by
  unfold goodAt shownGood
  cases r.lastTally with
  | none => simp
  | some x =>
    cases hinfo : x.info with
    | none => simp [hinfo]
    | some i => by_cases hecho : i.echo = r.epoch <;> simp [hinfo, hecho]

theorem probeExpired_eq (t : RecIx) (s : State) : probeExpired t s =
    if (txAt s t).members.zipIdx.any (probeGood (shownGood (txAt s t))) then switchGrow t (shownGood (txAt s t)) s
    else endChange t .probeFailed (dropMembers t (fun m => m.role == .probe) s) := by
  unfold probeExpired shownGood
  dsimp only
  cases (txAt s t).lastTally with
  | none => rfl
  | some x =>
    obtain ⟨age, info⟩ := x
    cases info <;> rfl

section Switch

variable {t : RecIx} {good : BitVec 16} {s : State}

theorem switched_ne_nil {ms : List Member} (h : ∃ p ∈ ms.zipIdx, p.1.role = .probe ∧ goodAt good p.2 = true) :
    switched good ms ≠ [] := by
  obtain ⟨p, hp, -, hgood⟩ := h
  have hstays : p ∈ ms.zipIdx.filter (fun p => p.1.role != .probe || goodAt good p.2) :=
    List.mem_filter.mpr ⟨hp, by simp [hgood]⟩
  exact fun hnil => List.ne_nil_of_mem hstays (List.map_eq_nil_iff.mp hnil)

/-- Those that leave are the probing members not shown good. -/
theorem not_stays_eq (good : BitVec 16) : (fun p : Member × Nat => !(p.1.role != .probe || goodAt good p.2)) =
    fun p => p.1.role == .probe && !goodAt good p.2 := by
  funext p
  simp [bne]

/-- The probing members not shown good. -/
def leavingProbes (good : BitVec 16) (ms : List Member) : List Member :=
  (ms.zipIdx.filter (fun p => p.1.role == .probe && !goodAt good p.2)).map (fun p => p.1)

/-- The layout of a switch, before the change of a record without members enters CONFIRM. -/
def switchedLayout (t : RecIx) (good : BitVec 16) (s : State) : State :=
  (editMembers t (switched good (txAt s t).members) (releaseMembers (leavingProbes good (txAt s t).members) s)).modTx t
    (fun r => { r with change := r.change.map (fun c => { c with
      phase := .switchWait, deadline := none, added := (txAt s t).members.zipIdx.countP (probeGood good) }) })

theorem switchGrow_eq (t : RecIx) (good : BitVec 16) (s : State) :
    switchGrow t good s = confirmIfEmpty t (switchedLayout t good s) := rfl

theorem reseated_switchedLayout (t : RecIx) (good : BitVec 16) (s : State) :
    Reseated t (fun r => { edited (switched good (txAt s t).members) r with change := r.change.map (fun c => { c with
        phase := .switchWait, deadline := none, added := (txAt s t).members.zipIdx.countP (probeGood good) }) })
      (releaseMembers (leavingProbes good (txAt s t).members) s) (switchedLayout t good s) := by
  refine reseated_congr (reseated_modTx (reseated_editMembers t (switched good (txAt s t).members) _) _ rfl) ?_
  unfold edited
  split <;> rfl

theorem members_switchedLayout :
    (txAt (switchedLayout t good s) t).members = switched good (txAt s t).members := by
  rw [reseated_txAt_same (reseated_switchedLayout t good s)]
  unfold edited
  split <;> rfl

/-- A switch with a probing member shown good leaves the record members, so that its change waits for the layout. -/
theorem switchGrow_switched (h : ∃ p ∈ (txAt s t).members.zipIdx, p.1.role = .probe ∧ goodAt good p.2 = true) :
    Switched t (goodAt good) s (switchGrow t good s) := by
  have hmembers : (txAt (switchedLayout t good s) t).members ≠ [] := by
    rw [members_switchedLayout]
    exact switched_ne_nil h
  have hwaits : switchGrow t good s = switchedLayout t good s := by
    rw [switchGrow_eq, confirmIfEmpty_kept fun _ _ => .inr hmembers]
  have hslots : (leavingProbes good (txAt s t).members).map (fun m => m.slot) =
      ((txAt s t).members.zipIdx.filter (fun p => !(p.1.role != .probe || goodAt good p.2))).map
        (fun p => p.1.slot) := by
    rw [leavingProbes, List.map_map, not_stays_eq]
    rfl
  have hrel := releases_releaseMembers (leavingProbes good (txAt s t).members) s
  rw [hslots] at hrel
  unfold Switched
  intro ms stays new
  refine ⟨releaseMembers (leavingProbes good (txAt s t).members) s, hrel, ?_⟩
  rw [hwaits]
  exact reseated_switchedLayout t good s

end Switch

/-! ### The deadlines (R86, R87, R89, R96) -/

theorem exec_probeWaitExpiry (t : RecIx) (s : State) : exec (.probeWaitExpiry t) s = execProbeWaitExpiry t s := rfl

theorem exec_confirmWaitExpiry (t : RecIx) (s : State) :
    exec (.confirmWaitExpiry t) s = execConfirmWaitExpiry t s := rfl

theorem exec_closeWaitExpiry (t : RecIx) (s : State) : exec (.closeWaitExpiry t) s = execCloseWaitExpiry t s := rfl

theorem changeExpired_iff (r : TxRec) (p : ChangePhase) : changeExpired r p = true ↔
    ∃ c, r.change = some c ∧ c.kind ≠ .closeAbort ∧ c.phase = p ∧ c.deadline = some 0 := by
  unfold changeExpired
  cases r.change with
  | none => simp
  | some c =>
    simp only [Option.any_some, Bool.and_eq_true, beq_iff_eq, bne_iff_ne, Option.some.injEq, exists_eq_left']
    tauto

section Deadlines

variable {t : RecIx} {s : State} (hreset : s.pins.resetAsserted = false)
include hreset

theorem exec_probeWaitExpiry_eq : exec (.probeWaitExpiry t) s = .next (settle
    (if running s = true ∧ changeExpired (txAt s t) .probe = true then probeExpired t s else s)) := by
  rw [exec_probeWaitExpiry, execProbeWaitExpiry, run_of_released hreset]

theorem exec_confirmWaitExpiry_eq : exec (.confirmWaitExpiry t) s = .next (settle
    (if running s = true ∧ changeExpired (txAt s t) .confirm = true then finishChange t .unconfirmed s else s)) := by
  rw [exec_confirmWaitExpiry, execConfirmWaitExpiry, run_of_released hreset]

theorem exec_closeWaitExpiry_kept (h : ¬ s.Running ∨ (txAt s t).state ≠ .closing ∨
    (∀ c, (txAt s t).change = some c → c.deadline ≠ some 0)) :
    exec (.closeWaitExpiry t) s = .next (settle s) := by
  rw [exec_closeWaitExpiry, execCloseWaitExpiry, run_of_released hreset, if_neg]
  rw [running_iff, Option.any_eq_true]
  rintro ⟨hrun, hclosing, c, hc, hdeadline⟩
  rcases h with h | h | h
  · exact h hrun
  · exact h hclosing
  · exact h c hc (by simpa using hdeadline)

theorem exec_closeWaitExpiry_ended {c : Change} (hrun : s.Running) (hclosing : (txAt s t).state = .closing)
    (hc : (txAt s t).change = some c) (hdeadline : c.deadline = some 0) :
    exec (.closeWaitExpiry t) s = .next (settle (endClose t s)) := by
  rw [exec_closeWaitExpiry, execCloseWaitExpiry, run_of_released hreset,
    if_pos ⟨(running_iff s).mpr hrun, hclosing, by simp [hc, hdeadline]⟩]

end Deadlines

/-- Settles O37: the deadlines by what has expired, then the end of a change, its answer, its deferred restores and the
members that leave. -/
theorem deadlinesEndTheChange : Obligations.DeadlinesEndTheChange := by
  refine ⟨?_, endChange_eq, fun t o count reason s => ⟨answerTx_none o count reason,
    fun before x after => answerTx_some o count reason⟩,
    fun t s => ⟨restoreDeferred_none t s, restoreDeferred_some t s⟩, fun w n c => toNat_bumpBy n c,
    dropMembers_releases⟩
  intro t s hreset r expired shown
  have hshown : shown = goodAt (shownGood r) := funext fun seq => (goodAt_shownGood r seq).symm
  have hexpired (p : ChangePhase) : changeExpired r p = true ↔ expired p := changeExpired_iff r p
  have hany : r.members.zipIdx.any (probeGood (shownGood r)) = true ↔
      ∃ p ∈ r.members.zipIdx, p.1.role = .probe ∧ shown p.2 = true := by
    rw [hshown, List.any_eq_true]
    simp only [probeGood, Bool.and_eq_true, beq_iff_eq]
  have hidle {p : ChangePhase} (h : ¬ s.Running ∨ ¬ expired p) : ¬ (running s = true ∧ changeExpired r p = true) := by
    rw [hexpired, running_iff]
    exact fun hboth => h.elim (fun h => h hboth.1) (fun h => h hboth.2)
  have hdue {p : ChangePhase} (hrun : s.Running) (h : expired p) : running s = true ∧ changeExpired r p = true :=
    ⟨(running_iff s).mpr hrun, (hexpired p).mpr h⟩
  rw [exec_probeWaitExpiry_eq hreset, exec_confirmWaitExpiry_eq hreset, probeExpired_eq]
  refine ⟨fun h => by rw [if_neg (hidle h)], fun hrun hexp => ?_, fun h => by rw [if_neg (hidle h)],
    fun hrun hexp => by rw [if_pos (hdue hrun hexp)]; rfl, exec_closeWaitExpiry_kept hreset,
    fun c => exec_closeWaitExpiry_ended hreset⟩
  rw [if_pos (hdue hrun hexp)]
  refine ⟨fun hsome => ⟨_, rfl, ?_⟩, fun hnone => ?_⟩
  · rw [if_pos (hany.mpr hsome), hshown]
    exact switchGrow_switched (hshown ▸ hsome)
  · rw [if_neg]
    rw [hany]
    rintro ⟨p, hp, hrole, hgood⟩
    exact Bool.false_ne_true ((hnone p hp hrole).symm.trans hgood)

end Sys2Proof.Machine
end


section
/-! SUPPORT. What the arbiter's look leaves of a transmit record that has no claim request (R67, R68, R84). -/

namespace Sys2Proof.Machine

/-! ### What is done for one record leaves alone of another -/

/-- A transmit record and the queue of claim requests: what an operation on another record leaves alone. -/
def recordAndQueue (t : RecIx) (s : State) : TxRec × List ClaimReq := (txAt s t, s.slots.queue)

section Other

variable {t k : RecIx} (h : t ≠ k) (s : State)

theorem recordAndQueue_releases {l : List SlotAddr} {s u : State} (hrel : Releases l s u) :
    recordAndQueue t u = recordAndQueue t s := by
  rw [recordAndQueue, releases_txAt hrel, releases_eta hrel, recordAndQueue]

include h

theorem recordAndQueue_modTx (f : TxRec → TxRec) : recordAndQueue t (s.modTx k f) = recordAndQueue t s := by
  rw [recordAndQueue, txAt_modTx_of_ne _ h]
  rfl

theorem recordAndQueue_answerTx (o : CmdOutcome) (count : Nat) (reason : Byte) :
    recordAndQueue t (answerTx k o count reason s) = recordAndQueue t s := by
  rw [answerTx_eta]
  exact recordAndQueue_modTx h s _

theorem recordAndQueue_reseated {f : TxRec → TxRec} {s u : State} (hseat : Reseated k f s u) :
    recordAndQueue t u = recordAndQueue t s := by
  obtain ⟨-, heta, -⟩ := id hseat
  rw [recordAndQueue, reseated_txAt_of_ne hseat h, heta, recordAndQueue]

theorem recordAndQueue_restoreDeferred : recordAndQueue t (restoreDeferred k s) = recordAndQueue t s := by
  by_cases hback : (txAt s k).members.zipIdx.filter (fun p => p.1.ready) = []
  · rw [restoreDeferred_none k s hback]
  · obtain ⟨s1, hseat, heq⟩ := restoreDeferred_some k s hback
    rw [heq]
    exact Eq.trans (b := recordAndQueue t s1) rfl (recordAndQueue_reseated h hseat)

theorem recordAndQueue_endChange (o : CmdOutcome) : recordAndQueue t (endChange k o s) = recordAndQueue t s := by
  rw [endChange_eq, recordAndQueue_restoreDeferred h, recordAndQueue_modTx h, recordAndQueue_answerTx h]

theorem recordAndQueue_growResult (won : List SlotAddr) (running : Nat) :
    recordAndQueue t (growResult k won running s) = recordAndQueue t s := by
  by_cases hclaims : ∃ c, (txAt s k).change = some c ∧ c.kind = .grow ∧ c.phase = .claim
  · obtain ⟨c, hchange, hkind, hphase⟩ := hclaims
    by_cases hwon : won = []
    · rw [hwon, growResult_empty hchange hkind hphase, recordAndQueue_endChange h]
    · rw [growResult_won hchange hkind hphase hwon, recordAndQueue_reseated h (reseated_addProbes k won _),
        recordAndQueue_modTx h]
  · exact recordAndQueue_releases (growResult_stray fun c hchange =>
      not_and_or.mp fun ⟨hkind, hphase⟩ => hclaims ⟨c, hchange, hkind, hphase⟩)

end Other

/-! ### A look leaves a record without requests alone -/

/-- No claim request of a record is queued. -/
def NoRequest (t : RecIx) (s : State) : Prop := ∀ q ∈ s.slots.queue, q.tx ≠ t

section Look

variable {t : RecIx} {s : State}

/-- A change of the request in service that keeps its record brings no request of another. -/
theorem noRequest_modService (f : ClaimReq → ClaimReq) (hf : ∀ q, (f q).tx = q.tx) (h : NoRequest t s) :
    NoRequest t (modService f s) := by
  intro q hq
  obtain ⟨q', hq', rfl⟩ := List.mem_map.mp hq
  have hkept : (if q'.phase = .inService then f q' else q').tx = q'.tx := by
    split
    · exact hf q'
    · rfl
  rw [hkept]
  exact h q' hq'

theorem beginClaims_keeps (n : Nat) (h : NoRequest t s) :
    NoRequest t (beginClaims n s) ∧ txAt (beginClaims n s) t = txAt s t := by
  induction n generalizing s with
  | zero => exact ⟨h, rfl⟩
  | succ n ih =>
    unfold beginClaims
    cases inService s with
    | none => exact ⟨h, rfl⟩
    | some q =>
      dsimp only
      split
      · cases bestSlot s q with
        | none => exact ⟨h, rfl⟩
        | some a =>
          obtain ⟨hno, htx⟩ := ih (s := beginClaim a s) (noRequest_modService (s := s) _ (fun _ => rfl) h)
          exact ⟨hno, htx⟩
      · exact ⟨h, rfl⟩

/-- The end of another record's request. -/
theorem endService_keeps (h : NoRequest t s) : NoRequest t (endService s) ∧ txAt (endService s) t = txAt s t := by
  cases hq : inService s with
  | none => simp only [endService, hq]; exact ⟨h, trivial⟩
  | some q =>
    have hne : t ≠ q.tx := fun heq => h q (List.mem_of_find?_eq_some hq) heq.symm
    have hkept := recordAndQueue_growResult hne (serviceEnded q s) q.won q.running.length
    rw [← endService_eq hq, recordAndQueue, recordAndQueue, Prod.mk.injEq] at hkept
    obtain ⟨htx, hqueue⟩ := hkept
    have hmarked : NoRequest t (markHanded q.won s) := by
      rw [markHanded_eta]
      exact h
    have hended : NoRequest t (serviceEnded q s) := fun x hx =>
      noRequest_modService (fun q => { q with won := [], wait := none, phase := .ended }) (fun _ => rfl) hmarked x
        (List.mem_filter.mp hx).1
    refine ⟨fun x hx => hended x (hqueue ▸ hx), htx.trans ?_⟩
    change txAt (markHanded q.won s) t = _
    rw [markHanded_eta]
    rfl

theorem mem_enterFirst {l : List ClaimReq} {q : ClaimReq} (h : q ∈ enterFirst l) : ∃ q' ∈ l, q'.tx = q.tx := by
  induction l with
  | nil => exact absurd h List.not_mem_nil
  | cons x l ih =>
    unfold enterFirst at h
    split at h
    · rcases List.mem_cons.mp h with rfl | h
      · exact ⟨x, List.mem_cons_self, rfl⟩
      · exact ⟨q, List.mem_cons_of_mem _ h, rfl⟩
    · rcases List.mem_cons.mp h with rfl | h
      · exact ⟨q, List.mem_cons_self, rfl⟩
      · obtain ⟨q', hq', htx⟩ := ih h
        exact ⟨q', List.mem_cons_of_mem _ hq', htx⟩

theorem txAt_serve (n : Nat) (h : NoRequest t s) : txAt (serve n s) t = txAt s t := by
  induction n generalizing s with
  | zero => rfl
  | succ n ih =>
    obtain ⟨hbegun, htx⟩ := beginClaims_keeps 16 h
    obtain ⟨hended, htx'⟩ := endService_keeps hbegun
    unfold serve
    cases inService s with
    | some q =>
      dsimp only
      cases inService (beginClaims 16 s) with
      | none => exact htx
      | some q' =>
        dsimp only
        split
        · rw [ih hended, htx', htx]
        · exact htx
    | none =>
      dsimp only
      split
      · refine (ih fun q hq => ?_).trans rfl
        obtain ⟨q', hq', htx⟩ := mem_enterFirst hq
        exact htx ▸ h q' hq'
      · rfl

theorem noRequest_claimsWithdrawn (t : RecIx) (s : State) : NoRequest t (claimsWithdrawn t s) := by
  rw [claimsWithdrawn_eta]
  intro q hq
  simpa using (List.mem_filter.mp hq).2

/-- The withdrawal of a record's requests leaves the record as it is: the arbiter then looks for others. -/
theorem txAt_withdrawClaims (t : RecIx) (s : State) : txAt (withdrawClaims t s) t = txAt s t := by
  have hwithdrawn : txAt (claimsWithdrawn t s) t = txAt s t := by rw [claimsWithdrawn_eta]; rfl
  by_cases hsome : ∃ q ∈ s.slots.queue, q.tx = t
  · rw [withdrawClaims_some hsome]
    unfold lookIf look
    split
    · rw [txAt_serve _ (noRequest_claimsWithdrawn t s), hwithdrawn]
    · exact hwithdrawn
  · rw [withdrawClaims_none fun q hq ht => hsome ⟨q, hq, ht⟩]

end Look

end Sys2Proof.Machine
end


section
/-! SUPPORT. Closing and teardown of a transmit record (R95 to R98): the close and what it holds, its end, a DISMISS,
and the return to VACANT. -/

namespace Sys2Proof.Machine

/-! ### The encoder abandons its parcel (R131) -/

theorem encoderBlocks_eq (e : Encoder) : encoderBlocks e = heldBlocks e := by
  cases e with
  | between | fill given => rfl
  | frame f given crc =>
    change (if min (given - 4) f.len = f.len then 0
      else (f.len + 127) / 128 - min (given - 4) f.len / 128) = if f.len ≤ given - 4 then 0 else _
    by_cases h : f.len ≤ given - 4
    · rw [min_eq_right h, if_pos rfl, if_pos h]
    · have hlt := not_le.mp h
      rw [min_eq_left hlt.le, if_neg hlt.ne, if_neg h]

theorem abandonParcel_eq (t : RecIx) (s : State) : abandonParcel t s = encoderCut t s := by
  rw [abandonParcel, encoderBlocks_eq]
  rfl

theorem txAt_encoderCut (t : RecIx) (s : State) : txAt (encoderCut t s) t = { txAt s t with enc := .between } :=
  vget_vset_same _ _ _

/-! ### A change aborted, and an OFFER (R95, R97) -/

section Abort

variable {t : RecIx} {s : State}

theorem abortChange_none (h : ∀ c, (txAt s t).change = some c → c.kind = .closeAbort) : abortChange t s = s := by
  unfold abortChange
  cases hchange : (txAt s t).change with
  | none => rfl
  | some c => exact if_pos (h c hchange)

theorem abortChange_some {c : Change} (hchange : (txAt s t).change = some c) (hkind : c.kind ≠ .closeAbort) :
    abortChange t s = (answerTx t .aborted (resultCount c) 0
      (dropMembers t (fun m => m.role == .probe || m.role == .leaving) (withdrawClaims t s))).modTx t
        (fun r => { r with change := none }) := by
  simp only [abortChange, hchange, if_neg hkind]
  rfl

theorem txAt_answerTx (o : CmdOutcome) (count : Nat) (reason : Byte) :
    txAt (answerTx t o count reason s) t = { txAt s t with openCmd := none } := by
  rw [answerTx_eta]
  exact txAt_modTx_same _ _ _

/-- An aborted change leaves the members that are neither probing nor leaving. -/
theorem txAt_abortChange {c : Change} (hchange : (txAt s t).change = some c) (hkind : c.kind ≠ .closeAbort) :
    txAt (abortChange t s) t = { txAt s t with
      members := (txAt s t).members.filter (fun m => !(m.role == .probe || m.role == .leaving))
      openCmd := none
      change := none } := by
  rw [abortChange_some hchange hkind, txAt_modTx_same, txAt_answerTx, txAt_dropMembers, txAt_withdrawClaims]

/-- Whatever was pending, an abort keeps the record's tag and sink. -/
theorem abortChange_names : (txAt (abortChange t s) t).tag = (txAt s t).tag ∧
    (txAt (abortChange t s) t).sink = (txAt s t).sink := by
  by_cases h : ∃ c, (txAt s t).change = some c ∧ c.kind ≠ .closeAbort
  · obtain ⟨c, hchange, hkind⟩ := h
    rw [txAt_abortChange hchange hkind]
    exact ⟨rfl, rfl⟩
  · rw [abortChange_none fun c hchange => not_not.mp fun hkind => h ⟨c, hchange, hkind⟩]
    exact ⟨rfl, rfl⟩

/-- An OFFER aborted changes no more of the record than its open command tag. -/
theorem txAt_abortOffer : ∃ cmd, txAt (abortOffer t s) t = { txAt s t with openCmd := cmd } := by
  unfold abortOffer
  split
  · exact ⟨none, txAt_answerTx _ _ _⟩
  · exact ⟨(txAt s t).openCmd, rfl⟩

end Abort

/-! ### A close begins (R95) -/

section Close

variable (t : RecIx) (cmd : Option Byte) (reason : GoneReason) (s : State)

/-- Every member holds, as one layout edit where there is a member (R95). -/
def membersHeld (t : RecIx) (s : State) : State :=
  if (txAt s t).members = [] then s
  else editMembers t ((txAt s t).members.map (fun m => { m with role := .leaving })) s

theorem holdAll_eq : holdAll t s = encoderCut t (membersHeld t s) := by
  unfold holdAll membersHeld
  rw [abandonParcel_eq]
  cases (txAt s t).members <;> rfl

/-- The record of which every member holds. -/
theorem txAt_membersHeld : let r := txAt (membersHeld t s) t
    r.members = (txAt s t).members.map (fun m => { m with role := .leaving }) ∧ r.tag = (txAt s t).tag ∧
      r.sink = (txAt s t).sink := by
  intro r
  have hr : r = txAt (membersHeld t s) t := rfl
  unfold membersHeld at hr
  by_cases hnil : (txAt s t).members = []
  · rw [if_pos hnil] at hr
    rw [hr, hnil]
    exact ⟨rfl, rfl, rfl⟩
  · rw [if_neg hnil, txAt_editMembers] at hr
    rw [hr]
    unfold edited
    split <;> exact ⟨rfl, rfl, rfl⟩

theorem closeTrunk_eq : closeTrunk t cmd reason s =
    let s3 := membersHeld t (abortOffer t (abortChange t s))
    (postNotice (.tx t) ((txAt s3 t).sink.getD nobody) (.close (txAt s3 t).tag) (encoderCut t s3)).modTx t
      (fun r => { r with
        state := .closing
        change := some { kind := .closeAbort, arg := 0, phase := .confirm, deadline := some 32, cmd := cmd
                         late := 0, added := 0, reason := some reason } }) := by
  unfold closeTrunk
  rw [holdAll_eq]
  dsimp only
  rw [txAt_encoderCut]
  rfl

/-- A notice posted is the one its owner entry holds. -/
theorem queued_postNotice (o : OwnerEntry) (dest : StationId) (body : NoticeBody) :
    queued (postNotice o dest body s) o = some { owner := o, dest := dest, body := body, expiry := 0 } := by
  cases hq : queued s o with
  | none =>
    rw [postNotice_empty dest body hq]
    have hnone : s.notice.queue.find? (fun e => e.owner == o) = none := hq
    simp [queued, hnone]
  | some e =>
    by_cases hkind : e.body.kind = body.kind
    · have howner : e.owner = o := by simpa using List.find?_some hq
      have htest : (fun x : QueuedNotice => x.owner == o) ∘ (fun x : QueuedNotice =>
          if x.owner = o then { owner := o, dest := dest, body := body, expiry := 0 } else x) =
          fun x => x.owner == o := by
        funext x
        by_cases hx : x.owner = o <;> simp [hx]
      have hfind : s.notice.queue.find? (fun x => x.owner == o) = some e := hq
      rw [postNotice_replaces dest hq hkind, queued, List.find?_map, htest, hfind, Option.map_some, if_pos howner]
    · have hnone : (s.notice.queue.filter (fun x => x.owner ≠ o)).find? (fun x => x.owner == o) = none :=
        List.find?_eq_none.mpr fun x hx => by simpa using (List.mem_filter.mp hx).2
      rw [postNotice_reinserts dest hq hkind, queued, List.find?_append, hnone]
      simp

theorem postNotice_tx (o : OwnerEntry) (dest : StationId) (body : NoticeBody) :
    (postNotice o dest body s).tx = s.tx := by
  unfold postNotice
  dsimp only
  cases queued s o <;> rfl

/-- A close that has begun holds what the statements say of it. -/
theorem isClosing_closeTrunk : isClosing s (closeTrunk t cmd reason s) t cmd reason := by
  set s1 := abortChange t s with hs1
  set s3 := membersHeld t (abortOffer t s1) with hs3
  obtain ⟨openCmd, hoffer⟩ := txAt_abortOffer (t := t) (s := s1)
  obtain ⟨htag, hsink⟩ := abortChange_names (t := t) (s := s)
  obtain ⟨hmembers, htag', hsink'⟩ := txAt_membersHeld t (abortOffer t s1)
  rw [hoffer] at hmembers htag' hsink'
  have hclose := closeTrunk_eq t cmd reason s
  dsimp only at hclose
  rw [← hs1, ← hs3, show (txAt s3 t).tag = (txAt s t).tag from htag'.trans htag,
    show (txAt s3 t).sink = (txAt s t).sink from hsink'.trans hsink] at hclose
  set posted := postNotice (.tx t) ((txAt s t).sink.getD nobody) (.close (txAt s t).tag) (encoderCut t s3) with hposted
  have hheld : txAt posted t = { txAt s3 t with enc := .between } := by
    rw [txAt, hposted, postNotice_tx]
    exact txAt_encoderCut t s3
  unfold isClosing
  intro ms changing
  rw [hclose, txAt_modTx_same, hheld]
  refine ⟨rfl, rfl, fun hnot => hmembers.trans ?_, fun hchanging => hmembers.trans ?_, rfl,
    _, queued_postNotice _ _ _ _, rfl, rfl⟩
  · rw [hs1, abortChange_none fun c hchange => not_not.mp fun hkind => hnot ⟨c, hchange, hkind⟩]
  · obtain ⟨c, hchange, hkind⟩ := hchanging
    rw [hs1, txAt_abortChange hchange hkind]
    refine congrArg (fun p => (ms.filter p).map (fun m => { m with role := .leaving })) (funext fun m => ?_)
    simp [beq_eq_decide]

end Close

/-! ### A close ends, a teardown, and a DISMISS (R96, R97) -/

theorem endClose_eq {t : RecIx} {c : Change} {s : State} (h : (txAt s t).change = some c) :
    let s1 := returnVacant t (withdraw (.tx t) s)
    let s2 := if c.cmd = none then s1 else answerTx t .done 0 0 s1
    endClose t s = { s2 with port := (s2.port.post (.trunkGone .transmit t (txAt s t).tag
      ((txAt s t).sink.getD nobody) (c.reason.getD .closed))).1 } := by
  simp only [endClose, h]
  cases c.cmd <;> rfl

section TxEnd

variable {t : RecIx} (reason : GoneReason) {s : State}

theorem txEnd_vacant (h : (txAt s t).state = .vacant) : txEnd t reason s = s := by
  simp only [txEnd, h]

theorem txEnd_closing (h : (txAt s t).state = .closing) : txEnd t reason s = endClose t s := by
  simp only [txEnd, h]

/-- A DISMISS or an absence tears a record down that is not CLOSING (R97). -/
theorem txEnd_teardown (h : (txAt s t).state = .offering ∨ (txAt s t).state = .opened) :
    let s1 := abortChange t s
    let s2 := if (txAt s1 t).state = .offering then answerTx t .aborted 0 0 s1 else s1
    let s3 := returnVacant t (withdraw (.tx t) s2)
    txEnd t reason s = { s3 with port := (s3.port.post (.trunkGone .transmit t (txAt s t).tag
      ((txAt s t).sink.getD nobody) reason)).1 } := by
  have hend : txEnd t reason s = teardown t reason s := by
    rcases h with h | h <;> simp only [txEnd, h]
  rw [hend, teardown, txGone, report, abortOffer]

end TxEnd

/-- The record that a notice names (R81) is the one it is dispatched to. -/
theorem txMatch_eq_some_iff (s : State) (sender : StationId) (tag : Tag) (t : RecIx) :
    txMatch s sender tag = some t ↔ NamesTx s sender tag t := by
  rw [txMatch, find?_allRecs]
  simp [NamesTx, and_assoc]

theorem txNotice_dismiss_unnamed {s : State} {sender : StationId} {tag : Tag} (why : DismissReason)
    (h : ∀ t, ¬ NamesTx s sender tag t) : txNotice sender (.dismiss tag why) s = s := by
  have hnone : txMatch s sender tag = none :=
    Option.eq_none_iff_forall_ne_some.mpr fun t ht => h t ((txMatch_eq_some_iff _ _ _ _).mp ht)
  simp only [txNotice, NoticeBody.tag?, Option.bind_some, hnone]

theorem txNotice_dismiss_named {s : State} {sender : StationId} {tag : Tag} {t : RecIx} (why : DismissReason)
    (h : NamesTx s sender tag t) : txNotice sender (.dismiss tag why) s = txEnd t .dismissed s := by
  simp only [txNotice, NoticeBody.tag?, Option.bind_some, (txMatch_eq_some_iff _ _ _ _).mpr h]

/-! ### The return to VACANT (R98, R141) -/

theorem returnVacant_eq (t : RecIx) (s : State) : returnVacant t s =
    (flushTx t (encoderCut t (releaseMembers (txAt (withdrawClaims t s) t).members (withdrawClaims t s)))).modTx t
      vacated := by
  rw [← abandonParcel_eq]
  rfl

/-- The frames queued for a record flushed, and the record back at VACANT. -/
theorem flushTx_vacated (t : RecIx) (s : State) : (flushTx t s).modTx t vacated = { s with
    tx := vset s.tx t (vacated (txAt s t))
    buf := { s.buf with
      txFree := s.buf.txFree + ((vget s.buf.txQueue t).map (fun f => (f.len + 127) / 128)).sum
      txUse := vset s.buf.txUse t (vget s.buf.txUse t - ((vget s.buf.txQueue t).map (fun f => (f.len + 127) / 128)).sum)
      txQueue := vset s.buf.txQueue t []
      flushed := bumpBy s.buf.flushed (vget s.buf.txQueue t).length }
    port := { s.port with parse := match s.port.parse with
      | .data left dest => .data left (if dest = some t then none else dest)
      | p => p } } := by
  have hcancel : s.port.parse.cancel t = match s.port.parse with
      | .data left dest => .data left (if dest = some t then none else dest)
      | p => p := by
    cases s.port.parse <;> rfl
  rw [← hcancel]
  rfl

/-! ### The CLOSE command (R95) -/

/-- A command that the command unit takes once ATTACHED is its own body, on the state with the head gone. -/
theorem command_attached {s : State} {code : Byte} {args : Nat} {e : CmdEntry} {rest : List CmdEntry}
    (h : Takes s code args e rest) (hattached : s.loader.state = .attached) (hargs : argCount code = some args)
    (body : CmdEntry → State → State) : command code false body s = body e (popped s rest) := by
  obtain ⟨-, hrestart, hqueue, -⟩ := id h
  rw [← command_everyState h hargs body]
  have htake : takeable s = some e := by simp [takeable, hrestart, hqueue]
  simp only [command, htake, (attached_iff s).mpr hattached, or_true, if_true]

theorem exec_cmdClose {s : State} {e : CmdEntry} {rest : List CmdEntry} (h : Takes s 5 1 e rest)
    (hattached : s.loader.state = .attached) : exec .cmdClose s =
      .next (settle (cmdClose (e.bytes.getD 1 0) (e.bytes.getD 2 0) (popped s rest))) := by
  obtain ⟨hreset, -, -, hlen, -⟩ := id h
  have htag : e.tag = e.bytes.getD 1 0 := if_neg (by omega)
  rw [show exec .cmdClose s = execCmdClose s from rfl, execCmdClose, run_of_released hreset,
    command_attached h hattached rfl, htag]
  rfl

section CmdClose

variable {tag ix : Byte} {s : State}

theorem cmdClose_badArg (h : 8 ≤ ix.toNat) : cmdClose tag ix s = answered s 5 tag .badArg := by
  simp only [cmdClose, recOf, dif_neg (not_lt.mpr h)]
  rfl

variable {t : RecIx} (hix : t.val = ix.toNat)
include hix

theorem recOf_toNat : recOf ix.toNat = some t := by
  rw [← hix]
  exact dif_pos t.isLt

theorem cmdClose_vacant (h : (txAt s t).state = .vacant) : cmdClose tag ix s = answered s 5 tag .notOpen := by
  simp only [cmdClose, recOf_toNat hix, h]
  rfl

theorem cmdClose_closing (h : (txAt s t).state = .closing) : cmdClose tag ix s = answered s 5 tag .busy := by
  simp only [cmdClose, recOf_toNat hix, h]
  rfl

theorem cmdClose_closes (h : (txAt s t).state = .offering ∨ (txAt s t).state = .opened) : cmdClose tag ix s =
    putInFlight { code := 5, tag := tag, record := .tx t } (closeTrunk t (some tag) .closed s) := by
  rcases h with h | h <;> simp only [cmdClose, recOf_toNat hix, h]

end CmdClose

/-- Settles O42: the command, the close that begins and what it aborts, its end, a teardown, and the return. -/
theorem closeHoldsEveryMember : Obligations.CloseHoldsEveryMember := by
  refine ⟨?_, fun t cmd reason s => ⟨_, _, _, rfl, rfl, rfl, closeTrunk_eq t cmd reason s⟩,
    fun t s => ⟨abortChange_none, fun c => abortChange_some⟩, fun t c s => endClose_eq,
    fun t tag s => txSent_close s t tag,
    fun sender tag why s => ⟨txNotice_dismiss_unnamed why, fun t => txNotice_dismiss_named why⟩,
    fun t reason s => ⟨txEnd_vacant reason, txEnd_closing reason, txEnd_teardown reason⟩, fun t s => ?_⟩
  · intro e rest s htakes hattached tag ix
    have hexec := exec_cmdClose htakes hattached
    refine ⟨fun hbad => by rw [hexec, cmdClose_badArg hbad], fun t hix => ⟨fun h => ?_, fun h => ?_, fun h => ?_⟩⟩
    · rw [hexec, cmdClose_vacant (s := popped s rest) hix h]
    · rw [hexec, cmdClose_closing (s := popped s rest) hix h]
    · obtain ⟨u, hu⟩ : ∃ u, u = closeTrunk t (some tag) .closed (popped s rest) := ⟨_, rfl⟩
      have houtside := outside_closeTrunk t (some tag) .closed (popped s rest)
      have hclosing := isClosing_closeTrunk t (some tag) .closed (popped s rest)
      have hcloses := cmdClose_closes (tag := tag) (s := popped s rest) hix h
      rw [← hu] at houtside hclosing hcloses
      refine ⟨u, hu, ?_, hclosing, congrArg Outside.lanes houtside, congrArg Outside.timing houtside,
        congrArg Outside.roster houtside, congrArg (fun o => o.fixed.loader) houtside⟩
      rw [hexec, hcloses]
      rfl
  · have hreturn := returnVacant_eq t s
    have hreleases := releases_releaseMembers (txAt (withdrawClaims t s) t).members (withdrawClaims t s)
    generalize releaseMembers (txAt (withdrawClaims t s) t).members (withdrawClaims t s) = s2 at hreturn hreleases
    refine ⟨withdrawClaims t s, s2, rfl, hreleases, ?_⟩
    exact hreturn.trans (flushTx_vacated t (encoderCut t s2))

end Sys2Proof.Machine
end

section
/-! SUPPORT. What claims and their results leave of every trunk: its state, and the TRUNK_GONE reports (R67, R68, R71). -/

namespace Sys2Proof.Machine

/-! ### The turns of a service (R68, R71) -/

/-- What each turn of the arbiter keeps, a service keeps. -/
theorem serve_keeps {P : State → Prop} (hbegin : ∀ s, P s → P (beginClaims 16 s)) (hend : ∀ s, P s → P (endService s))
    (henter : ∀ s, P s → P (s.modSlots (fun u => { u with queue := enterFirst u.queue }))) (n : Nat) {s : State}
    (h : P s) : P (serve n s) := by
  induction n generalizing s with
  | zero => exact h
  | succ n ih =>
    unfold serve
    cases inService s with
    | some q =>
      dsimp only
      cases inService (beginClaims 16 s) with
      | none => exact hbegin s h
      | some q' =>
        dsimp only
        split
        · exact ih (hend _ (hbegin s h))
        · exact hbegin s h
    | none =>
      dsimp only
      split
      · exact ih (henter s h)
      · exact h

theorem noRequest_serve {t : RecIx} (n : Nat) {s : State} (h : NoRequest t s) : NoRequest t (serve n s) := by
  refine serve_keeps (P := NoRequest t) (fun s h => (beginClaims_keeps 16 h).1) (fun s h => (endService_keeps h).1)
    (fun s h q hq => ?_) n h
  obtain ⟨q', hq', htx⟩ := mem_enterFirst hq
  exact htx ▸ h q' hq'

/-- A withdrawal leaves no request of the record (R67). -/
theorem noRequest_withdrawClaims (t : RecIx) (s : State) : NoRequest t (withdrawClaims t s) := by
  by_cases hsome : ∃ q ∈ s.slots.queue, q.tx = t
  · rw [withdrawClaims_some hsome]
    unfold lookIf look
    split
    · exact noRequest_serve _ (noRequest_claimsWithdrawn t s)
    · exact noRequest_claimsWithdrawn t s
  · have hno : NoRequest t s := fun q hq ht => hsome ⟨q, hq, ht⟩
    rwa [withdrawClaims_none hno]

/-! ### The standing of the trunks -/

/-- The state of each transmit record, and the TRUNK_GONE reports queued. -/
structure Standing where
  state : RecIx → TxState
  gone : List Report

def State.standing (s : State) : Standing where
  state t := (txAt s t).state
  gone := s.port.reports.filter isGone

theorem filter_isGone_countLost (rs : List Report) : (rs.map Report.countLost).filter isGone = rs.filter isGone := by
  induction rs with
  | nil => rfl
  | cons r rs ih =>
    rw [List.map_cons, List.filter_cons, List.filter_cons, ih]
    cases r <;> rfl

/-- A report posted is not one of a trunk gone, unless it says so. -/
theorem filter_isGone_post {rep : Report} (h : isGone rep = false) (p : Port) :
    (p.post rep).1.reports.filter isGone = p.reports.filter isGone := by
  unfold Port.post
  split
  · simp [h]
  · split
    · exact filter_isGone_countLost _
    · simp [isGone]

section Standing

variable {t : RecIx} {s : State}

theorem standing_modTx {f : TxRec → TxRec} (h : (f (txAt s t)).state = (txAt s t).state) :
    (s.modTx t f).standing = s.standing := by
  refine congrArg (fun x => Standing.mk x _) (funext fun k => ?_)
  by_cases hk : k = t
  · rw [hk, txAt_modTx_same, h]
  · rw [txAt_modTx_of_ne s hk]

theorem standing_report {rep : Report} (h : isGone rep = false) : (report rep s).standing = s.standing :=
  congrArg (Standing.mk _) (filter_isGone_post h s.port)

theorem standing_reseated {f : TxRec → TxRec} {u : State} (h : Reseated t f s u)
    (hf : (f (txAt s t)).state = (txAt s t).state) : u.standing = s.standing := by
  obtain ⟨htx, heta, -⟩ := id h
  have hmod : u.standing = (s.modTx t f).standing := by
    rw [heta, htx]
    rfl
  rw [hmod, standing_modTx hf]

theorem standing_releases {l : List SlotAddr} {u : State} (h : Releases l s u) : u.standing = s.standing := by
  rw [releases_eta h]
  rfl

variable (t s)

theorem standing_answerTx (o : CmdOutcome) (count : Nat) (reason : Byte) :
    (answerTx t o count reason s).standing = s.standing := by
  refine (standing_modTx rfl).trans ?_
  unfold answer
  split <;> rfl

/-- An edit of the layout leaves the state of its record. -/
theorem edited_state (ms : List Member) (r : TxRec) : (edited ms r).state = r.state := by
  unfold edited
  split <;> rfl

theorem standing_reportMembers (ms : List (Member × Nat)) (rep : SlotAddr → Nat → Epoch → Report)
    (h : ∀ a seq e, isGone (rep a seq e) = false) : (reportMembers t ms rep s).standing = s.standing :=
  foldl_keeps State.standing _ (fun _ _ => standing_report (h _ _ _)) ms s

theorem standing_restoreDeferred : (restoreDeferred t s).standing = s.standing := by
  unfold restoreDeferred
  dsimp only
  split
  · rfl
  · rw [standing_reportMembers _ _ _ _ (fun _ _ _ => rfl), standing_modTx (by rfl),
      standing_reseated (reseated_editMembers t _ s) (edited_state _ _)]

theorem standing_endChange (o : CmdOutcome) : (endChange t o s).standing = s.standing := by
  rw [endChange_eq, standing_restoreDeferred, standing_modTx rfl, standing_answerTx]

theorem standing_growResult (won : List SlotAddr) (running : Nat) :
    (growResult t won running s).standing = s.standing := by
  by_cases hclaims : ∃ c, (txAt s t).change = some c ∧ c.kind = .grow ∧ c.phase = .claim
  · obtain ⟨c, hchange, hkind, hphase⟩ := hclaims
    by_cases hwon : won = []
    · rw [hwon, growResult_empty hchange hkind hphase, standing_endChange]
    · rw [growResult_won hchange hkind hphase hwon, standing_reseated (reseated_addProbes t won _) rfl, standing_modTx rfl]
  · exact standing_releases (growResult_stray fun c hchange =>
      not_and_or.mp fun ⟨hkind, hphase⟩ => hclaims ⟨c, hchange, hkind, hphase⟩)

theorem standing_beginClaims (n : Nat) : (beginClaims n s).standing = s.standing := by
  induction n generalizing s with
  | zero => rfl
  | succ n ih =>
    unfold beginClaims
    repeat' split
    · rfl
    · rfl
    · exact ih _
    · rfl

theorem standing_endService : (endService s).standing = s.standing := by
  cases hq : inService s with
  | none => simp only [endService, hq]
  | some q =>
    rw [endService_eq hq, standing_growResult]
    change (markHanded q.won s).standing = s.standing
    rw [markHanded_eta]
    rfl

theorem standing_serve (n : Nat) : (serve n s).standing = s.standing :=
  serve_keeps (P := fun u => u.standing = s.standing) (fun u h => (standing_beginClaims u 16).trans h)
    (fun u h => (standing_endService u).trans h) (fun _ h => h) n rfl

theorem standing_postClaim (k : Nat) : (postClaim t k s).standing = s.standing := by
  unfold postClaim look
  dsimp only
  repeat' split
  · exact standing_growResult t s [] 0
  · rfl
  · exact standing_serve _ _

theorem standing_withdrawClaims : (withdrawClaims t s).standing = s.standing := by
  have hwithdrawn : (claimsWithdrawn t s).standing = s.standing := by
    rw [claimsWithdrawn_eta]
    rfl
  by_cases hsome : ∃ q ∈ s.slots.queue, q.tx = t
  · rw [withdrawClaims_some hsome]
    unfold lookIf look
    split
    · rw [standing_serve, hwithdrawn]
    · exact hwithdrawn
  · rw [withdrawClaims_none fun q hq ht => hsome ⟨q, hq, ht⟩]

end Standing

end Sys2Proof.Machine
end


section
/-! SUPPORT. The offer wait (R80), and what a return to VACANT leaves (R98). -/

namespace Sys2Proof.Machine

/-! ### What a return to VACANT leaves (R98, R141) -/

section ReturnVacant

variable (t : RecIx) (s : State)

theorem txAt_returnVacant : txAt (returnVacant t s) t = vacated (txAt s t) := by
  rw [returnVacant_eq, txAt_modTx_same]
  change vacated (txAt (encoderCut t _) t) = _
  rw [txAt_encoderCut, releases_txAt (releases_releaseMembers _ _), txAt_withdrawClaims]
  rfl

/-- Beyond the withdrawal of its claim requests, a return changes no more of the slot unit than slot records, and of the
port than the frame on client input. -/
theorem returnVacant_leaves : (returnVacant t s).slots.queue = (withdrawClaims t s).slots.queue ∧
    (returnVacant t s).port.responses = (withdrawClaims t s).port.responses ∧
    (returnVacant t s).port.reports = (withdrawClaims t s).port.reports ∧
    vget (returnVacant t s).buf.txQueue t = [] := by
  rw [returnVacant_eq, flushTx_vacated, releases_eta (releases_releaseMembers _ _)]
  exact ⟨rfl, rfl, rfl, vget_vset_same _ _ _⟩

/-- A return to VACANT posts no TRUNK_GONE. -/
theorem filter_isGone_returnVacant :
    (returnVacant t s).port.reports.filter isGone = s.port.reports.filter isGone := by
  obtain ⟨-, -, hreports, -⟩ := returnVacant_leaves t s
  rw [hreports]
  exact congrArg Standing.gone (standing_withdrawClaims t s)

/-- The fields of a record back at VACANT. -/
theorem vacated_fields (r : TxRec) : (vacated r).state = .vacant ∧ (vacated r).tag = r.tag ∧ (vacated r).sink = none ∧
    (vacated r).members = [] ∧ (vacated r).change = none ∧ (vacated r).enc = .between ∧
    ∀ i, vget (vacated r).staging i = none :=
  ⟨rfl, rfl, rfl, rfl, rfl, rfl, fun _ => vget_replicate _ _⟩

end ReturnVacant

/-! ### The offer wait (R80) -/

theorem exec_offerWaitExpiry (t : RecIx) (s : State) : exec (.offerWaitExpiry t) s = execOfferWaitExpiry t s := rfl

theorem txAt_liveTick (t : RecIx) (s : State) : txAt (liveTick s) t = (txAt s t).liveTick := vget_vmap _ _ _

section Offer

variable {t : RecIx} {s : State}

theorem exec_offerWaitExpiry_ended (hreset : s.pins.resetAsserted = false) (hrun : s.Running)
    (hoffering : (txAt s t).state = .offering) (hwait : (txAt s t).offerWait = some 0) :
    exec (.offerWaitExpiry t) s = .next (settle (offerExpired t s)) := by
  rw [exec_offerWaitExpiry, execOfferWaitExpiry, run_of_released hreset,
    if_pos ⟨(running_iff s).mpr hrun, hoffering, hwait⟩]

theorem offerExpired_retries (h : (txAt s t).attempt < 3) : offerExpired t s =
    postNotice (.tx t) ((txAt s t).sink.getD nobody) (.offer (txAt s t).tag (BitVec.ofNat 4 ((txAt s t).attempt + 1)))
      (s.modTx t (fun r => { r with attempt := r.attempt + 1, offerWait := none })) := if_pos h

theorem offerExpired_givesUp (h : 3 ≤ (txAt s t).attempt) :
    offerExpired t s = returnVacant t (answerTx t .noAnswer 0 0 s) := if_neg (not_lt.mpr h)

end Offer

/-- The responses after a return to VACANT, where the record has no claim request (R67). -/
theorem responses_returnVacant_of_noRequest {t : RecIx} {s : State} (h : NoRequest t s) :
    (returnVacant t s).port.responses = s.port.responses := by
  obtain ⟨-, hresponses, -, -⟩ := returnVacant_leaves t s
  rw [hresponses, withdrawClaims_none h]

/-- Settles O36: the wait as it begins and falls, then its end by the attempt; after the third the record is the one a
return leaves, and the responses are those of the answer and of the withdrawal of its claims. -/
theorem offerWaitRetriesOrGivesUp : Obligations.OfferWaitRetriesOrGivesUp := by
  intro t s hreset hrun hoffering
  refine ⟨fun tag n => txSent_offer s t tag n hoffering, fun hnone => ?_, fun n hsome => ?_, fun hended => ?_⟩
  · rw [txAt_liveTick, TxRec.liveTick, hnone, Option.map_none]
  · rw [txAt_liveTick, TxRec.liveTick, hsome, Option.map_some]
  · rw [exec_offerWaitExpiry_ended hreset hrun hoffering hended]
    refine ⟨fun hretry => ?_, fun hlast => ⟨_, rfl, ?_⟩⟩
    · rw [offerExpired_retries (by omega)]
    rw [offerExpired_givesUp hlast.ge]
    set s1 := answerTx t .noAnswer 0 0 s with hs1
    have hrecord : txAt (returnVacant t s1) t = vacated (txAt s t) := by
      rw [txAt_returnVacant, hs1, txAt_answerTx]
      rfl
    obtain ⟨hstate, htag, hsink, hmembers, hchange, henc, hstaging⟩ := vacated_fields (txAt s t)
    obtain ⟨hqueue, hresponses, -, hframes⟩ := returnVacant_leaves t s1
    have hgone : s1.standing = s.standing := standing_answerTx t s .noAnswer 0 0
    have houtside : (returnVacant t s1).outside = s.outside := by
      rw [outside_returnVacant, hs1, outside_answerTx]
    have hrequests : s1.slots.queue = s.slots.queue := by rw [hs1, answerTx_eta]; rfl
    rw [hrecord]
    refine ⟨hstate, htag, hsink, hmembers, hchange, henc, hstaging, hframes, ?_,
      (filter_isGone_returnVacant t s1).trans (congrArg Standing.gone hgone), ?_, ?_,
      congrArg Outside.lanes houtside, congrArg Outside.timing houtside, congrArg Outside.roster houtside,
      congrArg (fun o => o.fixed.loader) houtside⟩
    · rw [hqueue]
      exact noRequest_withdrawClaims t s1
    · intro before x after hflight hx hfirst answer answered
      have hs2 : s1 = answered := answerTx_some .noAnswer 0 0 hflight hx hfirst
      rw [← hs2]
      refine ⟨rfl, hresponses, fun hno => ?_⟩
      rw [responses_returnVacant_of_noRequest (by rwa [NoRequest, hrequests]), hs2]
    · intro hnone
      have hs2 := answerTx_none .noAnswer 0 0 hnone
      rw [← hs1] at hs2
      rw [← hs2]
      refine ⟨rfl, fun hno => ?_⟩
      rw [responses_returnVacant_of_noRequest (by rwa [NoRequest, hrequests]), hs2, State.modTx_port]

end Sys2Proof.Machine
end



section
/-! SUPPORT. A sink that is silent, and one that is lost (R93). -/

namespace Sys2Proof.Machine

theorem exec_sinkSilenceExpiry (t : RecIx) (s : State) : exec (.sinkSilenceExpiry t) s = execSinkSilenceExpiry t s := rfl

theorem exec_sinkLossExpiry (t : RecIx) (s : State) : exec (.sinkLossExpiry t) s = execSinkLossExpiry t s := rfl

theorem tallyAged_iff (r : TxRec) (age : Nat) :
    tallyAged r age = true ↔ r.state = .opened ∧ ∃ x, r.lastTally = some x ∧ age ≤ x.age := by
  simp [tallyAged, Option.any_eq_true]

/-- No age is reached of a record that is not OPEN, or that holds no tally. -/
theorem tallyAged_eq_false {r : TxRec} (h : r.state ≠ .opened ∨ r.lastTally = none) (age : Nat) :
    tallyAged r age = false := by
  rw [Bool.eq_false_iff, Ne, tallyAged_iff]
  rintro ⟨hopen, x, hx, -⟩
  rcases h with h | h
  · exact h hopen
  · exact Option.some_ne_none x (hx.symm.trans h)

/-- The age of an OPEN record's last tally decides. -/
theorem tallyAged_opened {r : TxRec} {x : LastTally} (hopen : r.state = .opened) (hx : r.lastTally = some x)
    (age : Nat) : tallyAged r age = true ↔ age ≤ x.age := by
  simp [tallyAged_iff, hopen, hx]

section Sink

variable {t : RecIx} {s : State} (hreset : s.pins.resetAsserted = false)
include hreset

theorem exec_sinkSilenceExpiry_kept (h : ¬ s.Running ∨ (txAt s t).silent = true ∨
    tallyAged (txAt s t) (8 * (cfg s).tallyPeriod) = false) :
    exec (.sinkSilenceExpiry t) s = .next (settle s) := by
  rw [exec_sinkSilenceExpiry, execSinkSilenceExpiry, run_of_released hreset, if_neg]
  rw [running_iff]
  rintro ⟨hrun, hsilent, haged⟩
  rcases h with h | h | h
  · exact h hrun
  · exact Bool.false_ne_true (hsilent.symm.trans h)
  · exact Bool.false_ne_true (h.symm.trans haged)

theorem exec_sinkSilenceExpiry_silenced (hrun : s.Running) (hsilent : (txAt s t).silent = false)
    (haged : tallyAged (txAt s t) (8 * (cfg s).tallyPeriod) = true) :
    exec (.sinkSilenceExpiry t) s = .next (settle (sinkSilenced t s)) := by
  rw [exec_sinkSilenceExpiry, execSinkSilenceExpiry, run_of_released hreset,
    if_pos ⟨(running_iff s).mpr hrun, hsilent, haged⟩]

theorem exec_sinkLossExpiry_kept (h : ¬ s.Running ∨ tallyAged (txAt s t) 2048 = false) :
    exec (.sinkLossExpiry t) s = .next (settle s) := by
  rw [exec_sinkLossExpiry, execSinkLossExpiry, run_of_released hreset, if_neg]
  rw [running_iff]
  rintro ⟨hrun, haged⟩
  rcases h with h | h
  · exact h hrun
  · exact Bool.false_ne_true (h.symm.trans haged)

theorem exec_sinkLossExpiry_lost (hrun : s.Running) (haged : tallyAged (txAt s t) 2048 = true) :
    exec (.sinkLossExpiry t) s = .next (settle (closeTrunk t none .sinkLost s)) := by
  rw [exec_sinkLossExpiry, execSinkLossExpiry, run_of_released hreset, if_pos ⟨(running_iff s).mpr hrun, haged⟩]

end Sink

theorem sinkSilenced_eq {t : RecIx} {s : State} {x : LastTally} (hx : (txAt s t).lastTally = some x) :
    sinkSilenced t s = { s with
      tx := vset s.tx t { txAt s t with silent := true }
      port := (s.port.post (.sinkSilent t ((txAt s t).sink.getD nobody) x.age)).1 } := by
  refine Eq.trans (b := report (.sinkSilent t ((txAt s t).sink.getD nobody) x.age)
    (s.modTx t (fun r => { r with silent := true }))) ?_ rfl
  simp only [sinkSilenced, hx]

/-- Settles O38: where no age counts, then each threshold by the age of the last tally. -/
theorem sinkSilenceAndLoss : Obligations.SinkSilenceAndLoss := by
  intro t s hreset
  refine ⟨fun h => ?_, fun x hrun hopen hx => ?_⟩
  · have hidle (age : Nat) : ¬ s.Running ∨ tallyAged (txAt s t) age = false :=
      h.imp_right fun h => tallyAged_eq_false h age
    exact ⟨exec_sinkSilenceExpiry_kept hreset ((hidle _).imp_right .inr), exec_sinkLossExpiry_kept hreset (hidle _)⟩
  · have haged := tallyAged_opened hopen hx
    have hyoung {age : Nat} (h : x.age < age) : tallyAged (txAt s t) age = false :=
      Bool.eq_false_iff.mpr fun hage => absurd ((haged age).mp hage) (not_le.mpr h)
    refine ⟨fun h => exec_sinkSilenceExpiry_kept hreset (.inr (h.imp_right hyoung)), fun hsilent hage => ?_,
      fun h => exec_sinkLossExpiry_kept hreset (.inr (hyoung h)), fun hage => ?_⟩
    · rw [exec_sinkSilenceExpiry_silenced hreset hrun hsilent ((haged _).mpr hage), sinkSilenced_eq hx]
    · have hlost := exec_sinkLossExpiry_lost hreset hrun ((haged _).mpr hage)
      have hclosing := isClosing_closeTrunk t none .sinkLost s
      have houtside := outside_closeTrunk t none .sinkLost s
      obtain ⟨u, hu⟩ : ∃ u, u = closeTrunk t none .sinkLost s := ⟨_, rfl⟩
      rw [← hu] at hlost hclosing houtside
      exact ⟨u, hlost, hu, hclosing, congrArg Outside.lanes houtside, congrArg Outside.timing houtside,
        congrArg Outside.roster houtside, congrArg (fun o => o.fixed.loader) houtside⟩

end Sys2Proof.Machine
end


section
/-! SUPPORT. The OPEN command (R78, R79), and an ACCEPT or a DECLINE (R81). -/

namespace Sys2Proof.Machine

/-! ### A command of the transmit engine (R149) -/

section Command

variable {s : State} {code : Byte} {args : Nat} {e : CmdEntry} {rest : List CmdEntry} (h : Takes s code args e rest)
include h

/-- The tag of a command that the command unit takes. -/
theorem tag_of_takes : e.tag = e.bytes.getD 1 0 := by
  obtain ⟨-, -, -, hlen, -⟩ := h
  exact if_neg (by omega)

/-- A step that takes a command once ATTACHED. -/
theorem run_command (hattached : s.loader.state = .attached) (hargs : argCount code = some args)
    (body : CmdEntry → State → State) :
    run (command code false body) s = .next (settle (body e (popped s rest))) := by
  obtain ⟨hreset, -⟩ := id h
  rw [run_of_released hreset, command_attached h hattached hargs]

end Command

/-! ### The OPEN command (R78, R79) -/

theorem exec_cmdOpen {s : State} {e : CmdEntry} {rest : List CmdEntry} (h : Takes s 1 2 e rest)
    (hattached : s.loader.state = .attached) : exec .cmdOpen s =
      .next (settle (cmdOpen (e.bytes.getD 1 0) (e.bytes.getD 2 0) (e.bytes.getD 3 0) (popped s rest))) := by
  rw [show exec .cmdOpen s = execCmdOpen s from rfl, execCmdOpen, run_command h hattached rfl, tag_of_takes h]
  rfl

/-- The arguments of an OPEN pass where the sink is another station and the initial width at most 16. -/
theorem openArgsOk_iff (s : State) (sink width : Byte) : openArgsOk s sink width = true ↔
    ¬ (sink.toNat = 0 ∨ 62 < sink.toNat ∨ sink.toNat = (ownId s).toNat ∨ 16 < width.toNat) := by
  have hown : sink = (ownId s).setWidth 8 ↔ sink.toNat = (ownId s).toNat := by
    rw [← BitVec.toNat_inj, BitVec.toNat_setWidth_of_le (by decide)]
  simp only [openArgsOk, inRange, Bool.and_eq_true, decide_eq_true_eq, bne_iff_ne, ne_eq, hown]
  omega

/-- A sink that is a station is PRESENT as its roster entry says (R57). -/
theorem present_eq (s : State) {sink : Byte} {i : Fin 62} (h : i.val + 1 = sink.toNat) :
    present s (sink.setWidth 6) = (vget s.roster i).present := by
  have hid : (sink.setWidth 6).toNat = sink.toNat := by
    rw [BitVec.toNat_setWidth, Nat.mod_eq_of_lt (by omega)]
  have hix : rosterIx (sink.setWidth 6) = some i := (rosterIx_eq_some _ _).mpr (by rw [hid, h])
  simp only [present, hix]

theorem vacantTx_eq_some (s : State) (t : RecIx) :
    vacantTx s = some t ↔ (txAt s t).state = .vacant ∧ ∀ k < t, (txAt s k).state ≠ .vacant := by
  rw [vacantTx, find?_allRecs]
  simp

theorem vacantTx_eq_none (s : State) : vacantTx s = none ↔ ∀ t, (txAt s t).state ≠ .vacant := by
  rw [vacantTx, List.find?_eq_none]
  simp [mem_allRecs]

section CmdOpen

variable {tag sink width : Byte} {s : State}

theorem cmdOpen_badArg (h : openArgsOk s sink width = false) :
    cmdOpen tag sink width s = answered s 1 tag .badArg := by
  simp only [cmdOpen, h]
  rfl

variable (hargs : openArgsOk s sink width = true)
include hargs

theorem cmdOpen_notPresent (h : present s (sink.setWidth 6) = false) :
    cmdOpen tag sink width s = answered s 1 tag .notPresent := by
  simp only [cmdOpen, hargs, h]
  rfl

variable (hpresent : present s (sink.setWidth 6) = true)
include hpresent

theorem cmdOpen_noRecord (h : vacantTx s = none) : cmdOpen tag sink width s = answered s 1 tag .noRecord := by
  simp only [cmdOpen, hargs, hpresent, h]
  rfl

theorem cmdOpen_takes {t : RecIx} (h : vacantTx s = some t) : cmdOpen tag sink width s =
    putInFlight { code := 1, tag := tag, record := .tx t } (postNotice (.tx t) (sink.setWidth 6)
      (.offer ((txAt s t).tag ^^^ 8) 1) (s.modTx t (TxRec.opening (sink.setWidth 6) width.toNat tag))) := by
  simp only [cmdOpen, hargs, hpresent, h, txAt_modTx_same]
  rfl

end CmdOpen

/-! ### ACCEPT and DECLINE (R81) -/

/-- A notice that names no record has no effect at the transmit engine. -/
theorem txNotice_unnamed {s : State} {sender : StationId} {tag : Tag} {b : NoticeBody} (htag : b.tag? = some tag)
    (h : ∀ t, ¬ NamesTx s sender tag t) : txNotice sender b s = s := by
  have hnone : txMatch s sender tag = none :=
    Option.eq_none_iff_forall_ne_some.mpr fun t ht => h t ((txMatch_eq_some_iff _ _ _ _).mp ht)
  simp only [txNotice, htag, Option.bind_some, hnone]

section Named

variable {s : State} {sender : StationId} {tag : Tag} {t : RecIx}

theorem txNotice_accept (h : NamesTx s sender tag t) :
    txNotice sender (.accept tag) s = if (txAt s t).state = .offering then acceptTrunk t s else s := by
  simp only [txNotice, NoticeBody.tag?, Option.bind_some, (txMatch_eq_some_iff _ _ _ _).mpr h]

theorem txNotice_decline (h : NamesTx s sender tag t) (reason : DeclineReason) :
    txNotice sender (.decline tag reason) s = if (txAt s t).state = .offering then declineTrunk t reason s else s := by
  simp only [txNotice, NoticeBody.tag?, Option.bind_some, (txMatch_eq_some_iff _ _ _ _).mpr h]

theorem txNotice_tally {b : TallyBody} (h : NamesTx s sender b.tag t) :
    txNotice sender (.tally b) s = takeTally t b s := by
  simp only [txNotice, NoticeBody.tag?, Option.bind_some, (txMatch_eq_some_iff _ _ _ _).mpr h]

end Named

theorem withdraw_tx (o : OwnerEntry) (s : State) : (withdraw o s).tx = s.tx := by
  unfold withdraw
  split <;> rfl

section Accept

variable {t : RecIx} {s : State}

/-- The record of a trunk that has opened. -/
theorem txAt_opens : txAt (opens t s) t = { txAt s t with
    state := .opened, epoch := 0, due := false, lastEcho := some 0, offerWait := none
    lastTally := some { age := 0, info := none } } := by
  rw [opens, txAt_modTx_same, txAt, withdraw_tx, txAt]

theorem acceptTrunk_eq (t : RecIx) (s : State) : acceptTrunk t s =
    if (txAt s t).initWidth = 0 then answerTx t .done 0 0 (opens t s)
    else startGrow t (txAt s t).initWidth (txAt s t).openCmd (opens t s) := by
  change (if (txAt (opens t s) t).initWidth = 0 then _ else
    startGrow t (txAt (opens t s) t).initWidth (txAt (opens t s) t).openCmd (opens t s)) = _
  rw [txAt_opens]
  rfl

end Accept

/-- Settles O39: the tests of an OPEN in their order, ACCEPT and DECLINE by the record they name, and the trunk that
opens. -/
theorem openTakesTheLowestVacantRecord : Obligations.OpenTakesTheLowestVacantRecord := by
  refine ⟨?_, fun sender tag reason s => ⟨fun h => ⟨txNotice_unnamed rfl h, txNotice_unnamed rfl h⟩, fun t h => ?_⟩,
    fun t s => ⟨fun h => ?_, fun h => ?_⟩⟩
  · intro e rest s htakes hattached tag sink width bad
    have hargs : openArgsOk (popped s rest) sink (e.bytes.getD 3 0) = true ↔ ¬ bad := openArgsOk_iff _ _ _
    rw [exec_cmdOpen htakes hattached]
    refine ⟨fun hbad => ?_, fun i hgood hi => ?_⟩
    · rw [cmdOpen_badArg (Bool.eq_false_iff.mpr fun hok => hargs.mp hok hbad)]
    have hok := hargs.mpr hgood
    have hpresent := present_eq (popped s rest) hi
    refine ⟨fun habsent => ?_, fun hthere => ⟨fun hnone => ?_, fun t hvacant hlowest => ?_⟩⟩
    · rw [cmdOpen_notPresent hok (hpresent.trans habsent)]
    · rw [cmdOpen_noRecord hok (hpresent.trans hthere) ((vacantTx_eq_none _).mpr hnone)]
    · rw [cmdOpen_takes hok (hpresent.trans hthere) ((vacantTx_eq_some _ _).mpr ⟨hvacant, hlowest⟩),
        ← BitVec.ofNat_toNat]
      rfl
  · rw [txNotice_accept h, txNotice_decline h]
    refine ⟨fun hnot => ⟨if_neg hnot, if_neg hnot⟩, fun hoffering => ⟨if_pos hoffering, (if_pos hoffering).trans ?_⟩⟩
    cases reason <;> rfl
  · rw [acceptTrunk_eq, if_pos h]
  · rw [acceptTrunk_eq, if_neg h]
    rfl

end Sys2Proof.Machine
end


section
/-! SUPPORT. GROW, SHRINK and DROP (R83, R84, R88): the tests in their order, and the members a SHRINK or a DROP marks
LEAVING. -/

namespace Sys2Proof.Machine

/-! ### The tests of a voluntary change (R83) -/

section Refusal

variable {s : State} {ix : Byte} {argOk : Nat → Bool} {t : RecIx} {o : CmdOutcome}

theorem refusal_noRecord (h : recOf ix.toNat = none) : refusal s ix argOk = some .badArg := by
  simp only [refusal, h]

theorem refusal_of_recOf (h : recOf ix.toNat = some t) : refusal s ix argOk =
    if (txAt s t).state ≠ .opened then some .notOpen
    else if (txAt s t).change.isSome then some .busy
    else if (txAt s t).silent then some .sinkSilent
    else if (txAt s t).lastEcho ≠ some (txAt s t).epoch then some .busy
    else if argOk (txAt s t).members.length then none
    else some .badArg := by
  simp only [refusal, h]
  by_cases hopen : (txAt s t).state = .opened
  · cases hchange : (txAt s t).change with
    | some c => simp [hopen]
    | none =>
      cases hsilent : (txAt s t).silent with
      | true => simp [hopen]
      | false =>
        by_cases hecho : (txAt s t).lastEcho = some (txAt s t).epoch
        · cases harg : argOk (txAt s t).members.length <;> simp [hopen, hecho]
        · simp [hopen, hecho]
  · simp [hopen]

theorem voluntary_of_recOf (h : recOf ix.toNat = some t) : voluntary s ix =
    if (txAt s t).state ≠ .opened then .error .notOpen
    else if (txAt s t).change.isSome then .error .busy
    else if (txAt s t).silent then .error .sinkSilent
    else if (txAt s t).lastEcho ≠ some (txAt s t).epoch then .error .busy
    else .ok t := by
  simp only [voluntary, h]

/-- A refusal is that of the tests on the record, or the last one's on the argument. -/
theorem refusal_some_cases (h : refusal s ix argOk = some o) : voluntary s ix = .error o ∨
    ∃ t, voluntary s ix = .ok t ∧ argOk (txAt s t).members.length = false ∧ o = .badArg := by
  cases hrec : recOf ix.toNat with
  | none =>
    rw [refusal_noRecord hrec, Option.some.injEq] at h
    exact .inl (by simp only [voluntary, hrec, h])
  | some t =>
    rw [refusal_of_recOf hrec] at h
    rw [voluntary_of_recOf hrec]
    repeat' split at h
    all_goals simp_all

/-- A command that passes every test. -/
theorem refusal_none_passes (h : refusal s ix argOk = none) (hrec : recOf ix.toNat = some t) :
    voluntary s ix = .ok t ∧ argOk (txAt s t).members.length = true := by
  rw [refusal_of_recOf hrec] at h
  rw [voluntary_of_recOf hrec]
  repeat' split at h
  all_goals simp_all

theorem inRange_eq_decide (n lo hi : Nat) : inRange n lo hi = decide (lo ≤ n ∧ n ≤ hi) := (Bool.decide_and _ _).symm

end Refusal

/-! ### The three commands (R83, R84, R88) -/

section Commands

variable {tag ix arg : Byte} {s : State} {t : RecIx} {o : CmdOutcome}

theorem cmdGrow_refused (h : refusal s ix (fun m => decide (1 ≤ arg.toNat ∧ arg.toNat ≤ 16 - m)) = some o) :
    cmdGrow tag ix arg s = answered s 2 tag o := by
  rcases refusal_some_cases h with herr | ⟨t, hok, harg, rfl⟩
  · simp only [cmdGrow, herr]
    rfl
  · simp only [cmdGrow, hok, inRange_eq_decide, harg]
    rfl

theorem cmdGrow_passes (h : refusal s ix (fun m => decide (1 ≤ arg.toNat ∧ arg.toNat ≤ 16 - m)) = none)
    (hrec : recOf ix.toNat = some t) : cmdGrow tag ix arg s =
      startGrow t arg.toNat (some tag) (putInFlight { code := 2, tag := tag, record := .tx t } s) := by
  obtain ⟨hok, harg⟩ := refusal_none_passes h hrec
  simp only [cmdGrow, hok, inRange_eq_decide, harg]
  rfl

theorem cmdShrink_refused (h : refusal s ix (fun m => decide (1 ≤ arg.toNat ∧ arg.toNat ≤ m)) = some o) :
    cmdShrink tag ix arg s = answered s 3 tag o := by
  rcases refusal_some_cases h with herr | ⟨t, hok, harg, rfl⟩
  · simp only [cmdShrink, herr]
    rfl
  · simp only [cmdShrink, hok, inRange_eq_decide, harg]
    rfl

theorem cmdShrink_passes (h : refusal s ix (fun m => decide (1 ≤ arg.toNat ∧ arg.toNat ≤ m)) = none)
    (hrec : recOf ix.toNat = some t) : cmdShrink tag ix arg s =
      markLeaving t .shrink arg.toNat tag (shrinkSelect (txAt s t).members arg.toNat)
        (putInFlight { code := 3, tag := tag, record := .tx t } s) := by
  obtain ⟨hok, harg⟩ := refusal_none_passes h hrec
  simp only [cmdShrink, hok, inRange_eq_decide, harg]
  rfl

theorem cmdDrop_refused (h : refusal s ix (fun m => decide (arg.toNat < m)) = some o) :
    cmdDrop tag ix arg s = answered s 4 tag o := by
  rcases refusal_some_cases h with herr | ⟨t, hok, harg, rfl⟩
  · simp only [cmdDrop, herr]
    rfl
  · simp only [cmdDrop, hok, if_pos (not_lt.mp (of_decide_eq_false harg))]
    rfl

theorem cmdDrop_passes (h : refusal s ix (fun m => decide (arg.toNat < m)) = none)
    (hrec : recOf ix.toNat = some t) : cmdDrop tag ix arg s =
      markLeaving t .drop arg.toNat tag [arg.toNat] (putInFlight { code := 4, tag := tag, record := .tx t } s) := by
  obtain ⟨hok, harg⟩ := refusal_none_passes h hrec
  simp only [cmdDrop, hok, if_neg (not_le.mpr (of_decide_eq_true harg))]

end Commands

/-! ### The marking of a SHRINK or DROP (R88) -/

/-- A marking leaves no list of members empty that was not. -/
theorem marked_ne_nil (sel : List Nat) {ms : List Member} (h : ms ≠ []) : marked sel ms ≠ [] := by
  obtain ⟨m, rest, rfl⟩ := List.exists_cons_of_ne_nil h
  unfold marked
  rw [List.zipIdx_cons]
  cases hsel : sel.contains 0 <;> simp only [List.filter_cons, hsel] <;> simp

theorem modTx_modTx (s : State) (t : RecIx) (f g : TxRec → TxRec) :
    (s.modTx t f).modTx t g = s.modTx t (fun r => g (f r)) := by
  simp [State.modTx, vmod_vmod]

section Edited

variable (ms : List Member) (r : TxRec)

theorem edited_members : (edited ms r).members = ms := by
  unfold edited
  split <;> rfl

theorem edited_change : (edited ms r).change = r.change := by
  unfold edited
  split <;> rfl

/-- After an edit the layout mark is DUE; the epoch has advanced where it was not before (R82). -/
theorem edited_layout : (edited ms r).due = true ∧
    (edited ms r).epoch = (if r.due then r.epoch else r.epoch + 1) ∧
    (edited ms r).epochs = (if r.due then r.epochs else bump r.epochs) := by
  unfold edited
  split
  · next hdue => exact ⟨hdue, rfl, rfl⟩
  · exact ⟨rfl, rfl, rfl⟩

end Edited

section Marking

variable {t : RecIx} (kind : ChangeKind) (arg : Nat) (cmd : Byte) (sel : List Nat) {s : State}

/-- The layout of a marking, before the change of a record without members enters CONFIRM. -/
def markedLayout (t : RecIx) (kind : ChangeKind) (arg : Nat) (cmd : Byte) (sel : List Nat) (s : State) : State :=
  editMembers t (marked sel (txAt s t).members)
    (s.modTx t (fun r => { r with change := some (newChange kind arg .switchWait cmd) }))

theorem reseated_markedLayout (t : RecIx) (s : State) : Reseated t (fun r =>
    edited (marked sel (txAt s t).members) { r with change := some (newChange kind arg .switchWait cmd) }) s
      (markedLayout t kind arg cmd sel s) := by
  rw [markedLayout, editMembers, modTx_modTx]
  exact reseated_syncAssign t _ s

/-- The record of a marking (R82, R88). -/
theorem txAt_markedLayout (t : RecIx) (s : State) : let r := txAt (markedLayout t kind arg cmd sel s) t
    r.members = marked sel (txAt s t).members ∧ r.change = some (newChange kind arg .switchWait cmd) ∧ r.due = true ∧
      r.epoch = (if (txAt s t).due then (txAt s t).epoch else (txAt s t).epoch + 1) ∧
      r.epochs = (if (txAt s t).due then (txAt s t).epochs else bump (txAt s t).epochs) := by
  rw [reseated_txAt_same (reseated_markedLayout kind arg cmd sel t s)]
  exact ⟨edited_members _ _, edited_change _ _, edited_layout _ _⟩

/-- A marking of a record with members is one layout edit, and its change waits for the new layout. -/
theorem markLeaving_eq (h : (txAt s t).members ≠ []) :
    markLeaving t kind arg cmd sel s = markedLayout t kind arg cmd sel s := by
  have hlayout : markLeaving t kind arg cmd sel s = confirmIfEmpty t (markedLayout t kind arg cmd sel s) := by
    unfold markLeaving setChange
    dsimp only
    rw [txAt_modTx_same]
    rfl
  rw [hlayout, confirmIfEmpty_kept fun c _ => .inr ?_]
  obtain ⟨hmembers, -⟩ := txAt_markedLayout kind arg cmd sel t s
  rw [hmembers]
  exact marked_ne_nil sel h

/-- New sequences leave the state of every slot. -/
theorem slotAt_state_syncAssign (t : RecIx) (s : State) (a : SlotAddr) :
    (slotAt (syncAssign t s) a).state = (slotAt s a).state :=
  foldl_keeps (fun u => (slotAt u a).state) _ (fun u p => by
    rw [slotAt_assignSlot]
    split
    · next h => rw [h.1]
    · rfl) _ _

theorem slotAt_state_markedLayout (t : RecIx) (s : State) (a : SlotAddr) :
    (slotAt (markedLayout t kind arg cmd sel s) a).state = (slotAt s a).state := slotAt_state_syncAssign t _ a

end Marking

/-! ### The commands at the command unit (R149) -/

section Exec

variable {s : State} {e : CmdEntry} {rest : List CmdEntry}

theorem exec_cmdGrow (h : Takes s 2 2 e rest) (hattached : s.loader.state = .attached) : exec .cmdGrow s =
    .next (settle (cmdGrow (e.bytes.getD 1 0) (e.bytes.getD 2 0) (e.bytes.getD 3 0) (popped s rest))) := by
  rw [show exec .cmdGrow s = execCmdGrow s from rfl, execCmdGrow, run_command h hattached rfl, tag_of_takes h]
  rfl

theorem exec_cmdShrink (h : Takes s 3 2 e rest) (hattached : s.loader.state = .attached) : exec .cmdShrink s =
    .next (settle (cmdShrink (e.bytes.getD 1 0) (e.bytes.getD 2 0) (e.bytes.getD 3 0) (popped s rest))) := by
  rw [show exec .cmdShrink s = execCmdShrink s from rfl, execCmdShrink, run_command h hattached rfl, tag_of_takes h]
  rfl

theorem exec_cmdDrop (h : Takes s 4 2 e rest) (hattached : s.loader.state = .attached) : exec .cmdDrop s =
    .next (settle (cmdDrop (e.bytes.getD 1 0) (e.bytes.getD 2 0) (e.bytes.getD 3 0) (popped s rest))) := by
  rw [show exec .cmdDrop s = execCmdDrop s from rfl, execCmdDrop, run_command h hattached rfl, tag_of_takes h]
  rfl

/-- A SHRINK or DROP that passes every test is the marking of its record, which has a member. -/
theorem exec_marks {c : Instr} {code : Byte} {t : RecIx} (htakes : Takes s code 2 e rest)
    (hattached : s.loader.state = .attached) (hc : c = .cmdShrink ∧ code = 3 ∨ c = .cmdDrop ∧ code = 4)
    (hrec : recOf (e.bytes.getD 2 0).toNat = some t)
    (hpass : refusal s (e.bytes.getD 2 0) (fun m => if code = 3
      then decide (1 ≤ (e.bytes.getD 3 0).toNat ∧ (e.bytes.getD 3 0).toNat ≤ m)
      else decide ((e.bytes.getD 3 0).toNat < m)) = none) :
    exec c s = .next (settle (markedLayout t (if code = 3 then .shrink else .drop) (e.bytes.getD 3 0).toNat
      (e.bytes.getD 1 0) (if code = 3 then shrinkSelect (txAt s t).members (e.bytes.getD 3 0).toNat
        else [(e.bytes.getD 3 0).toNat])
      (putInFlight { code := code, tag := e.bytes.getD 1 0, record := .tx t } (popped s rest)))) := by
  obtain ⟨-, hargOk⟩ := refusal_none_passes hpass hrec
  rcases hc with ⟨rfl, rfl⟩ | ⟨rfl, rfl⟩
  · simp only [if_true] at hpass hargOk ⊢
    rw [exec_cmdShrink htakes hattached, cmdShrink_passes (s := popped s rest) hpass hrec, markLeaving_eq]
    · rfl
    · obtain ⟨hpos, hle⟩ := of_decide_eq_true hargOk
      exact List.ne_nil_of_length_pos (hpos.trans hle)
  · have hne : ¬ ((4 : Byte) = 3) := by decide
    simp only [if_neg hne] at hpass hargOk ⊢
    rw [exec_cmdDrop htakes hattached, cmdDrop_passes (s := popped s rest) hpass hrec, markLeaving_eq]
    exact List.ne_nil_of_length_pos (Nat.zero_lt_of_lt (of_decide_eq_true hargOk))

end Exec

/-- Settles O40: each command's refusal, then the change a command that passes makes pending. -/
theorem voluntaryChangesAreTestedInOrder : Obligations.VoluntaryChangesAreTestedInOrder := by
  intro c code e rest s htakes hattached hc tag ix arg argOk
  refine ⟨fun o href => ?_, fun t hpass hrec => ⟨fun hgrow => ?_, fun hleave => ?_⟩⟩
  · rcases hc with ⟨rfl, rfl⟩ | ⟨rfl, rfl⟩ | ⟨rfl, rfl⟩
    · rw [exec_cmdGrow htakes hattached, cmdGrow_refused (s := popped s rest) href]
    · rw [exec_cmdShrink htakes hattached, cmdShrink_refused (s := popped s rest) href]
    · rw [exec_cmdDrop htakes hattached, cmdDrop_refused (s := popped s rest) href]
  · subst hgrow
    obtain ⟨rfl, -⟩ : c = .cmdGrow ∧ (2 : Byte) = 2 := by simpa using hc
    rw [exec_cmdGrow htakes hattached, cmdGrow_passes (s := popped s rest) hpass hrec]
    rfl
  · have hmarks : c = .cmdShrink ∧ code = 3 ∨ c = .cmdDrop ∧ code = 4 :=
      hc.resolve_left fun h => hleave h.2
    have hargOk : argOk = fun m => if code = 3 then decide (1 ≤ arg ∧ arg ≤ m) else decide (arg < m) :=
      funext fun m => if_neg hleave
    rw [hargOk] at hpass
    set s1 := putInFlight { code := code, tag := tag, record := .tx t } (popped s rest)
    refine ⟨_, exec_marks htakes hattached hmarks hrec hpass, ?_, ?_⟩
    · obtain ⟨-, heta, -⟩ := reseated_markedLayout (if code = 3 then .shrink else .drop) arg tag
        (if code = 3 then shrinkSelect (txAt s t).members arg else [arg]) t s1
      rw [heta]
      rfl
    · obtain ⟨-, hchange, -⟩ := txAt_markedLayout (if code = 3 then .shrink else .drop) arg tag
        (if code = 3 then shrinkSelect (txAt s t).members arg else [arg]) t s1
      exact hchange

/-- Settles O41: the marking, field by field. -/
theorem shrinkAndDropMarkMembersLeaving : Obligations.ShrinkAndDropMarkMembersLeaving := by
  intro c code e rest t s htakes hattached hc hrec arg hpass ms down sel
  have hexec := exec_marks htakes hattached hc hrec hpass
  set s1 := putInFlight { code := code, tag := e.bytes.getD 1 0, record := .tx t } (popped s rest)
  have hseat := reseated_markedLayout (if code = 3 then .shrink else .drop) arg (e.bytes.getD 1 0)
    (if code = 3 then shrinkSelect (txAt s t).members arg else [arg]) t s1
  obtain ⟨hmembers, -, hdue, hepoch, hepochs⟩ := txAt_markedLayout (if code = 3 then .shrink else .drop) arg
    (e.bytes.getD 1 0) (if code = 3 then shrinkSelect (txAt s t).members arg else [arg]) t s1
  obtain ⟨-, heta, -⟩ := id hseat
  refine ⟨_, hexec, hmembers, hdue, hepoch, hepochs, fun k hk => reseated_txAt_of_ne hseat hk, ?_,
    slotAt_state_markedLayout _ _ _ _ t s1, ?_⟩
  · rw [heta]
    rfl
  · rw [heta]
    rfl

end Sys2Proof.Machine
end


section
/-! SUPPORT. A TALLY (R90): its liveness, the change it ends or switches (R86, R87, R89), and the members it shuns and
restores (R91, R92). -/

namespace Sys2Proof.Machine

/-! ### Liveness, and a trunk that opens (R81, R90, R93) -/

section Heard

variable (t : RecIx) (b : TallyBody) (s : State)

theorem tallyHeard_eq : tallyHeard t b s = heard t b s := rfl

/-- The record of a trunk that has been heard. -/
theorem txAt_heard : txAt (heard t b s) t = { txAt s t with
    lastEcho := some b.echo
    silent := false
    lastTally := some { age := 0, info := some {
      echo := b.echo, good := b.good, skew := b.skew, delinLocked := b.delinLocked, width := b.width } } } := by
  unfold heard
  dsimp only
  split <;> exact txAt_modTx_same s t _

/-- An accepted trunk is OPEN, whatever its first claim request brings (R81, R84). -/
theorem state_acceptTrunk : (txAt (acceptTrunk t s) t).state = .opened := by
  have hopens : (txAt (opens t s) t).state = .opened := by rw [txAt_opens]
  rw [acceptTrunk_eq]
  split
  · rw [txAt_answerTx, hopens]
  · have hkept : (startGrow t (txAt s t).initWidth (txAt s t).openCmd (opens t s)).standing = (opens t s).standing :=
      (standing_postClaim t _ _).trans (standing_modTx rfl)
    exact (congrFun (congrArg Standing.state hkept) t).trans hopens

end Heard

/-! ### What a TALLY does by the state of its record (R90) -/

section TakeTally

variable {t : RecIx} {b : TallyBody} {s : State}

theorem takeTally_offering (h : (txAt s t).state = .offering) :
    takeTally t b s = takeTally t b (acceptTrunk t s) := by
  have hopened : (txAt (acceptTrunk t s) t).state ≠ .offering := by
    rw [state_acceptTrunk]
    exact TxState.noConfusion
  simp only [takeTally, if_pos h, if_neg hopened]

theorem takeTally_closing (h : (txAt s t).state = .closing) : takeTally t b s = heard t b s := by
  simp only [takeTally, h, tallyHeard_eq, txAt_heard, reduceCtorEq, if_false]

/-- At an OPEN record the change comes first, then the health of the members. -/
theorem takeTally_opened (h : (txAt s t).state = .opened) :
    takeTally t b s = thenHealth t b (tallyChange t b (heard t b s)) := by
  simp only [takeTally, h, tallyHeard_eq, txAt_heard, reduceCtorEq, if_false, if_true]
  rfl

theorem thenHealth_heard_of_echo (h : b.echo = (txAt s t).epoch) :
    thenHealth t b (heard t b s) = tallyHealth t b.good (heard t b s) := by
  rw [thenHealth, txAt_heard]
  exact if_pos h.symm

theorem thenHealth_heard_of_ne (h : b.echo ≠ (txAt s t).epoch) : thenHealth t b (heard t b s) = heard t b s := by
  rw [thenHealth, txAt_heard]
  exact if_neg h.symm

/-! ### The change (R86, R87, R89) -/

theorem tallyChange_other (h : b.echo ≠ (txAt s t).epoch ∨ (txAt s t).change = none) : tallyChange t b s = s := by
  cases hchange : (txAt s t).change with
  | none => simp only [tallyChange, hchange]
  | some c =>
    have hecho : (txAt s t).epoch ≠ b.echo := (h.resolve_right (by simp [hchange])).symm
    simp only [tallyChange, hchange, if_pos hecho]

variable {c : Change} (hecho : b.echo = (txAt s t).epoch) (hchange : (txAt s t).change = some c)
include hecho hchange

theorem tallyChange_waiting (h : c.phase = .switchWait ∨ c.phase = .claim) : tallyChange t b s = s := by
  rcases h with h | h <;> simp only [tallyChange, hchange, hecho, h, ne_eq, not_true_eq_false, if_false]

theorem tallyChange_confirm (h : c.phase = .confirm) : tallyChange t b s =
    endChange t (if c.kind = .grow ∧ c.added ≠ c.arg then .partially else .done)
      (dropMembers t (fun m => m.role == .leaving) s) := by
  simp only [tallyChange, hchange, hecho, h, ne_eq, not_true_eq_false, if_false]
  rfl

theorem tallyChange_probe (h : c.phase = .probe) :
    tallyChange t b s = if fullTally b.good (txAt s t) = true then switchGrow t b.good s else s := by
  simp only [tallyChange, hchange, hecho, h, ne_eq, not_true_eq_false, if_false]

end TakeTally

/-- A tally is full where a member probes and every one that does is shown good (R86, log entry 63). -/
theorem fullTally_iff (good : BitVec 16) (r : TxRec) : fullTally good r = true ↔
    (∃ m ∈ r.members, m.role = .probe) ∧ ∀ p ∈ r.members.zipIdx, p.1.role = .probe → good.getMsbD p.2 = true := by
  have hprobing : (!(probing r).isEmpty) = true ↔ ∃ m ∈ r.members, m.role = .probe := by
    rw [Bool.not_eq_true', List.isEmpty_eq_false_iff_exists_mem]
    simp [probing]
  have hgood : (r.members.zipIdx.all fun p => p.1.role != .probe || goodAt good p.2) = true ↔
      ∀ p ∈ r.members.zipIdx, p.1.role = .probe → good.getMsbD p.2 = true := by
    rw [List.all_eq_true]
    refine forall₂_congr fun p _ => ?_
    rw [Bool.or_eq_true, bne_iff_ne, ← imp_iff_not_or]
    rfl
  rw [fullTally, Bool.and_eq_true, hprobing, hgood]

/-- A full tally shows a probing member good. -/
theorem exists_probe_good {good : BitVec 16} {r : TxRec} (hsome : ∃ m ∈ r.members, m.role = .probe)
    (hall : ∀ p ∈ r.members.zipIdx, p.1.role = .probe → good.getMsbD p.2 = true) :
    ∃ p ∈ r.members.zipIdx, p.1.role = .probe ∧ goodAt good p.2 = true := by
  obtain ⟨m, hm, hrole⟩ := hsome
  obtain ⟨i, hi⟩ := List.mem_iff_getElem?.mp hm
  have hp : (m, i) ∈ r.members.zipIdx := List.mk_mem_zipIdx_iff_getElem?.mpr hi
  exact ⟨(m, i), hp, hrole, hall _ hp hrole⟩

/-! ### The health of the members (R91, R92) -/

theorem judgeMember_eq (deferred good : Bool) (m : Member) : judgeMember deferred good m = tallied deferred good m := by
  unfold judgeMember tallied
  cases m.role with
  | data | probe | leaving => rfl
  | shunned =>
    cases good with
    | false => rfl
    | true =>
      have hcount : min 3 (m.restore + 1) = 3 ↔ ¬ m.restore < 2 := by omega
      cases deferred with
      | true => simp
      | false => by_cases hlow : m.restore < 2 <;> simp [hcount, hlow, Member.restored]

theorem deferring_eq (r : TxRec) : r.deferring = r.change.any (fun c =>
    c.kind != .closeAbort && (c.phase == .switchWait || c.phase == .confirm)) := by
  unfold TxRec.deferring
  cases r.change <;> rfl

/-- The members of a record as a tally echoing its epoch judges them. -/
def judged (good : BitVec 16) (r : TxRec) : List Member :=
  r.members.zipIdx.map (fun p => judgeMember r.deferring (goodAt good p.2) p.1)

/-- Each member with what it is judged to be. -/
theorem zip_judged (good : BitVec 16) (r : TxRec) : r.members.zip (judged good r) =
    r.members.zipIdx.map (fun p => (p.1, judgeMember r.deferring (goodAt good p.2) p.1)) := by
  calc r.members.zip (judged good r)
    _ = (r.members.zipIdx.map Prod.fst).zip (judged good r) := by rw [List.zipIdx_map_fst]
    _ = _ := List.zip_map'

/-- The number of members whose role turns from one to another. -/
def turned (good : BitVec 16) (r : TxRec) (x y : MemberRole) : Nat :=
  (r.members.zip (judged good r)).countP (fun p => p.1.role == x && p.2.role == y)

/-- A member's role changes where it is shunned or restored, and nowhere else. -/
theorem judgeMember_role_eq_iff (deferred good : Bool) (m : Member) :
    (judgeMember deferred good m).role = m.role ↔
      ¬ (m.role = .data ∧ (judgeMember deferred good m).role = .shunned) ∧
      ¬ (m.role = .shunned ∧ (judgeMember deferred good m).role = .data) := by
  unfold judgeMember
  cases hrole : m.role with
  | data => cases good <;> simp [hrole]
  | shunned =>
    cases good with
    | false => simp
    | true =>
      simp only [if_true]
      split <;> simp [Member.restored]
  | probe | leaving => simp [hrole]

/-- No member is shunned or restored where the roles stay. -/
theorem turned_eq_zero_iff (good : BitVec 16) (r : TxRec) :
    turned good r .data .shunned + turned good r .shunned .data = 0 ↔
      (judged good r).map (fun m => m.role) = r.members.map (fun m => m.role) := by
  have hroles : (judged good r).map (fun m => m.role) = r.members.map (fun m => m.role) ↔
      ∀ p ∈ r.members.zipIdx, (judgeMember r.deferring (goodAt good p.2) p.1).role = p.1.role := by
    have hbefore : r.members.map (fun m => m.role) = r.members.zipIdx.map (fun p => p.1.role) := by
      conv_lhs => rw [← List.zipIdx_map_fst 0 r.members, List.map_map]
      rfl
    rw [hbefore, judged, List.map_map, List.map_inj_left]
    rfl
  rw [Nat.add_eq_zero_iff, turned, turned, zip_judged, List.countP_map, List.countP_map, List.countP_eq_zero,
    List.countP_eq_zero, hroles, ← forall₂_and]
  refine forall₂_congr fun p _ => ?_
  rw [judgeMember_role_eq_iff]
  simp only [Function.comp, Bool.and_eq_true, beq_iff_eq]

/-- The record and its slots once the members are judged, before the reports. -/
def healthEdited (t : RecIx) (good : BitVec 16) (s : State) : State :=
  let r := txAt s t
  (if turned good r .data .shunned + turned good r .shunned .data = 0 then setMembers t (judged good r) s
    else editMembers t (judged good r) s).modTx t (fun x => { x with
      shuns := bumpBy x.shuns (turned good r .data .shunned)
      restores := bumpBy x.restores (turned good r .shunned .data) })

theorem foldl_report (reps : List Report) (s : State) : reps.foldl (fun x rep => report rep x) s =
    { s with port := reps.foldl (fun q rep => (q.post rep).1) s.port } := by
  induction reps generalizing s with
  | nil => rfl
  | cons rep reps ih => exact ih (report rep s)

theorem tallyHealth_eq (t : RecIx) (good : BitVec 16) (s : State) :
    let s1 := healthEdited t good s
    tallyHealth t good s = { s1 with port :=
      (((txAt s t).members.zip (judged good (txAt s t))).zipIdx.filterMap (fun p =>
        memberReport t (txAt s1 t).epoch p.2 p.1.1 p.1.2)).foldl (fun q rep => (q.post rep).1) s1.port } :=
  foldl_report _ (healthEdited t good s)

/-- Judging the members is a layout edit where a role changes (R82, R91, R92). -/
theorem reseated_healthEdited (t : RecIx) (good : BitVec 16) (s : State) : Reseated t (fun r =>
    let r' := if (judged good (txAt s t)).map (fun m => m.role) = (txAt s t).members.map (fun m => m.role)
      then { r with members := judged good (txAt s t) } else edited (judged good (txAt s t)) r
    { r' with
      shuns := bumpBy r.shuns (turned good (txAt s t) .data .shunned)
      restores := bumpBy r.restores (turned good (txAt s t) .shunned .data) }) s (healthEdited t good s) := by
  unfold healthEdited
  dsimp only
  by_cases hsame : (judged good (txAt s t)).map (fun m => m.role) = (txAt s t).members.map (fun m => m.role)
  · rw [if_pos ((turned_eq_zero_iff good _).mpr hsame)]
    refine reseated_congr (reseated_modTx (reseated_setMembers t _ s) _ rfl) ?_
    simp only [if_pos hsame]
  · rw [if_neg (mt (turned_eq_zero_iff good _).mp hsame)]
    refine reseated_congr (reseated_modTx (reseated_editMembers t _ s) _ rfl) ?_
    simp only [if_neg hsame]
    unfold edited
    split <;> rfl

/-- Settles O54: whom a TALLY is for, what it does by the state of its record and the phase of its change, and the
health of the members. -/
theorem tallyShunsAndRestoresMembers : Obligations.TallyShunsAndRestoresMembers := by
  refine ⟨fun sender b s => ⟨fun h => txNotice_unnamed rfl h, fun t h => txNotice_tally h⟩, fun t b s => ?_,
    fun t good s => ?_⟩
  · intro h r
    refine ⟨fun hstate => ⟨takeTally_offering hstate, state_acceptTrunk t s⟩, takeTally_closing, fun hstate => ?_⟩
    have hrecord : txAt h t = _ := txAt_heard t b s
    have hepoch : (txAt h t).epoch = r.epoch := by rw [hrecord]
    have hpending : (txAt h t).change = r.change := by rw [hrecord]
    have hmembers : (txAt h t).members = r.members := by rw [hrecord]
    rw [takeTally_opened hstate]
    refine ⟨fun hecho => ?_, fun hecho => ?_⟩
    · rw [tallyChange_other (.inl (by rwa [hepoch]))]
      exact thenHealth_heard_of_ne hecho
    have hhealth : thenHealth t b h = tallyHealth t b.good h := thenHealth_heard_of_echo hecho
    refine ⟨fun hnone => ?_, fun c hchange => ?_⟩
    · rw [tallyChange_other (.inr (by rwa [hpending]))]
      exact hhealth
    rw [← hepoch] at hecho
    rw [← hpending] at hchange
    refine ⟨fun hphase => ?_, fun hphase => ?_, fun hphase => ?_⟩
    · rw [tallyChange_waiting hecho hchange hphase]
      exact hhealth
    · rw [tallyChange_confirm hecho hchange hphase]
    · intro full
      have hfull : fullTally b.good (txAt h t) = true ↔ full := by
        rw [fullTally_iff, hmembers]
      rw [tallyChange_probe hecho hchange hphase]
      refine ⟨fun hnot => ?_, fun hyes => ⟨_, ?_, by rw [if_pos (hfull.mpr hyes)]⟩⟩
      · rw [if_neg (mt hfull.mp hnot)]
        exact hhealth
      · obtain ⟨hsome, hall⟩ := (fullTally_iff _ _).mp (hfull.mpr hyes)
        exact switchGrow_switched (exists_probe_good hsome hall)
  · intro r deferred after
    have hafter : after = judged good r := by
      simp only [after, judged, deferring_eq, judgeMember_eq]
      rfl
    clear_value after
    subst hafter
    exact ⟨healthEdited t good s, reseated_healthEdited t good s, tallyHealth_eq t good s⟩

end Sys2Proof.Machine
end


section
/-! SUPPORT. The body of a TALLY (R120): the good map, sequence by sequence, and what posts it. -/

namespace Sys2Proof.Machine

/-- One sequence's bit of a map of 16, the most significant being sequence 0. -/
theorem getMsbD_seqBit {seq : Nat} (h : seq < 16) (i : Nat) : (0x8000#16 >>> i).getMsbD seq = decide (i = seq) := by
  rw [BitVec.getMsbD_ushiftRight, show (0x8000#16) = BitVec.intMin 16 from rfl, BitVec.getMsbD_intMin]
  by_cases hi : i = seq
  · simp [hi, h]
  · have : seq < i ∨ seq - i ≠ 0 := by omega
    rcases this with this | this <;> simp [hi, this]

/-- A map built up from the sequences of a list that pass a test shows those sequences, beside what it showed. -/
theorem getMsbD_foldl_seqBits (p : Nat → Bool) {seq : Nat} (h : seq < 16) (l : List Nat) (m : BitVec 16) :
    (l.foldl (fun m i => if p i then m ||| (0x8000#16 >>> i) else m) m).getMsbD seq =
      (m.getMsbD seq || (decide (seq ∈ l) && p seq)) := by
  induction l generalizing m with
  | nil => simp
  | cons i l ih =>
    rw [List.foldl_cons, ih]
    by_cases hi : i = seq
    · subst hi
      cases hp : p i <;> simp [getMsbD_seqBit h]
    · have hne : seq ≠ i := fun e => hi e.symm
      cases hp : p i <;> simp [getMsbD_seqBit h, hi, hne]

/-- The good map shows a sequence where it is good (R120). -/
theorem getMsbD_goodMap (v : List ViewEntry) {seq : Nat} (h : seq < 16) : (goodMap v).getMsbD seq = seqGood v seq := by
  rw [goodMap, getMsbD_foldl_seqBits _ h]
  simp [h]

theorem seqGood_iff (v : List ViewEntry) (seq : Nat) :
    seqGood v seq = true ↔ ∃ e ∈ v, e.seq.toNat = seq ∧ e.health ≠ .bad := by
  simp [seqGood]

/-- Settles O26: the fields one by one, the good map by its bits. -/
theorem tallyBodySaysWhatTheRecordHolds : Obligations.TallyBodySaysWhatTheRecordHolds := by
  intro s r tag htag
  refine ⟨by rw [tallyBody, htag, Option.getD_some], rfl, rfl, beq_iff_eq, decide_eq_true_iff, fun seq hseq => ?_,
    postTally_posts⟩
  rw [← seqGood_iff, ← getMsbD_goodMap _ hseq]
  rfl

end Sys2Proof.Machine
end


section
/-! SUPPORT. Draining (R123 to R125): the test for VACANT, what a drain comes to, the CLOSE that brings one, and the
DISMISS command. -/

namespace Sys2Proof.Machine

/-! ### A record and its delineator -/

theorem modRx_modRx (s : State) (r : RecIx) (f g : RxRec → RxRec) :
    (s.modRx r f).modRx r g = s.modRx r (fun e => g (f e)) := by
  simp [State.modRx, vmod_vmod]

/-- A reset of the delineator gives back the blocks of the frame in progress (R136). -/
theorem resetDelin_eq (r : RecIx) (s : State) : resetDelin r s = delinCut r s := rfl

/-! ### The test for VACANT (R125) -/

/-- A record has ended: it drains, no dismiss is pending, and its receive queue is empty. -/
def RxEnded (r : RecIx) (s : State) : Prop :=
  (rxAt s r).state = .draining ∧ (rxAt s r).dismiss = none ∧ vget s.buf.rxQueue r = []

theorem testVacant_ended {r : RecIx} {s : State} (h : RxEnded r s) : testVacant r s = s.modRx r emptied := by
  obtain ⟨hstate, hdismiss, hqueue⟩ := h
  exact if_pos ⟨hstate, hdismiss, List.isEmpty_iff.mpr hqueue⟩

theorem testVacant_kept {r : RecIx} {s : State} (h : ¬ RxEnded r s) : testVacant r s = s :=
  if_neg fun ⟨hstate, hdismiss, hqueue⟩ => h ⟨hstate, hdismiss, List.isEmpty_iff.mp hqueue⟩

/-! ### A drain (R123) -/

/-- What entry to DRAINING makes of a record (R123), its delineator reset with it. -/
def RxRec.drained (e : RxRec) : RxRec :=
  { e with
    state := .draining, view := [], skew := 0, align := Vector.replicate 8 none, next := none
    lanePos := Vector.replicate 4 none, tally := none, delin := .reset }

/-- The state once a record has been drained and TRUNK_GONE posted, before the test for VACANT. -/
def rxDrained (r : RecIx) (reason : GoneReason) (s : State) : State :=
  let blocks := match (rxAt s r).delin.frame with
    | some f => f.blocks
    | none => 0
  let s1 := s.modRx r RxRec.drained
  { s1 with
    buf := { s1.buf with
      rxFree := s1.buf.rxFree + blocks, rxUse := vset s1.buf.rxUse r (vget s1.buf.rxUse r - blocks) }
    port := (s1.port.post (.trunkGone .receive r ((rxAt s r).tag.getD 0) ((rxAt s r).source.getD nobody) reason)).1 }

/-- A drain, which withdraws the record's notice but for a client DISMISS. -/
theorem drain_eq (r : RecIx) (reason : GoneReason) (keep : Bool) (s : State) :
    drain r reason keep s = testVacant r (rxDrained r reason (if keep then s else withdraw (.rx r) s)) := by
  have hrec : rxAt (if keep then s else withdraw (.rx r) s) r = rxAt s r := by
    cases keep
    · exact rxAt_withdraw _ s r
    · rfl
  have hcut : ∀ u : State, (resetDelin r u).modRx r RxRec.drain =
      (returnRx r (rxAt u r).delin.blocks u).modRx r RxRec.drained := fun u => modRx_modRx _ r _ _
  simp only [drain, hcut, ← hrec]
  rfl

/-! ### CLOSE received (R123) -/

theorem rxNotice_close_elsewhere {dest : StationId} {s : State} (h : dest ≠ ownId s) (sender : StationId) (tag : Tag) :
    rxNotice sender dest (.close tag) s = s := if_pos h

/-- A CLOSE to this station looks for the ACCEPTED record with its sender as source and its tag. -/
theorem rxNotice_close (sender : StationId) (tag : Tag) (s : State) :
    rxNotice sender (ownId s) (.close tag) s = match rxFind s .accepted sender tag with
      | some r => drain r .closed false s
      | none => s := if_neg (not_not.mpr rfl)

/-! ### The DISMISS command (R124) -/

theorem exec_cmdDismiss {s : State} {e : CmdEntry} {rest : List CmdEntry} (h : Takes s 6 1 e rest)
    (hattached : s.loader.state = .attached) : exec .cmdDismiss s =
      .next (settle (cmdDismiss (e.bytes.getD 1 0) (e.bytes.getD 2 0) (popped s rest))) := by
  rw [show exec .cmdDismiss s = execCmdDismiss s from rfl, execCmdDismiss, run_command h hattached rfl,
    tag_of_takes h]
  rfl

/-- Posting a notice and putting a command in flight do not meet. -/
theorem postNotice_putInFlight (o : OwnerEntry) (dest : StationId) (body : NoticeBody) (e : InFlight) (s : State) :
    postNotice o dest body (putInFlight e s) = putInFlight e (postNotice o dest body s) := by
  unfold postNotice
  rw [show queued (putInFlight e s) o = queued s o from rfl]
  dsimp only
  split <;> rfl

theorem putInFlight_modRx (e : InFlight) (s : State) (r : RecIx) (f : RxRec → RxRec) :
    (putInFlight e s).modRx r f = putInFlight e (s.modRx r f) := rfl

theorem rxAt_postNotice (o : OwnerEntry) (dest : StationId) (body : NoticeBody) (s : State) (r : RecIx) :
    rxAt (postNotice o dest body s) r = rxAt s r := by
  unfold postNotice
  dsimp only
  split <;> rfl

/-- The state that a client DISMISS drains: a DISMISS queued over what the entry held, and the dismiss pending. -/
def dismissing (r : RecIx) (tag : Byte) (s : State) : State :=
  (postNotice (.rx r) ((rxAt s r).source.getD nobody) (.dismiss ((rxAt s r).tag.getD 0) .client) s).modRx r
    (fun e => { e with dismiss := some { tag := tag, deadline := 32 } })

theorem rxAt_dismissing (r : RecIx) (tag : Byte) (s : State) :
    rxAt (dismissing r tag s) r = { rxAt s r with dismiss := some { tag := tag, deadline := 32 } } := by
  rw [dismissing, rxAt_modRx_same, rxAt_postNotice]

/-- What the drain of a client DISMISS comes to: the record as it was names the source and tag, and the blocks. -/
theorem rxDrained_dismissing (r : RecIx) (tag : Byte) (e : InFlight) (s : State) :
    let blocks := match (rxAt s r).delin.frame with
      | some f => f.blocks
      | none => 0
    let s1 := postNotice (.rx r) ((rxAt s r).source.getD nobody) (.dismiss ((rxAt s r).tag.getD 0) .client) s
    let s2 := s1.modRx r (fun x => { x.drained with dismiss := some { tag := tag, deadline := 32 } })
    rxDrained r .dismissed (putInFlight e (dismissing r tag s)) = { s2 with
      buf := { s2.buf with
        rxFree := s2.buf.rxFree + blocks, rxUse := vset s2.buf.rxUse r (vget s2.buf.rxUse r - blocks) }
      port := (({ s2.port with inFlight := s2.port.inFlight ++ [e] } : Port).post (.trunkGone .receive r
        ((rxAt s r).tag.getD 0) ((rxAt s r).source.getD nobody) .dismissed)).1 } := by
  intro blocks s1 s2
  have hrec : rxAt (putInFlight e (dismissing r tag s)) r =
      { rxAt s r with dismiss := some { tag := tag, deadline := 32 } } := rxAt_dismissing r tag s
  have hdrained : (dismissing r tag s).modRx r RxRec.drained = s2 := modRx_modRx s1 r _ _
  simp only [rxDrained, putInFlight_modRx, hdrained, hrec]
  rfl

section CmdDismiss

variable {tag ix : Byte} {s : State}

theorem cmdDismiss_badArg (h : 8 ≤ ix.toNat) : cmdDismiss tag ix s = answered s 6 tag .badArg := by
  simp only [cmdDismiss, recOf, dif_neg (not_lt.mpr h)]
  rfl

variable {r : RecIx} (hix : r.val = ix.toNat)
include hix

theorem cmdDismiss_notOpen (h : (rxAt s r).state ≠ .accepted) : cmdDismiss tag ix s = answered s 6 tag .notOpen := by
  simp only [cmdDismiss, recOf_toNat hix, ne_eq, h, not_false_eq_true, if_true]
  rfl

/-- A DISMISS of an ACCEPTED record drains it; the dismiss pending keeps it from VACANT. -/
theorem cmdDismiss_drains (h : (rxAt s r).state = .accepted) : cmdDismiss tag ix s =
    rxDrained r .dismissed (putInFlight { code := 6, tag := tag, record := .rx r } (dismissing r tag s)) := by
  have hdrain : cmdDismiss tag ix s =
      drain r .dismissed true (putInFlight { code := 6, tag := tag, record := .rx r } (dismissing r tag s)) := by
    simp only [cmdDismiss, recOf_toNat hix, ne_eq, h, not_true_eq_false, if_false, postNotice_putInFlight]
    rfl
  rw [hdrain, drain_eq, if_pos rfl, testVacant_kept]
  rintro ⟨-, hdismiss, -⟩
  have hpending : (rxAt (rxDrained r .dismissed
      (putInFlight { code := 6, tag := tag, record := .rx r } (dismissing r tag s))) r).dismiss =
        some { tag := tag, deadline := 32 } :=
    congrArg RxRec.dismiss ((rxAt_modRx_same _ r _).trans (congrArg RxRec.drained (rxAt_dismissing r tag s)))
  exact absurd (hpending.symm.trans hdismiss) nofun

end CmdDismiss

/-- Settles O43: the DISMISS command, a drain, the test for VACANT, and a CLOSE received. -/
theorem dismissDrainsTheRecord : Obligations.DismissDrainsTheRecord := by
  refine ⟨fun e rest s htakes hattached => ?_, fun r reason keep s => ?_,
    fun r s => ⟨testVacant_ended, testVacant_kept⟩, fun sender dest tag s => ?_⟩
  · intro tag ix
    have hexec := exec_cmdDismiss htakes hattached
    refine ⟨fun hbad => by rw [hexec, cmdDismiss_badArg hbad], fun r hix => ⟨fun hstate => ?_, fun hstate => ?_⟩⟩
    · rw [hexec, cmdDismiss_notOpen (s := popped s rest) hix hstate]
    · rw [hexec, cmdDismiss_drains (s := popped s rest) hix hstate]
      exact congrArg (fun u => Host.Outcome.next (settle u))
        (rxDrained_dismissing r _ { code := 6, tag := e.bytes.getD 1 0, record := .rx r } (popped s rest))
  · intro blocks s1 s2
    rw [drain_eq]
    cases keep
    · simp only [rxDrained, Bool.false_eq_true, if_false, rxAt_withdraw]
      rfl
    · rfl
  · intro held
    refine ⟨fun hnot => ?_, fun r hdest hr hlow => ?_⟩
    · by_cases hdest : dest = ownId s
      · rw [hdest, rxNotice_close, rxFind_none (hnot.resolve_left (not_not.mpr hdest))]
      · exact rxNotice_close_elsewhere hdest sender tag
    · rw [hdest, rxNotice_close, rxFind_lowest hr hlow]

end Sys2Proof.Machine
end


section
/-! SUPPORT. The end of a dismiss (R124, R125), and the strays (R121, R122). -/

namespace Sys2Proof.Machine

/-! ### The end of a dismiss (R124, R125) -/

section EndDismiss

variable {r : RecIx} {s : State}

theorem answerRx_none (o : CmdOutcome) (h : ∀ x ∈ s.port.inFlight, x.record ≠ .rx r) : answerRx r o s = s := by
  have hnone : s.port.inFlight.find? (fun e => e.record == .rx r) = none :=
    List.find?_eq_none.mpr fun x hx => by simpa using h x hx
  simp only [answerRx, answer, hnone]

/-- The first command in flight for the record leaves the commands in flight and is answered (R149, R150). -/
theorem answerRx_some (o : CmdOutcome) {before after : List InFlight} {x : InFlight}
    (h : s.port.inFlight = before ++ x :: after) (hx : x.record = .rx r) (hfirst : ∀ y ∈ before, y.record ≠ .rx r) :
    answerRx r o s = { s with port := { s.port with
      inFlight := before ++ after
      responses := s.port.responses ++
        [{ code := x.code, tag := x.tag, outcome := o, result := [byteOf r.val, 0xFF, 0, 0] }] } } := by
  have hfind : s.port.inFlight.find? (fun e => e.record == .rx r) = some x := by
    rw [h]
    exact find?_first_entry (by simpa using hx) fun y hy => by simpa using hfirst y hy
  have herase : s.port.inFlight.erase x = before ++ after := by
    rw [h, List.erase_append_right _ fun hmem => hfirst x hmem hx, List.erase_cons_head]
  simp only [answerRx, answer, hfind, herase, inFlightResponse, ite_self]
  rfl

/-- With its dismiss ended the record is tested for VACANT. -/
theorem testVacant_undismissed (r : RecIx) (s : State) :
    testVacant r (s.modRx r (fun e => { e with dismiss := none })) = afterDismiss s r := by
  have hended : RxEnded r (s.modRx r (fun e => { e with dismiss := none })) ↔
      (rxAt s r).state = .draining ∧ vget s.buf.rxQueue r = [] := by
    simp [RxEnded]
  unfold afterDismiss
  split
  · next h => exact testVacant_ended (hended.mpr h)
  · next h => exact testVacant_kept (mt hended.mp h)

theorem endDismiss_eq (r : RecIx) (s : State) : endDismiss r s = afterDismiss (answerRx r .done s) r :=
  testVacant_undismissed r _

end EndDismiss

/-! ### DISMISS_DEADLINE_EXPIRY (R124) -/

theorem exec_dismissDeadlineExpiry (r : RecIx) (s : State) :
    exec (.dismissDeadlineExpiry r) s = execDismissDeadlineExpiry r s := rfl

section Deadline

variable {r : RecIx} {s : State} (hreset : s.pins.resetAsserted = false)
include hreset

theorem exec_dismissDeadlineExpiry_ended {d : DismissPending} (hrun : s.Running) (hd : (rxAt s r).dismiss = some d)
    (hzero : d.deadline = 0) :
    exec (.dismissDeadlineExpiry r) s = .next (settle (endDismiss r (withdraw (.rx r) s))) := by
  rw [exec_dismissDeadlineExpiry, execDismissDeadlineExpiry, run_of_released hreset,
    if_pos ⟨(running_iff s).mpr hrun, by simp [hd, hzero]⟩]

theorem exec_dismissDeadlineExpiry_kept
    (h : ¬ s.Running ∨ (rxAt s r).dismiss = none ∨ ∃ d, (rxAt s r).dismiss = some d ∧ d.deadline ≠ 0) :
    exec (.dismissDeadlineExpiry r) s = .next (settle s) := by
  rw [exec_dismissDeadlineExpiry, execDismissDeadlineExpiry, run_of_released hreset, if_neg]
  rw [running_iff, Option.any_eq_true]
  rintro ⟨hrun, d, hd, hzero⟩
  rcases h with h | h | ⟨x, hx, hne⟩
  · exact h hrun
  · exact absurd (h.symm.trans hd) nofun
  · rw [hd, Option.some.injEq] at hx
    exact hne (hx ▸ beq_iff_eq.mp hzero)

end Deadline

/-! ### STRAY_ENTRY_EXPIRY (R121) -/

theorem exec_strayEntryExpiry (owner : StationId) (tag : Tag) (s : State) :
    exec (.strayEntryExpiry owner tag) s = execStrayEntryExpiry owner tag s := rfl

section StrayExpiry

variable {s : State} (hreset : s.pins.resetAsserted = false) (owner : StationId) (tag : Tag)
include hreset

theorem exec_strayEntryExpiry_kept (hrun : ¬ s.Running) :
    exec (.strayEntryExpiry owner tag) s = .next (settle s) := by
  rw [exec_strayEntryExpiry, execStrayEntryExpiry, run_of_released hreset, if_neg (mt (running_iff s).mp hrun)]

theorem exec_strayEntryExpiry_forgets (hrun : s.Running) :
    exec (.strayEntryExpiry owner tag) s = .next (settle { s with rx := { s.rx with
      strays := s.rx.strays.filter (fun y =>
        ¬ (y.owner = owner ∧ y.tag = tag ∧ y.quiet = 16 ∧ y.spacing = 0)) } }) := by
  have hkeep : (fun y : Stray => !(y.is owner tag && y.quiet == 16 && y.spacing == 0)) =
      fun y => decide (¬ (y.owner = owner ∧ y.tag = tag ∧ y.quiet = 16 ∧ y.spacing = 0)) := by
    funext y
    simp [Stray.is, beq_eq_decide, Bool.and_assoc]
  rw [exec_strayEntryExpiry, execStrayEntryExpiry, run_of_released hreset, if_pos ((running_iff s).mpr hrun), hkeep]

end StrayExpiry

/-! ### A stray header (R121, R122) -/

section TakeStray

variable (owner : StationId) (tag : Tag) (c : CycleNo) {s : State}

theorem stray_is_iff (y : Stray) : y.is owner tag = true ↔ y.owner = owner ∧ y.tag = tag := by simp [Stray.is]

theorem hear_eq (y : Stray) : y.hear c = heardAgain c y := by
  unfold Stray.hear heardAgain nextCycle
  split
  · next h => rw [← h]
  · split <;> rfl

theorem any_stray_is_iff : s.rx.strays.any (fun y => y.is owner tag) = true ↔
    ∃ y ∈ s.rx.strays, y.owner = owner ∧ y.tag = tag := by
  simp only [List.any_eq_true, stray_is_iff]

theorem takeStray_new (h : ∀ y ∈ s.rx.strays, ¬ (y.owner = owner ∧ y.tag = tag)) (hroom : s.rx.strays.length < 4) :
    takeStray owner tag c s = { s with rx := { s.rx with
      strays := s.rx.strays ++ [{ owner := owner, tag := tag, run := 1, last := c, quiet := 0, spacing := 0 }] } } := by
  rw [takeStray, if_neg (fun hany => ?_), if_pos hroom]
  obtain ⟨y, hy, his⟩ := (any_stray_is_iff owner tag).mp hany
  exact h y hy his

theorem takeStray_ignored (h : ∀ y ∈ s.rx.strays, ¬ (y.owner = owner ∧ y.tag = tag)) (hfull : 4 ≤ s.rx.strays.length) :
    takeStray owner tag c s = { s with rx := { s.rx with straysIgnored := bump s.rx.straysIgnored } } := by
  rw [takeStray, if_neg (fun hany => ?_), if_neg (not_lt.mpr hfull)]
  obtain ⟨y, hy, his⟩ := (any_stray_is_iff owner tag).mp hany
  exact h y hy his

/-- A listed stray counts the header, and is dismissed where that is due. -/
theorem takeStray_listed (h : ∃ y ∈ s.rx.strays, y.owner = owner ∧ y.tag = tag) :
    takeStray owner tag c s = dismissStray owner tag { s with rx := { s.rx with
      strays := s.rx.strays.map (fun y => if y.owner = owner ∧ y.tag = tag then heardAgain c y else y) } } := by
  simp only [takeStray, (any_stray_is_iff owner tag).mpr h, if_true, stray_is_iff, hear_eq]

/-- A dismissal of the stray is due (R122). -/
def StrayDue (s : State) : Prop :=
  ∃ y ∈ s.rx.strays, (y.owner = owner ∧ y.tag = tag) ∧ y.run = 16 ∧ y.spacing = 0

theorem any_strayDue_iff : s.rx.strays.any (fun y => y.is owner tag && y.run == 16 && y.spacing == 0) = true ↔
    StrayDue owner tag s := by
  simp only [StrayDue, List.any_eq_true, Bool.and_eq_true, stray_is_iff, beq_iff_eq, and_assoc]

theorem dismissStray_not_due (h : ¬ StrayDue owner tag s) : dismissStray owner tag s = s :=
  if_neg (mt (any_strayDue_iff owner tag).mp h)

/-- A dismissal that finds no decline entry leaves the stray as it is. -/
theorem dismissStray_refused (h : StrayDue owner tag s)
    (hasked : (requestDecline owner (.dismiss tag .noTrunk) s).2 = false) :
    dismissStray owner tag s = (requestDecline owner (.dismiss tag .noTrunk) s).1 := by
  simp only [dismissStray, (any_strayDue_iff owner tag).mpr h, if_true, hasked, Bool.false_eq_true, if_false]

theorem dismissStray_placed (h : StrayDue owner tag s)
    (hasked : (requestDecline owner (.dismiss tag .noTrunk) s).2 = true) :
    let asked := (requestDecline owner (.dismiss tag .noTrunk) s).1
    dismissStray owner tag s = { asked with rx := { asked.rx with
      strays := asked.rx.strays.map (fun y => if y.owner = owner ∧ y.tag = tag then { y with spacing := 256 } else y)
      straysDismissed := bump asked.rx.straysDismissed } } := by
  simp only [dismissStray, (any_strayDue_iff owner tag).mpr h, if_true, hasked, stray_is_iff]

end TakeStray

/-- Settles O44: the two expiries, what ends a dismiss, and a stray header by what the list holds. -/
theorem dismissDeadlineAndStrayExpiry : Obligations.DismissDeadlineAndStrayExpiry := by
  refine ⟨fun r owner tag s hreset => ⟨fun hidle => ⟨exec_dismissDeadlineExpiry_kept hreset (.inl hidle),
      exec_strayEntryExpiry_kept hreset owner tag hidle⟩, fun h => exec_dismissDeadlineExpiry_kept hreset (.inr h),
      fun d hrun => exec_dismissDeadlineExpiry_ended hreset hrun, exec_strayEntryExpiry_forgets hreset owner tag⟩,
    fun r tag why s => ?_, fun r s => ⟨fun before x after hsplit hx hfirst => ?_, fun hnone => ?_⟩,
    fun owner tag c s => ⟨fun hnew => ⟨takeStray_new owner tag c hnew, takeStray_ignored owner tag c hnew⟩,
      fun hlisted => ?_⟩⟩
  · split
    · next h => exact rxSent_none s r _ h
    · next h => exact rxSent_dismiss s r tag why (Option.isSome_iff_ne_none.mpr h)
  · rw [endDismiss_eq, answerRx_some .done hsplit hx hfirst]
  · rw [endDismiss_eq, answerRx_none .done hnone]
  · intro s1 due asked
    rw [takeStray_listed owner tag c hlisted]
    exact ⟨dismissStray_not_due owner tag, dismissStray_refused owner tag, dismissStray_placed owner tag⟩

end Sys2Proof.Machine
end


section
/-! SUPPORT. What leaves client output (R140, R143, R156, R159, R161): the choice at the end of a frame, and the end of
a report, of a block and of a data frame. -/

namespace Sys2Proof.Machine

/-! ### The choice at the end of a frame (R158, R159) -/

theorem mayChoose_eq_false {s : State} (h : s.port.stage ≠ .idle ∨ s.pins.outHold = true) : mayChoose s = false := by
  rcases h with h | h <;> simp [mayChoose, h]

theorem choose_of_not_mayChoose {s : State} (h : mayChoose s = false) : choose s = s := by simp [choose, h]

theorem settle_of_not_mayChoose {s : State} (h : mayChoose s = false) : settle s = s := by
  simp [settle, h, choose_of_not_mayChoose h]

/-- With no response waiting the choice at the end of an event leaves no order free. -/
theorem settle_of_no_response {s : State} (h : s.port.responses = []) : settle s = choose s := by simp [settle, h]

/-- A choice that takes anything fills the output stage. -/
theorem choose_cases (s : State) : choose s = s ∨ (choose s).port.stage ≠ .idle := by
  unfold choose
  split
  · unfold takeResponse takeReport takeData
    cases s.port.responses with
    | cons r rest => exact .inr nofun
    | nil =>
      cases s.port.reports with
      | cons q rest => exact .inr nofun
      | nil =>
        dsimp only
        split
        · exact .inl rfl
        · split
          · exact .inl rfl
          · exact .inr nofun
  · exact .inl rfl

/-- A step that ends a frame and makes the arbiter's choice (R159). -/
theorem endsAFrame_of_choose {o : Host.Outcome State Fault Refusal} {u : State} (hidle : u.port.stage = .idle)
    (ho : o = .next (settle (choose u))) : EndsAFrame o u := by
  subst ho
  refine ⟨fun hhold => ?_, fun r rest hhold hresponses => ?_, fun hnone => ?_⟩
  · have hmay := mayChoose_eq_false (s := u) (.inr hhold)
    rw [choose_of_not_mayChoose hmay, settle_of_not_mayChoose hmay]
  · have hchoice : choose u = { u with port := { u.port with
        responses := rest, stage := .sending (.response r) r.frame.length } } := by
      simp [choose, mayChoose, hidle, hhold, takeResponse, hresponses]
    have hstage : (choose u).port.stage ≠ .idle := by simp [hchoice]
    rw [settle_of_not_mayChoose (mayChoose_eq_false (.inl hstage)), hchoice]
  · rcases choose_cases u with hkept | hstage
    · rw [hkept]
    · rw [settle_of_not_mayChoose (mayChoose_eq_false (.inl hstage)), settle_of_no_response hnone]

/-! ### The end of a report and of a block (R140, R143, R156) -/

theorem exec_reportSent (s : State) : exec .reportSent s = execReportSent s := rfl

theorem exec_receiveBlockSent (s : State) : exec .receiveBlockSent s = execReceiveBlockSent s := rfl

theorem exec_dataFrameSent (s : State) : exec .dataFrameSent s = execDataFrameSent s := rfl

/-- An index has its record's flag, or the one of all others (R140). -/
theorem flagIx_eq {n : Nat} {flag : Fin 9} (h : flag.val = min n 8) : flagIx n = flag := by
  refine Fin.ext ?_
  unfold flagIx
  split
  · next hlt => exact (h.trans (min_eq_left hlt.le)).symm
  · next hge => exact (h.trans (min_eq_right (not_lt.mp hge))).symm

theorem reportSent_plain {q : Report} (h : ∀ ix reason len total, q ≠ .discard ix reason len total) (s : State) :
    reportSent q s = choose (stageIdle s) := by
  unfold reportSent
  split
  · exact absurd rfl (h _ _ _ _)
  · rfl

section Sent

variable {s : State} (hreset : s.pins.resetAsserted = false)
include hreset

theorem exec_reportSent_sending {q : Report} {left : Nat} (h : s.port.stage = .sending (.report q) left) :
    exec .reportSent s = .next (settle (reportSent q s)) := by
  simp only [exec_reportSent, execReportSent, run_of_released hreset, h]

theorem exec_reportSent_other (h : ∀ q left, s.port.stage ≠ .sending (.report q) left) :
    exec .reportSent s = .next (settle s) := by
  rw [exec_reportSent, execReportSent, run_of_released hreset]
  split
  · next hstage => exact absurd hstage (h _ _)
  · rfl

theorem exec_receiveBlockSent_sending {r : RecIx} {cls : Byte} {len left : Nat}
    (h : s.port.stage = .sending (.data r cls len) left) (hleft : 1 ≤ left) :
    exec .receiveBlockSent s = .next (settle ((blockSent r s).modPort (fun p =>
      { p with stage := .sending (.data r cls len) (len - blockEnd len left) }))) := by
  simp only [exec_receiveBlockSent, execReceiveBlockSent, run_of_released hreset, h, if_neg (Nat.ne_of_gt hleft)]

theorem exec_receiveBlockSent_over {r : RecIx} {cls : Byte} {len : Nat}
    (h : s.port.stage = .sending (.data r cls len) 0) : exec .receiveBlockSent s = .next (settle s) := by
  simp only [exec_receiveBlockSent, execReceiveBlockSent, run_of_released hreset, h, if_true]

theorem exec_receiveBlockSent_other (h : ∀ r cls len left, s.port.stage ≠ .sending (.data r cls len) left) :
    exec .receiveBlockSent s = .next (settle s) := by
  rw [exec_receiveBlockSent, execReceiveBlockSent, run_of_released hreset]
  split
  · next hstage => exact absurd hstage (h _ _ _ _)
  · rfl

theorem exec_dataFrameSent_sending {r : RecIx} {cls : Byte} {len left : Nat}
    (h : s.port.stage = .sending (.data r cls len) left) :
    exec .dataFrameSent s = .next (settle (dataSent r len left s)) := by
  simp only [exec_dataFrameSent, execDataFrameSent, run_of_released hreset, h]

theorem exec_dataFrameSent_padding {left : Nat} (h : s.port.stage = .sending .padding left) :
    exec .dataFrameSent s = .next (settle (choose (stageIdle s))) := by
  simp only [exec_dataFrameSent, execDataFrameSent, run_of_released hreset, h]

theorem exec_dataFrameSent_other (hdata : ∀ r cls len left, s.port.stage ≠ .sending (.data r cls len) left)
    (hpadding : ∀ left, s.port.stage ≠ .sending .padding left) : exec .dataFrameSent s = .next (settle s) := by
  rw [exec_dataFrameSent, execDataFrameSent, run_of_released hreset]
  split
  · next hstage => exact absurd hstage (hdata _ _ _ _)
  · next hstage => exact absurd hstage (hpadding _)
  · rfl

end Sent

/-! ### The end of a data frame (R125, R143) -/

/-- The state once the head frame of a record's queue has left: its blocks returned, the frame counted. -/
def frameDelivered (r : RecIx) (back : Nat) (s : State) : State :=
  { s with
    port := { s.port with stage := .idle }
    buf := { s.buf with
      rxFree := s.buf.rxFree + back
      rxUse := vset s.buf.rxUse r (vget s.buf.rxUse r - back)
      rxQueue := vset s.buf.rxQueue r ((vget s.buf.rxQueue r).drop 1) }
    rx := { s.rx with recs := vset s.rx.recs r { rxAt s r with delivered := bump (rxAt s r).delivered } } }

/-- The output stage does not enter the test for VACANT. -/
theorem stageIdle_testVacant (r : RecIx) (s : State) : stageIdle (testVacant r s) = testVacant r (stageIdle s) := by
  have hended : RxEnded r (stageIdle s) ↔ RxEnded r s := Iff.rfl
  by_cases h : RxEnded r s
  · rw [testVacant_ended h, testVacant_ended (hended.mpr h)]
    rfl
  · rw [testVacant_kept h, testVacant_kept (mt hended.mp h)]

theorem dataSent_eq (r : RecIx) (len left : Nat) (s : State) :
    dataSent r len left s = choose (testVacant r (frameDelivered r (blocksLeft len left) s)) := by
  simp only [dataSent, stageIdle_testVacant]
  rfl

theorem rxEnded_frameDelivered (r : RecIx) (back : Nat) (s : State) : RxEnded r (frameDelivered r back s) ↔
    (rxAt s r).state = .draining ∧ (rxAt s r).dismiss = none ∧ (vget s.buf.rxQueue r).length ≤ 1 := by
  simp [RxEnded, frameDelivered, rxAt, -List.drop_one, List.drop_eq_nil_iff]

/-- Settles O52: a report, a block and a data frame, each where it is being sent and elsewhere. -/
theorem reportsAndDataFramesLeave : Obligations.ReportsAndDataFramesLeave := by
  intro s hreset idle
  refine ⟨fun q left hstage => ⟨fun hplain => ?_, ?_⟩, exec_reportSent_other hreset,
    fun r cls len left hstage => ?_, exec_receiveBlockSent_other hreset,
    fun left hstage => endsAFrame_of_choose rfl (exec_dataFrameSent_padding hreset hstage),
    exec_dataFrameSent_other hreset⟩
  · refine endsAFrame_of_choose rfl ?_
    rw [exec_reportSent_sending hreset hstage, reportSent_plain hplain]
    rfl
  · rintro ix reason len total rfl flag hflag
    refine endsAFrame_of_choose rfl ?_
    rw [exec_reportSent_sending hreset hstage, reportSent, clearFlag, flagIx_eq hflag]
    rfl
  · intro sent
    refine ⟨exec_receiveBlockSent_sending hreset hstage, ?_, ?_⟩
    · rintro rfl
      exact exec_receiveBlockSent_over hreset hstage
    · intro back u last
      have hexec : exec .dataFrameSent s = .next (settle (choose (testVacant r u))) := by
        rw [exec_dataFrameSent_sending hreset hstage, dataSent_eq]
        rfl
      have hlast : RxEnded r u ↔ last := rxEnded_frameDelivered r back s
      refine ⟨fun h => endsAFrame_of_choose rfl ?_, fun h => endsAFrame_of_choose rfl ?_⟩
      · rw [hexec, testVacant_kept (mt hlast.mp h)]
      · rw [hexec, testVacant_ended (hlast.mpr h)]
        rfl

end Sys2Proof.Machine
end


section
/-! SUPPORT. How a completed cycle is judged (R113), why a slot is unclean in it (R115), and what a judgement does to a
member's health (R116). -/

namespace Sys2Proof.Machine

/-! ### The kinds of a completed cycle (R113) -/

theorem distinct_iff {α : Type} [BEq α] [LawfulBEq α] (l : List α) : distinct l = true ↔ l.Nodup := by
  induction l with
  | nil => simp [distinct]
  | cons a l ih => simp [distinct, ih]

section Kind

/-- A trunk header of a cycle: its sequence, role, epoch, width and payload. -/
abbrev CycleHeader := BitVec 4 × HeaderRole × Epoch × BitVec 5 × List Byte

variable {items : List (Option Item)} {hs : List CycleHeader}

/-- The DATA headers of a cycle. -/
def dataOf (hs : List CycleHeader) : List CycleHeader := hs.filter (fun h => h.2.1 == .data)

/-- The headers of a cycle agree (R113): the DATA headers on epoch and width, one for each of that width's sequences;
with no DATA header all on the epoch, and width 0. -/
def HeadersAgree (hs : List CycleHeader) (epoch : Epoch) (width : BitVec 5) : Prop :=
  hs ≠ [] ∧
  (dataOf hs ≠ [] → (∀ h ∈ dataOf hs, h.2.2.1 = epoch ∧ h.2.2.2.1 = width) ∧ (dataOf hs).length = width.toNat ∧
    ((dataOf hs).map (fun h => h.1)).Nodup) ∧
  (dataOf hs = [] → width = 0 ∧ ∀ h ∈ hs, h.2.2.1 = epoch ∧ h.2.2.2.1 = 0)

theorem reference_of_data {d : CycleHeader} {rest : List CycleHeader} (h : dataOf hs = d :: rest) :
    reference hs = if (dataOf hs).all (fun h => h.2.2.1 == d.2.2.1 && h.2.2.2.1 == d.2.2.2.1) &&
        (dataOf hs).length == d.2.2.2.1.toNat && distinct ((dataOf hs).map (fun h => h.1)) then
      some (d.2.2.1, d.2.2.2.1) else none := by
  rw [dataOf] at h
  simp only [reference, dataOf, h]

theorem reference_of_no_data {x : CycleHeader} {rest : List CycleHeader} (h : dataOf hs = []) (hx : hs = x :: rest) :
    reference hs = if hs.all (fun y => y.2.2.1 == x.2.2.1 && y.2.2.2.1 == 0) then some (x.2.2.1, 0) else none := by
  subst hx
  rw [dataOf] at h
  simp only [reference, h]

/-- The reference of a cycle is what its headers agree on. -/
theorem reference_eq_some_iff (epoch : Epoch) (width : BitVec 5) :
    reference hs = some (epoch, width) ↔ HeadersAgree hs epoch width := by
  cases hdata : dataOf hs with
  | cons d rest =>
    have hd : d ∈ dataOf hs := hdata ▸ List.mem_cons_self
    have hne : hs ≠ [] := List.ne_nil_of_mem (List.mem_of_mem_filter hd)
    rw [reference_of_data hdata]
    simp only [HeadersAgree, hdata, hne, ne_eq, not_false_eq_true, true_and, reduceCtorEq, true_implies, false_implies,
      and_true, Option.ite_none_right_eq_some, Bool.and_eq_true, List.all_eq_true, beq_iff_eq, distinct_iff,
      Option.some.injEq, Prod.mk.injEq]
    constructor
    · rintro ⟨⟨⟨hall, hlen⟩, hnodup⟩, rfl, rfl⟩
      exact ⟨hall, hlen, hnodup⟩
    · rintro ⟨hall, hlen, hnodup⟩
      obtain ⟨rfl, rfl⟩ := hall d List.mem_cons_self
      exact ⟨⟨⟨hall, hlen⟩, hnodup⟩, rfl, rfl⟩
  | nil =>
    cases hs with
    | nil => simp [HeadersAgree, reference]
    | cons x rest =>
      rw [reference_of_no_data hdata rfl]
      simp only [HeadersAgree, hdata, ne_eq, not_true_eq_false, false_implies, true_implies, reduceCtorEq,
        not_false_eq_true, true_and, Option.ite_none_right_eq_some, List.all_eq_true, Bool.and_eq_true, beq_iff_eq,
        Option.some.injEq, Prod.mk.injEq]
      constructor
      · rintro ⟨hall, rfl, rfl⟩
        exact ⟨rfl, hall⟩
      · rintro ⟨rfl, hall⟩
        obtain ⟨rfl, -⟩ := hall x List.mem_cons_self
        exact ⟨hall, rfl, rfl⟩

/-- Of a list whose values differ in a key, those with one key are the first with it, if there is one. -/
theorem flatMap_filter_key {α β κ : Type} [BEq κ] [LawfulBEq κ] (key : α → κ) (f : α → List β) (k : κ) {l : List α}
    (hl : (l.map key).Nodup) :
    (l.filter (fun x => key x == k)).flatMap f = (l.find? (fun x => key x == k)).elim [] f := by
  induction l with
  | nil => rfl
  | cons a l ih =>
    obtain ⟨hout, hrest⟩ := List.nodup_cons.mp hl
    by_cases ha : key a = k
    · have hnil : l.filter (fun x => key x == k) = [] := by
        rw [List.filter_eq_nil_iff]
        intro x hx hkey
        exact hout (List.mem_map.mpr ⟨x, hx, (beq_iff_eq.mp hkey).trans ha.symm⟩)
      simp [ha, hnil]
    · simp only [List.filter_cons, List.find?_cons, beq_eq_false_iff_ne.mpr ha, Bool.false_eq_true, if_false]
      exact ih hrest

/-- The bytes of a cycle whose DATA headers are of one sequence each, sequence by sequence (R113). -/
theorem cycleBytes_eq (h : ((dataOf hs).map (fun h => h.1)).Nodup) :
    cycleBytes hs = (List.range 16).flatMap (fun seq => match (dataOf hs).find? (fun h => h.1.toNat == seq) with
      | some h => h.2.2.2.2
      | none => []) := by
  have hkeys : ((dataOf hs).map (fun h => h.1.toNat)).Nodup := by
    have := h.map (f := BitVec.toNat) fun _ _ => BitVec.eq_of_toNat_eq
    rwa [List.map_map] at this
  have hfilter : ∀ i : Nat, hs.filter (fun h => h.2.1 == .data && h.1.toNat == i) =
      (dataOf hs).filter (fun h => h.1.toNat == i) := fun i => by
    simp only [dataOf, List.filter_filter, Bool.and_comm]
  unfold cycleBytes
  refine congrArg (fun f => (List.range 16).flatMap f) (funext fun i => ?_)
  rw [hfilter, flatMap_filter_key (fun h : CycleHeader => h.1.toNat) _ i hkeys]
  cases (dataOf hs).find? (fun h => h.1.toNat == i) <;> rfl

theorem headersAgree_nodup {epoch : Epoch} {width : BitVec 5} (h : HeadersAgree hs epoch width) :
    ((dataOf hs).map (fun h => h.1)).Nodup := by
  obtain ⟨-, hdata, -⟩ := h
  by_cases hnil : dataOf hs = []
  · rw [hnil]
    exact List.nodup_nil
  · exact (hdata hnil).2.2

theorem headersOf_eq_nil_of_all_none (h : ∀ x ∈ items, x = none) : headersOf items = [] :=
  List.filterMap_eq_nil_iff.mpr fun x hx => by rw [h x hx]

theorem all_isNone_iff : items.all Option.isNone = true ↔ ∀ x ∈ items, x = none := by simp

theorem cycleKind_blank (h : ∀ x ∈ items, x = none) : cycleKind items = .blank := if_pos (all_isNone_iff.mpr h)

theorem cycleKind_not_blank (h : ¬ ∀ x ∈ items, x = none) : cycleKind items = match reference (headersOf items) with
    | some ref => .consistent ref.1 ref.2 (cycleBytes (headersOf items))
    | none => if (headersOf items).isEmpty && items.all (fun x => x.isSome && x != some .faulty) then .empty
      else .faulty := if_neg (mt all_isNone_iff.mp h)

theorem cycleKind_eq_blank_iff : cycleKind items = .blank ↔ ∀ x ∈ items, x = none := by
  refine ⟨fun h => ?_, cycleKind_blank⟩
  by_contra hnot
  rw [cycleKind_not_blank hnot] at h
  split at h
  · exact absurd h nofun
  · split at h <;> exact absurd h nofun

theorem cycleKind_eq_consistent_iff (epoch : Epoch) (width : BitVec 5) (bytes : List Byte) :
    cycleKind items = .consistent epoch width bytes ↔
      HeadersAgree (headersOf items) epoch width ∧ bytes = cycleBytes (headersOf items) := by
  by_cases hblank : ∀ x ∈ items, x = none
  · rw [cycleKind_blank hblank]
    refine ⟨nofun, ?_⟩
    rintro ⟨⟨hne, -⟩, -⟩
    exact absurd (headersOf_eq_nil_of_all_none hblank) hne
  rw [cycleKind_not_blank hblank, ← reference_eq_some_iff]
  cases reference (headersOf items) with
  | none =>
    simp only [reduceCtorEq, false_and, iff_false]
    split <;> nofun
  | some ref =>
    simp only [CycleKind.consistent.injEq, Option.some.injEq, Prod.ext_iff, and_assoc]
    exact and_congr_right' (and_congr_right' eq_comm)

theorem cycleKind_eq_empty_iff : cycleKind items = .empty ↔
    items ≠ [] ∧ headersOf items = [] ∧ ∀ x ∈ items, ∃ i, x = some i ∧ i ≠ .faulty := by
  by_cases hblank : ∀ x ∈ items, x = none
  · rw [cycleKind_blank hblank]
    refine ⟨nofun, ?_⟩
    rintro ⟨hne, -, hall⟩
    obtain ⟨x, hx⟩ := List.exists_mem_of_ne_nil items hne
    obtain ⟨i, hi, -⟩ := hall x hx
    exact absurd ((hblank x hx).symm.trans hi) nofun
  have hne : items ≠ [] := fun hnil => hblank (by simp [hnil])
  have hkept : ∀ x : Option Item, (x.isSome && x != some .faulty) = true ↔ ∃ i, x = some i ∧ i ≠ .faulty := by
    intro x
    cases x <;> simp
  rw [cycleKind_not_blank hblank]
  cases href : reference (headersOf items) with
  | none =>
    simp only [hne, ne_eq, not_false_eq_true, true_and, ← hkept]
    split
    · next h => simpa using h
    · next h => simpa using h
  | some ref =>
    have hsome : headersOf items ≠ [] := ((reference_eq_some_iff ref.1 ref.2).mp href).1
    simp [hsome]

end Kind

/-! ### The judgement of a member (R116) -/

section Judge

variable (x : ViewEntry)

theorem judge_clean : x.judge none = match x.health with
    | .good => { x with clean := min 8 (x.clean + 1) }
    | .suspect => { x with health := .good, unclean := 0, clean := 1 }
    | .bad => if 7 ≤ x.clean then { x with health := .good, unclean := 0, clean := 8 }
      else { x with clean := x.clean + 1 } := by
  have hheal : Config.healCount ≤ x.clean + 1 ↔ 7 ≤ x.clean := Nat.succ_le_succ_iff
  unfold ViewEntry.judge
  cases x.health with
  | good | suspect => rfl
  | bad => exact if_congr hheal rfl rfl

theorem judge_severe {why : UncleanReason} (h : why.severe = true) : x.judge (some why) = { x with
    health := .bad, reason := some why, clean := 0, unclean := if x.health = .good then 1 else x.unclean } := by
  unfold ViewEntry.judge
  cases x.health <;> simp [h]

theorem judge_mild {why : UncleanReason} (h : why.severe = false) : x.judge (some why) = match x.health with
    | .good => { x with health := .suspect, reason := some why, clean := 0, unclean := 1 }
    | .suspect => { x with
        health := if 2 ≤ x.unclean then .bad else .suspect, reason := some why, clean := 0, unclean := x.unclean + 1 }
    | .bad => { x with reason := some why, clean := 0, unclean := min 3 (x.unclean + 1) } := by
  have hthird : 3 ≤ x.unclean + 1 ↔ 2 ≤ x.unclean := Nat.succ_le_succ_iff
  unfold ViewEntry.judge
  cases x.health <;> simp [h, hthird]

@[simp] theorem judge_slot (verdict : Option UncleanReason) : (x.judge verdict).slot = x.slot := by
  cases verdict with
  | none =>
    rw [judge_clean]
    repeat' split
    all_goals rfl
  | some why =>
    cases hwhy : why.severe with
    | true => rw [judge_severe x hwhy]
    | false =>
      rw [judge_mild x hwhy]
      split <;> rfl

end Judge

/-! ### Why a slot is unclean (R115) -/

section Unclean

variable (s : State) (e : RxRec) (n : CycleNo) (kind : CycleKind) (a : SlotAddr) (item : Option Item)

/-- The smallest lag among the lanes that hold DATA entries. -/
theorem smallestDataLag_spec (v : List ViewEntry) :
    (smallestDataLag s v = none → ∀ x ∈ v, x.role = .data → (laneAt s (laneOf x.slot)).lag = none) ∧
    (∀ low, smallestDataLag s v = some low →
      (∃ x ∈ v, x.role = .data ∧ (laneAt s (laneOf x.slot)).lag = some low) ∧
      ∀ x ∈ v, x.role = .data → ∀ lag, (laneAt s (laneOf x.slot)).lag = some lag → low ≤ lag) := by
  have hmem : ∀ lag, lag ∈ lagsOf s ((v.filter (fun e => e.role == .data)).map (fun e => laneOf e.slot)) ↔
      ∃ x ∈ v, x.role = .data ∧ (laneAt s (laneOf x.slot)).lag = some lag := by
    simp [mem_lagsOf, and_assoc]
  unfold smallestDataLag
  split
  · next hnil =>
    refine ⟨fun _ x hx hrole => Option.eq_none_iff_forall_ne_some.mpr fun lag hlag => ?_, nofun⟩
    have := (hmem lag).mpr ⟨x, hx, hrole, hlag⟩
    rw [hnil] at this
    exact absurd this List.not_mem_nil
  · next y ys hlist =>
    refine ⟨nofun, ?_⟩
    rintro low ⟨⟩
    have hmin : (y :: ys).min? = some (ys.foldl min y) := List.min?_cons'
    obtain ⟨hin, hle⟩ := List.min?_eq_some_iff.mp hmin
    rw [← hlist] at hin hle
    exact ⟨(hmem _).mp hin, fun x hx hrole lag hlag => hle _ ((hmem lag).mpr ⟨x, hx, hrole, hlag⟩)⟩

/-- A slot lags too far behind where it lags too far behind some DATA entry (R115). -/
theorem tooLate_iff : tooLate s e.view a = true ↔ UncleanFor s e n kind a item .skew := by
  obtain ⟨hnone, hsome⟩ := smallestDataLag_spec s e.view
  unfold tooLate UncleanFor
  cases hlow : smallestDataLag s e.view with
  | none =>
    refine ⟨nofun, ?_⟩
    rintro ⟨-, x, low, -, hx, hrole, hlag, -⟩
    exact absurd ((hnone hlow x hx hrole).symm.trans hlag) nofun
  | some low =>
    obtain ⟨⟨y, hy, hyrole, hylag⟩, hle⟩ := hsome low hlow
    cases (laneAt s (laneOf a)).lag with
    | none => simp
    | some lag =>
      simp only [decide_eq_true_eq, Option.some.injEq]
      constructor
      · exact fun h => ⟨lag, y, low, rfl, hy, hyrole, hylag, by simpa [skewSlots] using h⟩
      · rintro ⟨lag', x, low', rfl, hx, hrole, hlag, h⟩
        have hlow' := hle x hx hrole low' hlag
        simp only [skewSlots]
        push_cast
        omega

theorem probeOk_eq_false (seq : BitVec 4) (payload : List Byte) : probeOk e n seq payload = false ↔
    payload ≠ (List.replicate 8 [n, (e.source.getD nobody).setWidth 8, (e.tag.getD 0).setWidth 8,
      seq.setWidth 8]).flatten := beq_eq_false_iff_ne

section Header

variable (seq : BitVec 4) (role : HeaderRole) (epoch : Epoch) (width : BitVec 5) (payload : List Byte)

/-- A trunk header is unclean for itself where a CONSISTENT cycle's reference differs from it. -/
theorem header_unclean_iff : UncleanFor s e n kind a (some (.header seq role epoch width payload)) .header ↔
    ∃ re rw bytes, kind = .consistent re rw bytes ∧ (epoch ≠ re ∨ width ≠ rw) := by
  simp [UncleanFor]

theorem probe_unclean_iff : UncleanFor s e n kind a (some (.header seq role epoch width payload)) .probe ↔
    role = .probe ∧ probeOk e n seq payload = false := by
  rw [probeOk_eq_false]
  simp [UncleanFor, and_assoc]

variable [DecidablePred (UncleanFor s e n kind a (some (.header seq role epoch width payload)))]

/-- A LOCKED lane's slot with a trunk header is tested for the header, the probe pattern and the skew, in that order. -/
theorem uncleanReason_header (hlock : (laneAt s (laneOf a)).state = .locked) :
    let item := some (Item.header seq role epoch width payload)
    uncleanReason s e n kind a item =
      if UncleanFor s e n kind a item .header then some .header
      else if UncleanFor s e n kind a item .probe then some .probe
      else if tooLate s e.view a then some .skew else none := by
  intro item
  have hlocked := (isLocked_iff s (laneOf a)).mpr hlock
  by_cases hheader : UncleanFor s e n kind a item .header
  · obtain ⟨re, rw, bytes, rfl, hdiffers⟩ := (header_unclean_iff s e n kind a seq role epoch width payload).mp hheader
    rw [if_pos hheader]
    have hdisagrees : (epoch != re || width != rw) = true := by simpa using hdiffers
    simp only [uncleanReason, item, hlocked, hdisagrees, Bool.not_true, Bool.false_eq_true, if_false, if_true]
  · rw [if_neg hheader, if_congr (probe_unclean_iff s e n kind a seq role epoch width payload) rfl rfl]
    cases kind with
    | blank | empty | faulty => simp [uncleanReason, item, hlocked]
    | consistent re rw bytes =>
      obtain ⟨rfl, rfl⟩ : epoch = re ∧ width = rw := by simpa [item, header_unclean_iff] using hheader
      simp [uncleanReason, item, hlocked]

/-- Of the reasons of R115 a trunk header on a LOCKED lane leaves those three. -/
theorem find?_uncleanOrder_header (hlock : (laneAt s (laneOf a)).state = .locked) :
    let holds := UncleanFor s e n kind a (some (.header seq role epoch width payload))
    uncleanOrder.find? (fun why => decide (holds why)) =
      if holds .header then some .header
      else if holds .probe then some .probe
      else [UncleanReason.skew].find? (fun why => decide (holds why)) := by
  intro holds
  have hlane : ¬ holds .lane := not_not.mpr hlock
  have hlate : ¬ holds .late := by simp [holds, UncleanFor]
  have howner : ¬ holds .owner := by simp [holds, UncleanFor]
  have habsent : ¬ holds .absent := by simp [holds, UncleanFor]
  by_cases hheader : holds .header
  · simp [uncleanOrder, hlane, hlate, hheader]
  · by_cases hprobe : holds .probe <;> simp [uncleanOrder, hlane, hlate, howner, habsent, hheader, hprobe]

end Header

/-- Why a slot is unclean is the first reason of R115 that holds. -/
theorem uncleanReason_eq_find? [DecidablePred (UncleanFor s e n kind a item)] : uncleanReason s e n kind a item =
    uncleanOrder.find? (fun why => decide (UncleanFor s e n kind a item why)) := by
  have hskew : (if tooLate s e.view a then some UncleanReason.skew else none) =
      [UncleanReason.skew].find? (fun why => decide (UncleanFor s e n kind a item why)) := by
    by_cases h : UncleanFor s e n kind a item .skew
    · rw [if_pos ((tooLate_iff s e n kind a item).mpr h)]
      simp [h]
    · rw [if_neg (mt (tooLate_iff s e n kind a item).mp h)]
      simp [h]
  by_cases hlane : (laneAt s (laneOf a)).state = .locked
  · have hlock := (isLocked_iff s (laneOf a)).mpr hlane
    cases item with
    | none => simp [uncleanReason, uncleanOrder, hlock, UncleanFor, hlane]
    | some i =>
      cases i with
      | faulty => simp [uncleanReason, uncleanOrder, hlock, UncleanFor, hlane]
      | free => simp [uncleanReason, uncleanOrder, hlock, UncleanFor, hlane]
      | foreign owner =>
        by_cases ho : some owner = e.source
        · simp [uncleanReason, uncleanOrder, hlock, UncleanFor, hlane, ho]
        · simp [uncleanReason, uncleanOrder, hlock, UncleanFor, hlane, ho]
      | header seq role epoch width payload =>
        rw [uncleanReason_header s e n kind a seq role epoch width payload hlane, hskew]
        exact (find?_uncleanOrder_header s e n kind a seq role epoch width payload hlane).symm
  · have hlock := Bool.eq_false_iff.mpr (mt (isLocked_iff s (laneOf a)).mp hlane)
    simp [uncleanReason, uncleanOrder, hlock, UncleanFor, hlane]

variable {s e n kind a item}

theorem uncleanReason_first {before after : List UncleanReason} {why : UncleanReason}
    (horder : uncleanOrder = before ++ why :: after) (hwhy : UncleanFor s e n kind a item why)
    (hbefore : ∀ x ∈ before, ¬ UncleanFor s e n kind a item x) : uncleanReason s e n kind a item = some why := by
  classical
  rw [uncleanReason_eq_find?, List.find?_eq_some_iff_append]
  exact ⟨decide_eq_true hwhy, before, after, horder, fun x hx => by simpa using hbefore x hx⟩

theorem uncleanReason_none (h : ∀ x ∈ uncleanOrder, ¬ UncleanFor s e n kind a item x) :
    uncleanReason s e n kind a item = none := by
  classical
  rw [uncleanReason_eq_find?, List.find?_eq_none]
  exact fun x hx => by simpa using h x hx

end Unclean

end Sys2Proof.Machine
end


section
/-! SUPPORT. The completion of a cycle (R110, R112 to R119) and a lane's handing of its lag (R117, R118). -/

namespace Sys2Proof.Machine

/-! ### The effect of a cycle's kind (R113, R114) -/

section TakeCycle

variable (r : RecIx) (s : State)

theorem takeCycle_same {width : BitVec 5} (epoch : Epoch) (bytes : List Byte) (h : width = (rxAt s r).widthSeen) :
    takeCycle r (.consistent epoch width bytes) s = (delineate r bytes s).modRx r (fun e => { e with
      consistent := bump e.consistent, epochSeen := epoch, widthSeen := width }) := if_pos h.symm

theorem takeCycle_changed {width : BitVec 5} (epoch : Epoch) (bytes : List Byte) (h : width ≠ (rxAt s r).widthSeen) :
    takeCycle r (.consistent epoch width bytes) s =
      report (.widthChanged r (rxAt s r).widthSeen width epoch) ((delineate r bytes s).modRx r (fun e => { e with
        consistent := bump e.consistent, epochSeen := epoch, widthSeen := width })) := if_neg (Ne.symm h)

/-- The delineator leaves the view alone. -/
theorem view_delineate (bytes : List Byte) : (rxAt (delineate r bytes s) r).view = (rxAt s r).view := by
  unfold delineate
  split
  · rfl
  · simp [putDelCtx, rxAt, delCtx]

theorem rxAt_report (rep : Report) (k : RecIx) : rxAt (report rep s) k = rxAt s k := rfl

theorem view_resetDelin : (rxAt (resetDelin r s) r).view = (rxAt s r).view := by
  rw [resetDelin, rxAt_modRx_same]
  rfl

/-- The effect of a cycle's kind leaves the view to the judgement of members. -/
theorem view_takeCycle (kind : CycleKind) : (rxAt (takeCycle r kind s) r).view = (rxAt s r).view := by
  cases kind with
  | blank | faulty => exact (congrArg RxRec.view (rxAt_modRx_same _ r _)).trans (view_resetDelin r s)
  | empty => rfl
  | consistent epoch width bytes =>
    have hview : (rxAt ((delineate r bytes s).modRx r (fun e => { e with
        consistent := bump e.consistent, epochSeen := epoch, widthSeen := width })) r).view = (rxAt s r).view :=
      (congrArg RxRec.view (rxAt_modRx_same _ r _)).trans (view_delineate r s bytes)
    by_cases h : width = (rxAt s r).widthSeen
    · rw [takeCycle_same r s epoch bytes h, hview]
    · rw [takeCycle_changed r s epoch bytes h, rxAt_report, hview]

end TakeCycle

/-! ### The judgement of the members (R110, R115 to R117) -/

/-- The trunk skew is the spread of the lags of the LOCKED lanes in view (R117). -/
theorem mem_viewLags (s : State) (v : List ViewEntry) (x : Int) :
    x ∈ lagsOf s (allLanes.filter (fun l => laneInView v l && isLocked s l)) ↔
      ∃ e ∈ v, (laneAt s (laneOf e.slot)).state = .locked ∧ (laneAt s (laneOf e.slot)).lag = some x := by
  simp only [mem_lagsOf, List.mem_filter, mem_allLanes, true_and, Bool.and_eq_true, laneInView_iff, isLocked_iff]
  constructor
  · rintro ⟨_, ⟨⟨e, he, rfl⟩, hlock⟩, hlag⟩
    exact ⟨e, he, hlock, hlag⟩
  · rintro ⟨e, he, hlock, hlag⟩
    exact ⟨_, ⟨⟨e, he, rfl⟩, hlock⟩, hlag⟩

theorem viewSkew_none {s : State} {v : List ViewEntry}
    (h : ∀ x, ¬ ∃ e ∈ v, (laneAt s (laneOf e.slot)).state = .locked ∧ (laneAt s (laneOf e.slot)).lag = some x) :
    viewSkew s v = 0 := by
  have hnil : lagsOf s (allLanes.filter (fun l => laneInView v l && isLocked s l)) = [] :=
    List.eq_nil_iff_forall_not_mem.mpr fun x hx => h x ((mem_viewLags s v x).mp hx)
  rw [viewSkew, hnil, spread]

section Judged

variable (r : RecIx) (n : CycleNo) (kind : CycleKind) (items : List (SlotAddr × Item)) (s : State)

/-- The entries of a view judged, their absent runs counted (R110, R116). -/
def judgedView : List ViewEntry :=
  (rxAt s r).view.map (fun x =>
    (x.judge (uncleanReason s (rxAt s r) n kind x.slot (itemAt items x.slot))).countAbsent (itemAt items x.slot))

theorem judgeView_stay (h : (judgedView r n kind items s).filter (fun x => decide (x.absent < 16)) =
      judgedView r n kind items s) :
    judgeView r n kind items s = s.modRx r (fun e => { e with view := judgedView r n kind items s }) := by
  have hall : (judgedView r n kind items s).all (fun x => decide (x.absent < 16)) = true :=
    List.all_eq_true.mpr (List.filter_eq_self.mp h)
  unfold judgedView at h hall
  simp only [judgeView, hall, if_true, h]
  rfl

/-- Where an entry leaves the view the skew is recomputed. -/
theorem judgeView_leave (h : (judgedView r n kind items s).filter (fun x => decide (x.absent < 16)) ≠
      judgedView r n kind items s) :
    judgeView r n kind items s = s.modRx r (fun e => { e with
      view := (judgedView r n kind items s).filter (fun x => decide (x.absent < 16))
      skew := viewSkew s ((judgedView r n kind items s).filter (fun x => decide (x.absent < 16))) }) := by
  have hall : ¬ (judgedView r n kind items s).all (fun x => decide (x.absent < 16)) = true :=
    fun hall => h (List.filter_eq_self.mpr (List.all_eq_true.mp hall))
  unfold judgedView at hall
  simp only [judgeView, hall, recomputeSkew, modRx_modRx]
  rfl

end Judged

/-! ### The completion (R112, R119) -/

section Complete

variable {r : RecIx} {s : State}

/-- Some entry's health turns into or out of BAD in a judgement that keeps the slots (R116). -/
theorem healthTurned_iff (view : List ViewEntry) (f : ViewEntry → ViewEntry) (hslot : ∀ y, (f y).slot = y.slot) :
    healthTurned view (view.map f) = true ↔
      ∃ x ∈ view, ∃ y ∈ view, y.slot = x.slot ∧ ¬ (x.health = .bad ↔ (f y).health = .bad) := by
  have hturn : ∀ a b : Health, ((a == .bad) != (b == .bad)) = true ↔ ¬ (a = .bad ↔ b = .bad) := by
    intro a b
    cases a <;> cases b <;> decide
  simp only [healthTurned, List.any_eq_true, List.mem_map, exists_exists_and_eq_and, hslot, Bool.and_eq_true,
    beq_iff_eq, hturn]

theorem completed_eq (n : CycleNo) (e : RxRec) : e.completed n =
    if e.view = [] then { e with align := Vector.replicate 8 none, next := none }
    else { e with align := vset e.align (Fin.ofNat 8 n.toNat) none, next := some (n + 1) } := by
  simp only [RxRec.completed, List.isEmpty_iff]
  rfl

theorem completeNext_none (h : (rxAt s r).next = none) : completeNext r s = s := by simp only [completeNext, h]

/-- The next cycle completes. -/
theorem completeNext_some {n : CycleNo} (h : (rxAt s r).next = some n) :
    let e := rxAt s r
    let kind := cycleKind (e.view.map (fun x => itemAt (alignAt e n) x.slot))
    let s1 := takeCycle r kind s
    let s3 := (if kind = .blank then s1 else judgeView r n kind (alignAt e n) s1).modRx r (RxRec.completed n)
    let judge := fun x : ViewEntry =>
      x.judge (uncleanReason s1 (rxAt s1 r) n kind x.slot (itemAt (alignAt e n) x.slot))
    completeNext r s = if (rxAt s1 r).epochSeen ≠ e.epochSeen ∨
        kind ≠ .blank ∧ healthTurned e.view (e.view.map judge) = true then postTally r s3 else s3 := by
  intro e kind s1 s3 judge
  have hview : (rxAt s1 r).view = e.view := view_takeCycle r s kind
  have htally : (decide ((rxAt s1 r).epochSeen ≠ e.epochSeen) ||
      (kind != .blank && healthTurned e.view ((rxAt s1 r).view.map judge))) = true ↔
        (rxAt s1 r).epochSeen ≠ e.epochSeen ∨ kind ≠ .blank ∧ healthTurned e.view (e.view.map judge) = true := by
    rw [hview, Bool.or_eq_true, decide_eq_true_iff, Bool.and_eq_true, bne_iff_ne]
  simp only [completeNext, h]
  exact if_congr htally rfl rfl

end Complete

/-! ### A lane hands its lag (R117, R118) -/

section Handed

variable (r : RecIx) (l : LaneNo) (fromConfirm renumbered : Bool) {s : State}

/-- A table set at the places of a list that pass a test. -/
theorem vget_foldl_vset {α : Type} {n : Nat} (p : Fin n → Bool) (f : Fin n → α) (ls : List (Fin n)) (v : Vector α n)
    (m : Fin n) : vget (ls.foldl (fun x i => if p i then vset x i (f i) else x) v) m =
      if m ∈ ls ∧ p m = true then f m else vget v m := by
  induction ls generalizing v with
  | nil => simp
  | cons i ls ih =>
    rw [List.foldl_cons, ih]
    by_cases hm : m = i
    · subst hm
      by_cases hp : p m = true <;> simp [hp]
    · by_cases hp : p i = true <;> simp [hp, hm, vget_vset_of_ne]

/-- The present lags: of a lane in view its lag, of another none. -/
theorem vget_presentLags (s : State) (v : List ViewEntry) (m : LaneNo) :
    vget (presentLags s v) m = if laneInView v m then (laneAt s m).lag else none := by
  rw [presentLags, vget_foldl_vset]
  simp [mem_allLanes]

theorem freshLock_iff (s : State) (v : List ViewEntry) : freshLock s v l fromConfirm = true ↔
    fromConfirm = true ∧ ∀ m, m ≠ l → (∃ x ∈ v, laneOf x.slot = m) →
      (laneAt s m).state ≠ .locked ∧ (laneAt s m).state ≠ .coast := by
  have hlane : ∀ m, (m == l || !laneInView v m || !lockedOrCoast s m) = true ↔
      (m ≠ l → (∃ x ∈ v, laneOf x.slot = m) → (laneAt s m).state ≠ .locked ∧ (laneAt s m).state ≠ .coast) := by
    intro m
    rw [← laneInView_iff, lockedOrCoast]
    simp [or_iff_not_imp_left]
  simp only [freshLock, Bool.and_eq_true, List.all_eq_true, mem_allLanes, true_implies, hlane]

/-- A lane with an aligned lag was renumbered, or moved against another lane's. -/
def LagMoved (s : State) (e : RxRec) : Prop :=
  vget e.aligned l ≠ none ∧ (renumbered = true ∨
    (∃ m, m ≠ l ∧ (∃ x ∈ e.view, laneOf x.slot = m) ∧ vget e.aligned m ≠ none) ∧
      vget e.aligned l ≠ (laneAt s l).lag)

theorem realigns_iff (s : State) (e : RxRec) : realigns s e l fromConfirm renumbered = true ↔
    freshLock s e.view l fromConfirm = true ∨ LagMoved l renumbered s e := by
  simp only [realigns, LagMoved, Bool.or_eq_true, Bool.and_eq_true, List.any_eq_true, mem_allLanes, true_and,
    Option.isSome_iff_ne_none, bne_iff_ne, laneInView_iff, and_assoc]

theorem rxHanded_idle (h : (rxAt s r).state ≠ .accepted) : rxHanded r l fromConfirm renumbered s = s := if_pos h

section Accepted

variable {r l fromConfirm renumbered} (h : (rxAt s r).state = .accepted)
include h

theorem rxHanded_elsewhere (hview : ¬ ∃ x ∈ (rxAt s r).view, laneOf x.slot = l) :
    rxHanded r l fromConfirm renumbered s = recomputeSkew r s := by
  rw [← laneInView_iff, Bool.not_eq_true] at hview
  simp [rxHanded, h, hview]

variable (hview : ∃ x ∈ (rxAt s r).view, laneOf x.slot = l)
include hview

/-- A lane in view that brings no realignment has its lag noted. -/
theorem rxHanded_notes (hkept : ¬ realigns s (rxAt s r) l fromConfirm renumbered = true) :
    rxHanded r l fromConfirm renumbered s =
      (recomputeSkew r s).modRx r (fun e => { e with aligned := vset e.aligned l (laneAt s l).lag }) := by
  rw [← laneInView_iff] at hview
  simp [rxHanded, h, hview, hkept]

theorem rxHanded_realigns (hrealigns : realigns s (rxAt s r) l fromConfirm renumbered = true) :
    rxHanded r l fromConfirm renumbered s = realign r l (recomputeSkew r s) := by
  rw [← laneInView_iff] at hview
  simp [rxHanded, h, hview, hrealigns]

end Accepted

/-- A realignment (R118): the record as its delineator's reset left it, with the present lags of its lanes. -/
theorem realign_eq (s : State) : realign r l s = report (.realigned r l (laneAt s l).lag)
    ((delinCut r s).modRx r (fun e => { e with
      align := Vector.replicate 8 none, next := none, aligned := presentLags s (rxAt s r).view
      realigns := bump e.realigns })) := by
  have hrec : (resetDelin r s).modRx r (fun e => { e with
        align := Vector.replicate 8 none, next := none, aligned := presentLags s e.view
        realigns := bump e.realigns }) =
      (resetDelin r s).modRx r (fun e => { e with
        align := Vector.replicate 8 none, next := none, aligned := presentLags s (rxAt s r).view
        realigns := bump e.realigns }) := modRx_congr _ (by rw [view_resetDelin])
  rw [realign]
  exact congrArg _ hrec

end Handed

/-- Settles O55: the kinds, the judgements and the reasons, a kind's effect, the judgement of the view, the skew, the
completion, and a lane's handing. -/
theorem completedCycleIsJudged : Obligations.CompletedCycleIsJudged := by
  refine ⟨fun items => ?_, fun x => ⟨judge_clean x, ?_, ?_⟩, fun s e n kind a item => ⟨fun before why after =>
      uncleanReason_first, uncleanReason_none⟩, fun r s => ⟨rfl, rfl, rfl, fun epoch width bytes =>
      ⟨takeCycle_same r s epoch bytes, takeCycle_changed r s epoch bytes⟩⟩,
    fun r n kind items s => ⟨judgeView_stay r n kind items s, judgeView_leave r n kind items s⟩,
    fun s v => ⟨viewSkew_none, fun low high hlow hhigh hbounds => ?_⟩,
    fun r s => ⟨completeNext_none, fun n hn => ?_⟩, fun r l fromConfirm renumbered s => ?_⟩
  · intro hs data
    refine ⟨cycleKind_eq_blank_iff, fun epoch width bytes => ?_, cycleKind_eq_empty_iff⟩
    rw [cycleKind_eq_consistent_iff]
    constructor
    · rintro ⟨hagree, rfl⟩
      obtain ⟨hne, hdata, hnone⟩ := id hagree
      exact ⟨hne, hdata, hnone, cycleBytes_eq (headersAgree_nodup hagree)⟩
    · rintro ⟨hne, hdata, hnone, rfl⟩
      have hagree : HeadersAgree hs epoch width := ⟨hne, hdata, hnone⟩
      exact ⟨hagree, (cycleBytes_eq (headersAgree_nodup hagree)).symm⟩
  · rintro why (rfl | rfl | rfl) <;> exact judge_severe x rfl
  · rintro why (rfl | rfl | rfl | rfl) <;> exact judge_mild x rfl
  · exact spread_eq ((mem_viewLags s v low).mpr hlow) ((mem_viewLags s v high).mpr hhigh)
      fun x hx => hbounds x ((mem_viewLags s v x).mp hx)
  · intro view ix items item kind s1 s2 s3 turned tally
    have hcomplete := completeNext_some hn
    rw [funext (completed_eq n)] at hcomplete
    have hturned : healthTurned view (view.map (fun x =>
        x.judge (uncleanReason s1 (rxAt s1 r) n kind x.slot (item x.slot)))) = true ↔ turned :=
      healthTurned_iff view _ fun y => judge_slot y _
    have htally : tally ↔ (rxAt s1 r).epochSeen ≠ (rxAt s r).epochSeen ∨ kind ≠ .blank ∧ healthTurned view
        (view.map (fun x => x.judge (uncleanReason s1 (rxAt s1 r) n kind x.slot (item x.slot)))) = true :=
      or_congr_right (and_congr_right' hturned.symm)
    refine ⟨fun hnot => hcomplete.trans (if_neg (mt htally.mpr hnot)), fun hyes => ?_⟩
    exact (hcomplete.trans (if_pos (htally.mp hyes))).trans (postTally_eq r s3)
  · intro e holds s1 fresh moved
    refine ⟨rxHanded_idle r l fromConfirm renumbered, fun hstate => ⟨rxHanded_elsewhere hstate,
      fun hview hfresh hmoved => rxHanded_notes hstate hview ?_, fun hview hrealigns =>
        ⟨presentLags s e.view, fun m => ⟨fun hm => ?_, fun hm => ?_⟩, ?_⟩⟩⟩
    · rw [realigns_iff, freshLock_iff]
      exact not_or.mpr ⟨hfresh, hmoved⟩
    · rw [vget_presentLags, if_pos ((laneInView_iff _ _).mpr hm)]
    · rw [vget_presentLags, if_neg (mt (laneInView_iff _ _).mp hm)]
    · have hlags : presentLags (recomputeSkew r s) (rxAt (recomputeSkew r s) r).view = presentLags s e.view := by
        rw [recomputeSkew, rxAt_modRx_same]
        rfl
      rw [rxHanded_realigns hstate hview ((realigns_iff l fromConfirm renumbered s e).mpr
        (hrealigns.imp_left (freshLock_iff l fromConfirm s e.view).mpr)), realign_eq, hlags]
      rfl

end Sys2Proof.Machine
end


section
/-! SUPPORT. The bytes the parcel encoder gives (R128, R129): a fill, and a frame's header, payload and check. -/

namespace Sys2Proof.Machine

/-- The four bytes of a parcel header (R128). -/
theorem parcelHeader_eq (len : Nat) (cls : Byte) : ∃ a b c d, parcelHeader len cls = [a, b, c, d] :=
  ⟨_, _, _, _, rfl⟩

/-! ### The parcel of a frame at the encoder (R129) -/

/-- The encoder goes on where it left off. -/
theorem encodeBytes_add (k n : Nat) (x : EncCtx) : encodeBytes (k + n) x =
    ((encodeBytes n (encodeBytes k x).1).1, (encodeBytes k x).2 ++ (encodeBytes n (encodeBytes k x).1).2) := by
  induction k generalizing x with
  | zero => simp [encodeBytes]
  | succ k ih => simp [Nat.succ_add, encodeBytes, ih]

theorem fillBytes : [fillByte 0, fillByte 1, fillByte 2, fillByte 3] = parcelHeader 0 0 := by
  obtain ⟨a, b, c, d, hfill⟩ := parcelHeader_eq 0 0
  simp only [fillByte, hfill]
  rfl

/-- Where no frame is complete, a fill passes and leaves the encoder as it was. -/
theorem encodeBytes_fill {x : EncCtx} (hx : x.enc = .between)
    (hqueue : ∀ f rest, x.queue = f :: rest → f.complete = false) : encodeBytes 4 x = (x, parcelHeader 0 0) := by
  have hbegin : encodeByte x = encodeFill 0 x := by
    unfold encodeByte
    rw [hx]
    cases hq : x.queue with
    | nil => rfl
    | cons f rest => simp [hqueue f rest hq]
  obtain ⟨enc, queue, returned, sent⟩ := x
  obtain rfl : enc = .between := hx
  simp only [encodeBytes, hbegin, ← fillBytes]
  simp [encodeFill, encodeByte]

/-- The header bytes of the frame at the head, which leaves the queue. -/
theorem encodeBytes_header {x : EncCtx} {f : TxFrame} {rest : List TxFrame} (hx : x.enc = .between)
    (hqueue : x.queue = f :: rest) (hcomplete : f.complete = true) :
    encodeBytes 4 x = ({ x with enc := .frame f 4 crc32Init, queue := rest }, parcelHeader f.len f.cls) := by
  obtain ⟨a, b, c, d, hheader⟩ := parcelHeader_eq f.len f.cls
  simp [encodeBytes, encodeByte, encodeFrame, hx, hqueue, hcomplete, hheader]

/-- A payload byte hands back the block it ends (R129): what the frame held before it is that block and what it holds
after. -/
theorem encoderBlocks_payload (f : TxFrame) {k : Nat} (hk : k < f.len) (crc crc' : BitVec 32) :
    encoderBlocks (.frame f (k + 4) crc) =
      (if (k + 1) % 128 = 0 ∨ k + 1 = f.len then 1 else 0) + encoderBlocks (.frame f (k + 5) crc') := by
  have hbefore : min (k + 4 - 4) f.len = k := by omega
  have hafter : min (k + 5 - 4) f.len = k + 1 := by omega
  simp only [encoderBlocks, blocksFor, Config.blockBytes, hbefore, hafter]
  split <;> split <;> split <;> omega

/-- One payload byte at the encoder. -/
theorem encodeByte_payload {x : EncCtx} {f : TxFrame} {k : Nat} {crc : BitVec 32} (hk : k < f.len)
    (hx : x.enc = .frame f (k + 4) crc) : encodeByte x =
      ({ x with
        enc := .frame f (k + 5) (crc32Byte crc (f.data.getD k 0))
        returned := x.returned + if (k + 1) % 128 = 0 ∨ k + 1 = f.len then 1 else 0 }, f.data.getD k 0) := by
  have hheader : ¬ k + 4 < 4 := by omega
  simp [encodeByte, encodeFrame, hx, hheader, hk]

/-- The payload bytes that are left, their CRC-32, and the blocks they hand back. -/
theorem encodeBytes_payload {f : TxFrame} (hlen : f.data.length = f.len) (sent left : List Byte)
    (hdata : f.data = sent ++ left) {x : EncCtx} {crc : BitVec 32} (hx : x.enc = .frame f (sent.length + 4) crc) :
    encodeBytes left.length x = ({ x with
      enc := .frame f (f.len + 4) (left.foldl crc32Byte crc)
      returned := x.returned + encoderBlocks x.enc }, left) := by
  induction left generalizing sent x crc with
  | nil =>
    have hsent : sent.length = f.len := by simp [← hlen, hdata]
    obtain ⟨enc, queue, returned, counted⟩ := x
    obtain rfl : enc = _ := hx
    simp [encodeBytes, encoderBlocks, hsent]
  | cons b left ih =>
    have hk : sent.length < f.len := by simp [← hlen, hdata]
    have hb : f.data.getD sent.length 0 = b := by simp [hdata]
    rw [List.length_cons, encodeBytes, encodeByte_payload hk hx, hb]
    dsimp only
    rw [ih (sent ++ [b]) (by simp [hdata]) (crc := crc32Byte crc b) (by simp), hx,
      encoderBlocks_payload f hk crc (crc32Byte crc b)]
    simp [Nat.add_assoc]

/-- A check byte of a frame but the last. -/
theorem encodeFrame_check (f : TxFrame) {k : Nat} (hk : k < 3) (crc : BitVec 32) (x : EncCtx) :
    encodeFrame f (f.len + 4 + k) crc x =
      ({ x with enc := .frame f (f.len + 4 + (k + 1)) crc }, (bytes32 (crc32Final crc)).getD k 0) := by
  have hheader : ¬ f.len + 4 + k < 4 := by omega
  have hpayload : ¬ f.len + 4 + k < f.len + 4 := by omega
  have hlast : ¬ f.len + 4 + k + 1 = f.len + 8 := by omega
  have hplace : f.len + 4 + k - 4 - f.len = k := by omega
  simp only [encodeFrame, if_neg hheader, if_neg hpayload, if_neg hlast, hplace]
  rfl

/-- The last check byte of a frame ends its parcel. -/
theorem encodeFrame_lastCheck (f : TxFrame) (crc : BitVec 32) (x : EncCtx) :
    encodeFrame f (f.len + 4 + 3) crc x =
      ({ x with enc := .between, sent := bump x.sent }, (bytes32 (crc32Final crc)).getD 3 0) := by
  simp [encodeFrame]

/-- The check bytes of a frame, which is then counted as sent. -/
theorem encodeBytes_check {x : EncCtx} {f : TxFrame} {crc : BitVec 32} (hx : x.enc = .frame f (f.len + 4) crc) :
    encodeBytes 4 x = ({ x with enc := .between, sent := bump x.sent }, bytes32 (crc32Final crc)) := by
  have hfirst : encodeFrame f (f.len + 4) crc x = _ := encodeFrame_check f (k := 0) (by decide) crc x
  simp only [encodeBytes, encodeByte, hx, hfirst, encodeFrame_check f (k := 0 + 1) (by decide),
    encodeFrame_check f (k := 0 + 1 + 1) (by decide), encodeFrame_lastCheck]
  rfl

/-- Between parcels the encoder gives the parcel of the complete frame at the head: its header, its payload with the
return of its blocks, and its check. -/
theorem encodeBytes_parcel {x : EncCtx} {f : TxFrame} {rest : List TxFrame} (hx : x.enc = .between)
    (hqueue : x.queue = f :: rest) (hcomplete : f.complete = true) (hlen : f.data.length = f.len) (hpos : 1 ≤ f.len) :
    encodeBytes (f.len + 8) x =
      ({ x with enc := .between, queue := rest, returned := x.returned + (f.len + 127) / 128, sent := bump x.sent },
        parcelOf f.cls f.data) := by
  have hblocks : encoderBlocks (.frame f 4 crc32Init) = (f.len + 127) / 128 := by
    simp [encoderBlocks, blocksFor, Config.blockBytes, (Nat.ne_of_gt hpos).symm]
  have hcut : f.len + 8 = 4 + (f.data.length + 4) := by omega
  rw [hcut, encodeBytes_add, encodeBytes_header hx hqueue hcomplete, encodeBytes_add,
    encodeBytes_payload hlen [] f.data rfl rfl, encodeBytes_check rfl, hblocks]
  simp [parcelOf, crc32, hlen]

/-- The encoder of a record gives n bytes: what it left goes back to the record and to the transmit pool. -/
theorem encode_eq (t : RecIx) (n : Nat) (s : State) {out : EncCtx × List Byte}
    (hout : out = encodeBytes n { enc := (txAt s t).enc, queue := vget s.buf.txQueue t, returned := 0
                                  sent := (txAt s t).framesSent }) :
    encode t n s = ({ s with
      tx := vset s.tx t { txAt s t with enc := out.1.enc, framesSent := out.1.sent }
      buf := { s.buf with
        txFree := s.buf.txFree + out.1.returned
        txUse := vset s.buf.txUse t (vget s.buf.txUse t - out.1.returned)
        txQueue := vset s.buf.txQueue t out.1.queue } }, out.2) := by
  subst hout
  rfl

end Sys2Proof.Machine
end


section
/-! SUPPORT. A delineator LOCKED through a parcel (R132, R135, R142): the run of its bytes, the places it passes through,
and what the parcel comes to. -/

namespace Sys2Proof.Machine

/-! ### The bytes of a locked delineator (R135) -/

/-- A delineator takes bytes one after another, LOCKED before each. -/
inductive LockedRun : DelCtx → List Byte → DelCtx → Prop where
  | nil (x : DelCtx) : LockedRun x [] x
  | cons {x y : DelCtx} {b : Byte} {bytes : List Byte} (hlocked : x.d.state = .locked)
      (hrun : LockedRun (lockedByte b x) bytes y) : LockedRun x (b :: bytes) y

theorem LockedRun.append {x y z : DelCtx} {first second : List Byte} (h : LockedRun x first y)
    (h' : LockedRun y second z) : LockedRun x (first ++ second) z := by
  induction h with
  | nil => exact h'
  | cons hlocked _ ih => exact .cons hlocked (ih h')

theorem LockedRun.split {x z : DelCtx} {first second : List Byte} (h : LockedRun x (first ++ second) z) :
    ∃ y, LockedRun x first y ∧ LockedRun y second z := by
  induction first generalizing x with
  | nil => exact ⟨x, .nil x, h⟩
  | cons b first ih =>
    cases h with
    | cons hlocked hrun =>
      obtain ⟨y, hfirst, hsecond⟩ := ih hrun
      exact ⟨y, .cons hlocked hfirst, hsecond⟩

/-- A run that ends LOCKED begins LOCKED. -/
theorem LockedRun.start_locked {x y : DelCtx} {bytes : List Byte} (h : LockedRun x bytes y)
    (hy : y.d.state = .locked) : x.d.state = .locked := by
  cases h with
  | nil => exact hy
  | cons hlocked _ => exact hlocked

/-- Each byte of such a run takes one turn. -/
theorem LockedRun.feed_add {x y : DelCtx} {bytes : List Byte} (h : LockedRun x bytes y) (n : Nat) :
    feed (n + bytes.length) bytes x = feed n [] y := by
  induction h with
  | nil => rfl
  | cons hlocked _ ih =>
    rw [List.length_cons, ← Nat.add_assoc, feed]
    simp only [hlocked, ih]

theorem feed_nil {x : DelCtx} (hlocked : x.d.state = .locked) (n : Nat) : feed n [] x = x := by
  cases n with
  | zero => rfl
  | succ n => simp [feed, hlocked]

theorem LockedRun.feed_eq {x y : DelCtx} {bytes : List Byte} (h : LockedRun x bytes y) (hy : y.d.state = .locked)
    {n : Nat} (hn : bytes.length ≤ n) : feed n bytes x = y := by
  obtain ⟨turns, rfl⟩ := Nat.exists_eq_add_of_le' hn
  rw [h.feed_add, feed_nil hy]

/-- A run that ends LOCKED comes to the same in two cycles as in one. -/
theorem LockedRun.feed_split {x y : DelCtx} {first second : List Byte} (h : LockedRun x (first ++ second) y)
    (hy : y.d.state = .locked) {m n : Nat} (hm : first.length ≤ m) (hn : second.length ≤ n) :
    feed n second (feed m first x) = y := by
  obtain ⟨z, hfirst, hsecond⟩ := h.split
  rw [hfirst.feed_eq (hsecond.start_locked hy) hm, hsecond.feed_eq hy hn]

/-! ### The places of a parcel (R132, R135) -/

/-- A delineator LOCKED at a place, with the frame it assembles there. -/
def DelCtx.lockedAt (place : Place) (frame : Option RxProgress) (x : DelCtx) : DelCtx :=
  { x with d := { state := .locked, store := [], cand := none, place := place, frame := frame } }

theorem DelCtx.lockedAt_boundary {x : DelCtx} (h : AtBoundary x.d) : x.lockedAt (.header []) none = x := by
  unfold DelCtx.lockedAt
  rw [← h]

theorem atBoundary_locked {d : Delin} (h : AtBoundary d) : d.state = .locked := by rw [h]

/-- Four header bytes at a parcel's start. -/
theorem lockedRun_header {x : DelCtx} (h : AtBoundary x.d) (a b c d : Byte) :
    LockedRun x [a, b, c, d] (headerPlace [a, b, c, d] (x.lockedAt (.header [a, b, c]) none)) := by
  rw [← DelCtx.lockedAt_boundary h]
  exact .cons rfl (.cons rfl (.cons rfl (.cons rfl (.nil _))))

/-- Bytes that are passed over (R135). -/
theorem lockedRun_skip (x : DelCtx) (bytes : List Byte) (h : bytes ≠ []) :
    LockedRun (x.lockedAt (.skip bytes.length) none) bytes (x.lockedAt (.header []) none) := by
  induction bytes with
  | nil => exact absurd rfl h
  | cons b bytes ih =>
    refine .cons rfl ?_
    cases bytes with
    | nil => exact .nil _
    | cons b' bytes => exact ih (List.cons_ne_nil b' bytes)

/-- What a frame in progress is after some of its payload: its blocks are those that these bytes need. -/
def progress (len : Nat) (cls : Byte) (taken : List Byte) : RxProgress where
  len := len
  cls := cls
  data := taken
  blocks := (taken.length + 127) / 128
  crc := taken.foldl crc32Byte crc32Init

/-- The place in a parcel after a number of payload bytes (R135). -/
def placeAfter (len taken : Nat) : Place := if taken = len then .check [] else .payload taken

/-- A delineator with some payload of a frame taken, and with the blocks it needed. -/
def DelCtx.taking (len : Nat) (cls : Byte) (taken : List Byte) (x : DelCtx) : DelCtx :=
  { x with free := x.free - (taken.length + 127) / 128, use := x.use + (taken.length + 127) / 128 }.lockedAt
    (placeAfter len taken.length) (some (progress len cls taken))

/-- The blocks that a number of payload bytes need are free and left of the quota. -/
def DelCtx.HasRoom (n : Nat) (x : DelCtx) : Prop := (n + 127) / 128 ≤ x.free ∧ (n + 127) / 128 ≤ x.quota - x.use

theorem DelCtx.hasRoom_zero (x : DelCtx) : x.HasRoom 0 := ⟨Nat.zero_le _, Nat.zero_le _⟩

theorem DelCtx.HasRoom.mono {x : DelCtx} {k n : Nat} (h : x.HasRoom n) (hk : k ≤ n) : x.HasRoom k := by
  unfold DelCtx.HasRoom at h ⊢
  omega

/-- A payload byte that begins a block needs one more, and one that does not needs none. -/
theorem DelCtx.hasRoom_succ_of_inside {x : DelCtx} {n : Nat} (h : n % 128 ≠ 0) :
    x.HasRoom (n + 1) ↔ x.HasRoom n := by
  have hblocks : (n + 1 + 127) / 128 = (n + 127) / 128 := by omega
  rw [DelCtx.HasRoom, hblocks, DelCtx.HasRoom]

theorem blockGranted_taking {x : DelCtx} {len : Nat} {cls : Byte} {taken : List Byte}
    (hblock : taken.length % 128 = 0) :
    blockGranted (x.taking len cls taken) = true ↔ x.HasRoom (taken.length + 1) := by
  have hblocks : (taken.length + 1 + 127) / 128 = (taken.length + 127) / 128 + 1 := by omega
  rw [blockGranted, Bool.and_eq_true, decide_eq_true_iff, decide_eq_true_iff]
  simp only [DelCtx.taking, DelCtx.lockedAt, DelCtx.HasRoom, hblocks]
  omega

/-- A frame's header begins it. -/
theorem lockedRun_begin {x : DelCtx} (h : AtBoundary x.d) {len : Nat} (hpos : 1 ≤ len) (hlen : len ≤ 1536)
    (cls : Byte) :
    LockedRun x (parcelHeader len cls) (x.taking len cls []) := by
  obtain ⟨a, b, c, d, hheader⟩ := parcelHeader_eq len cls
  have hread := readParcelHeader_parcelHeader len cls hlen
  have hrun := lockedRun_header h a b c d
  have hframe : len ≠ 0 := Nat.ne_of_gt hpos
  rw [hheader] at hread ⊢
  simpa [headerPlace, hread, beginParcel, hframe, hframe.symm, DelCtx.taking, DelCtx.lockedAt, placeAfter,
    progress] using hrun

/-- A fill's header is all of it. -/
theorem lockedRun_fill {x : DelCtx} (h : AtBoundary x.d) : LockedRun x (parcelHeader 0 0) x := by
  obtain ⟨a, b, c, d, hheader⟩ := parcelHeader_eq 0 0
  have hread := readParcelHeader_parcelHeader 0 0 (by decide)
  have hrun := lockedRun_header h a b c d
  have hboundary : beginParcel (0, 0) (x.lockedAt (.header [a, b, c]) none) = x := DelCtx.lockedAt_boundary h
  rw [hheader] at hread ⊢
  simpa only [headerPlace, hread, hboundary] using hrun

theorem lockedByte_payload {x : DelCtx} {len : Nat} {cls : Byte} {taken : List Byte} (hlen : taken.length < len)
    (b : Byte) : lockedByte b (x.taking len cls taken) =
      payloadPlace taken.length (progress len cls taken) b (x.taking len cls taken) := by
  rw [DelCtx.taking, placeAfter, if_neg (Nat.ne_of_lt hlen)]
  rfl

/-- A payload byte with room for it is taken. -/
theorem lockedByte_taking {x : DelCtx} {len : Nat} {cls : Byte} {taken : List Byte} (hlen : taken.length < len)
    (hroom : x.HasRoom (taken.length + 1)) (b : Byte) :
    lockedByte b (x.taking len cls taken) = x.taking len cls (taken ++ [b]) := by
  rw [lockedByte_payload hlen, payloadPlace]
  by_cases hblock : taken.length % 128 = 0
  · have hblocks : (taken.length + 1 + 127) / 128 = (taken.length + 127) / 128 + 1 := by omega
    rw [if_pos hblock, if_pos ((blockGranted_taking hblock).mpr hroom)]
    simp [takePayload, DelCtx.taking, DelCtx.lockedAt, placeAfter, progress, hblocks, Nat.sub_sub, Nat.add_assoc]
    rfl
  · have hblocks : (taken.length + 1 + 127) / 128 = (taken.length + 127) / 128 := by omega
    rw [if_neg hblock]
    simp [takePayload, DelCtx.taking, DelCtx.lockedAt, placeAfter, progress, hblocks]
    rfl

/-- A payload byte without room for it drops the frame, and its blocks go back (R142). -/
theorem lockedByte_refused {x : DelCtx} {len : Nat} {cls : Byte} {taken : List Byte} (hlen : taken.length < len)
    (hroom : x.HasRoom taken.length) (hfull : ¬ x.HasRoom (taken.length + 1)) (b : Byte) :
    lockedByte b (x.taking len cls taken) =
      { x with dropped := bump x.dropped }.lockedAt (.skip (len - taken.length - 1 + 4)) none := by
  have hblock : taken.length % 128 = 0 := by
    by_contra hinside
    exact hfull ((DelCtx.hasRoom_succ_of_inside hinside).mpr hroom)
  rw [lockedByte_payload hlen, payloadPlace, if_pos hblock, if_neg (mt (blockGranted_taking hblock).mp hfull)]
  simp [dropFrame, DelCtx.taking, DelCtx.lockedAt, progress, Nat.sub_add_cancel hroom.1]

/-- Payload with room for it is taken. -/
theorem lockedRun_payload {x : DelCtx} {len : Nat} (cls : Byte) (taken bytes : List Byte)
    (hlen : taken.length + bytes.length ≤ len) (hroom : x.HasRoom (taken.length + bytes.length)) :
    LockedRun (x.taking len cls taken) bytes (x.taking len cls (taken ++ bytes)) := by
  induction bytes generalizing taken with
  | nil => simpa using LockedRun.nil _
  | cons b bytes ih =>
    have hb : x.HasRoom (taken.length + 1) := hroom.mono (by simp)
    refine .cons rfl ?_
    rw [lockedByte_taking (by simp at hlen; omega) hb, List.append_cons taken b bytes]
    exact ih (taken ++ [b]) (by simp at hlen ⊢; omega) (by simpa [Nat.add_assoc, Nat.add_comm 1] using hroom)

/-- The four check bytes of a frame. -/
theorem lockedRun_check (x : DelCtx) (cls : Byte) (data : List Byte) {check : List Byte} (hcheck : check.length = 4) :
    LockedRun (x.taking data.length cls data) check
      (checkPlace check (progress data.length cls data) (x.taking data.length cls data)) := by
  obtain ⟨a, b, c, d, rfl⟩ := List.length_eq_four.mp hcheck
  rw [DelCtx.taking, placeAfter, if_pos rfl]
  exact .cons rfl (.cons rfl (.cons rfl (.cons rfl (.nil _))))

/-! ### A frame parcel at a locked delineator (R135, R142) -/

/-- What a delineator is after a frame came whole. -/
def DelCtx.delivered (cls : Byte) (data : List Byte) (x : DelCtx) : DelCtx :=
  { x with
    free := x.free - (data.length + 127) / 128, use := x.use + (data.length + 127) / 128
    queue := x.queue ++ [{ cls := cls, data := data }] }

/-- A frame whose check holds is delivered. -/
theorem checkPlace_good {x : DelCtx} (h : AtBoundary x.d) (cls : Byte) (data : List Byte) :
    checkPlace (bytes32 (crc32 data)) (progress data.length cls data) (x.taking data.length cls data) =
      x.delivered cls data := by
  have hcrc : bytes32 (crc32 data) = bytes32 (crc32Final (progress data.length cls data).crc) := rfl
  rw [checkPlace, if_pos hcrc, DelCtx.delivered, h]
  rfl

/-- A frame whose check fails gives its blocks back. -/
theorem checkPlace_bad {x : DelCtx} (h : AtBoundary x.d) (cls : Byte) {data check : List Byte}
    (hcheck : check ≠ bytes32 (crc32 data)) (hroom : x.HasRoom data.length) :
    checkPlace check (progress data.length cls data) (x.taking data.length cls data) =
      { x with badChecks := bump x.badChecks } := by
  have hcrc : check ≠ bytes32 (crc32Final (progress data.length cls data).crc) := hcheck
  have hfree : x.free - (data.length + 127) / 128 + (data.length + 127) / 128 = x.free := Nat.sub_add_cancel hroom.1
  have huse : x.use + (data.length + 127) / 128 - (data.length + 127) / 128 = x.use := Nat.add_sub_cancel ..
  rw [checkPlace, if_neg hcrc, h]
  simp [DelCtx.taking, DelCtx.lockedAt, progress, hfree, huse]

/-- A frame with room for it comes to its check. -/
theorem lockedRun_frame {x : DelCtx} (h : AtBoundary x.d) (cls : Byte) {data check : List Byte}
    (hpos : 1 ≤ data.length) (hlen : data.length ≤ 1536) (hcheck : check.length = 4)
    (hroom : x.HasRoom data.length) :
    LockedRun x (parcelHeader data.length cls ++ data ++ check)
      (checkPlace check (progress data.length cls data) (x.taking data.length cls data)) :=
  have hpayload := lockedRun_payload cls [] data (Nat.zero_add _).le (by simpa using hroom)
  ((lockedRun_begin h hpos hlen cls).append hpayload).append (lockedRun_check x cls data hcheck)

/-- A frame without room for it has a first byte that is refused its block. -/
theorem exists_refused {x : DelCtx} {data : List Byte} (hfull : ¬ x.HasRoom data.length) :
    ∃ taken b left, data = taken ++ b :: left ∧ x.HasRoom taken.length ∧ ¬ x.HasRoom (taken.length + 1) := by
  induction data using List.reverseRecOn with
  | nil => exact absurd x.hasRoom_zero hfull
  | append_singleton data b ih =>
    by_cases hroom : x.HasRoom data.length
    · exact ⟨data, b, [], rfl, hroom, by simpa using hfull⟩
    · obtain ⟨taken, b', left, rfl, hrefused⟩ := ih hroom
      exact ⟨taken, b', left ++ [b], by simp, hrefused⟩

/-- A frame without room for it is dropped, and the rest of its parcel is passed over. -/
theorem lockedRun_dropped {x : DelCtx} (h : AtBoundary x.d) (cls : Byte) {data check : List Byte}
    (hpos : 1 ≤ data.length) (hlen : data.length ≤ 1536) (hcheck : check.length = 4)
    (hfull : ¬ x.HasRoom data.length) :
    LockedRun x (parcelHeader data.length cls ++ data ++ check) { x with dropped := bump x.dropped } := by
  have hbegin := lockedRun_begin h hpos hlen cls
  obtain ⟨taken, b, left, hdata, hroom, hrefused⟩ := exists_refused hfull
  have htaken : taken.length < data.length := by simp [hdata]
  have hskipped : data.length - taken.length - 1 + 4 = (left ++ check).length := by simp [hdata, hcheck]
  have hpayload := lockedRun_payload (x := x) (len := data.length) cls [] taken (by simpa using htaken.le)
    (by simpa using hroom)
  have hparcel : parcelHeader data.length cls ++ taken ++ b :: (left ++ check) =
      parcelHeader data.length cls ++ data ++ check := by simp [hdata]
  have hskip := lockedRun_skip { x with dropped := bump x.dropped } (left ++ check)
    (List.ne_nil_of_length_pos (by simp [hcheck]))
  rw [← hskipped, ← lockedByte_refused (cls := cls) htaken hroom hrefused b,
    DelCtx.lockedAt_boundary (x := { x with dropped := bump x.dropped }) h] at hskip
  have hrun := (hbegin.append hpayload).append (.cons rfl hskip)
  rwa [hparcel] at hrun

/-- A parcel at a locked delineator, however it is split between cycles: the frame is delivered where it has room. -/
theorem feed_delivered {x : DelCtx} (h : AtBoundary x.d) (cls : Byte) {data first second : List Byte}
    (hpos : 1 ≤ data.length) (hlen : data.length ≤ 1536) (hparcel : first ++ second = parcelOf cls data) {m n : Nat}
    (hm : first.length ≤ m) (hn : second.length ≤ n) (hroom : x.HasRoom data.length) :
    feed n second (feed m first x) = x.delivered cls data := by
  have hrun : LockedRun x (parcelOf cls data) _ := lockedRun_frame h cls hpos hlen rfl hroom
  rw [checkPlace_good h, ← hparcel] at hrun
  exact hrun.feed_split (atBoundary_locked h) hm hn

/-- A parcel without room for its frame is dropped, however it is split between cycles. -/
theorem feed_dropped {x : DelCtx} (h : AtBoundary x.d) (cls : Byte) {data first second : List Byte}
    (hpos : 1 ≤ data.length) (hlen : data.length ≤ 1536) (hparcel : first ++ second = parcelOf cls data) {m n : Nat}
    (hm : first.length ≤ m) (hn : second.length ≤ n) (hfull : ¬ x.HasRoom data.length) :
    feed n second (feed m first x) = { x with dropped := bump x.dropped } := by
  have hrun : LockedRun x (parcelOf cls data) _ := lockedRun_dropped h cls hpos hlen rfl hfull
  rw [← hparcel] at hrun
  exact hrun.feed_split (atBoundary_locked h) hm hn

/-- A parcel whose check fails. -/
theorem feed_badCheck {x : DelCtx} (h : AtBoundary x.d) (cls : Byte) {data check : List Byte} (hpos : 1 ≤ data.length)
    (hlen : data.length ≤ 1536) (hfour : check.length = 4) (hcheck : check ≠ bytes32 (crc32 data))
    (hroom : x.HasRoom data.length) {n : Nat} (hn : data.length + 8 ≤ n) :
    feed n (parcelHeader data.length cls ++ data ++ check) x = { x with badChecks := bump x.badChecks } := by
  have hrun := lockedRun_frame h cls hpos hlen hfour hroom
  rw [checkPlace_bad h cls hcheck hroom] at hrun
  have hheader : (parcelHeader data.length cls).length = 4 := rfl
  exact hrun.feed_eq (atBoundary_locked h) (by simp only [List.length_append, hheader, hfour]; omega)

/-- A fill is passed over. -/
theorem feed_fill {x : DelCtx} (h : AtBoundary x.d) {n : Nat} (hn : 4 ≤ n) : feed n (parcelHeader 0 0) x = x :=
  (lockedRun_fill h).feed_eq (atBoundary_locked h) hn

end Sys2Proof.Machine
end


section
/-! SUPPORT. The search of a delineator out of LOCKED (R133, R134), and the passage of a frame from the encoder to the
receive queue. -/

namespace Sys2Proof.Machine

/-! ### The search out of LOCKED (R133, R134) -/

/-- Fewer than four bytes are kept. -/
theorem hunt_short {bytes : List Byte} (h : bytes.length < 4) : hunt bytes = .hunt bytes := by
  cases bytes with
  | nil => rfl
  | cons b rest =>
    have hrest : rest.length < 3 := Nat.lt_of_succ_lt_succ h
    rw [hunt, if_pos hrest]

/-- No valid header at the first offset: the search goes on one byte later. -/
theorem hunt_noHeader {b : Byte} {rest : List Byte} (h : 3 ≤ rest.length)
    (hheader : readParcelHeader ((b :: rest).take 4) = none) : hunt (b :: rest) = hunt rest := by
  rw [hunt, if_neg (Nat.not_lt.mpr h), hheader]

/-- A candidate at the first offset is kept until its successor has come. -/
theorem hunt_verify {bytes : List Byte} {cand : Nat × Byte} (h : 4 ≤ bytes.length)
    (hcand : readParcelHeader (bytes.take 4) = some cand) (hnext : (bytes.drop (parcelSize cand.1)).length < 4) :
    hunt bytes = .verify bytes cand := by
  obtain ⟨b, rest, rfl⟩ := List.exists_cons_of_length_pos (Nat.lt_of_lt_of_le (by decide) h)
  have hrest : ¬ rest.length < 3 := by simp at h; omega
  rw [hunt, if_neg hrest, hcand]
  exact if_pos hnext

/-- A candidate at the first offset with a valid successor. -/
theorem hunt_locked {bytes : List Byte} {cand header : Nat × Byte} (h : 4 ≤ bytes.length)
    (hcand : readParcelHeader (bytes.take 4) = some cand) (hnext : 4 ≤ (bytes.drop (parcelSize cand.1)).length)
    (hheader : readParcelHeader ((bytes.drop (parcelSize cand.1)).take 4) = some header) :
    hunt bytes = .locked header ((bytes.drop (parcelSize cand.1)).drop 4) := by
  obtain ⟨b, rest, rfl⟩ := List.exists_cons_of_length_pos (Nat.lt_of_lt_of_le (by decide) h)
  have hrest : ¬ rest.length < 3 := by simp at h; omega
  rw [hunt, if_neg hrest, hcand]
  simp only [if_neg (Nat.not_lt.mpr hnext), hheader]

/-- A candidate at the first offset whose successor is not valid: the search goes on one byte later. -/
theorem hunt_noSuccessor {b : Byte} {rest : List Byte} {cand : Nat × Byte} (h : 3 ≤ rest.length)
    (hcand : readParcelHeader ((b :: rest).take 4) = some cand)
    (hnext : 4 ≤ ((b :: rest).drop (parcelSize cand.1)).length)
    (hheader : readParcelHeader (((b :: rest).drop (parcelSize cand.1)).take 4) = none) :
    hunt (b :: rest) = hunt rest := by
  rw [hunt, if_neg (Nat.not_lt.mpr h), hcand]
  simp only [if_neg (Nat.not_lt.mpr hnext), hheader]

/-- An offset ruled out is passed. -/
theorem hunt_ruledOut {b : Byte} {rest : List Byte} (h : RuledOut (b :: rest) 0) : hunt (b :: rest) = hunt rest := by
  obtain ⟨hfour, hsuccessor⟩ := h
  have hrest : 3 ≤ rest.length := by simp at hfour; omega
  cases hcand : readParcelHeader ((b :: rest).take 4) with
  | none => exact hunt_noHeader hrest hcand
  | some cand =>
    obtain ⟨hnext, hheader⟩ := hsuccessor cand.1 cand.2 hcand
    rw [Nat.zero_add] at hnext hheader
    exact hunt_noSuccessor hrest hcand (by rw [List.length_drop]; exact Nat.le_sub_of_add_le' hnext) hheader

/-- Past its first byte a search rules out the same offsets. -/
theorem ruledOut_cons {b : Byte} {rest : List Byte} {i : Nat} (h : RuledOut (b :: rest) (i + 1)) : RuledOut rest i := by
  obtain ⟨hfour, hsuccessor⟩ := h
  refine ⟨by simp at hfour; omega, fun len cls hcand => ?_⟩
  obtain ⟨hnext, hheader⟩ := hsuccessor len cls hcand
  rw [Nat.add_right_comm] at hnext hheader
  exact ⟨by simp at hnext; omega, hheader⟩

/-- The search passes every offset ruled out. -/
theorem hunt_drop {bytes : List Byte} {i : Nat} (h : ∀ k < i, RuledOut bytes k) :
    hunt bytes = hunt (bytes.drop i) := by
  induction i generalizing bytes with
  | zero => rfl
  | succ i ih =>
    cases bytes with
    | nil => rfl
    | cons b rest =>
      rw [hunt_ruledOut (h 0 i.succ_pos), List.drop_succ_cons]
      exact ih fun k hk => ruledOut_cons (h (k + 1) (Nat.succ_lt_succ hk))

/-- What the outcome of a search makes of a delineator: a valid successor begins its parcel, and the bytes after it are
taken. -/
def afterHunt (n : Nat) (x : DelCtx) : Hunted → DelCtx
  | .hunt store =>
    { x with d := { state := .hunt, store := store, cand := none, place := .header [], frame := none } }
  | .verify store cand =>
    { x with d := { state := .verify, store := store, cand := some cand, place := .header [], frame := none } }
  | .locked header rest => feed n rest (beginParcel header x)

/-- Out of LOCKED a turn is one search of the stored and new bytes. -/
theorem feed_search {x : DelCtx} (hx : x.d.state ≠ .locked) (n : Nat) {new : List Byte} {found : Hunted}
    (h : hunt (x.d.store ++ new) = found) : feed (n + 1) new x = afterHunt n x found := by
  unfold feed
  rw [h]
  cases hstate : x.d.state with
  | locked => exact absurd hstate hx
  | hunt => cases found <;> rfl
  | verify => cases found <;> rfl

/-- An invalid header at a parcel's start: its last three bytes are the hunt store (R135). -/
theorem feed_badHeader {x : DelCtx} (h : AtBoundary x.d) {a b c d : Byte}
    (hheader : readParcelHeader [a, b, c, d] = none) {n : Nat} (hn : 5 ≤ n) : feed n [a, b, c, d] x =
      { x with d := { state := .hunt, store := [b, c, d], cand := none, place := .header [], frame := none } } := by
  obtain ⟨turns, rfl⟩ := Nat.exists_eq_add_of_le' hn
  have hrun := lockedRun_header h a b c d
  simp only [headerPlace, hheader] at hrun
  exact (hrun.feed_add (turns + 1)).trans (feed_search (by simp) turns (hunt_short (by simp)))

/-! ### The cycle's bytes at a receive record (R132) -/

/-- A record whose cycle brought bytes: what its delineator left goes back to the record and to the receive pool. -/
theorem delineate_eq (r : RecIx) {bytes : List Byte} (h : bytes ≠ []) (s : State) {out : DelCtx}
    (hout : out = feed (feedFuel (rxAt s r).delin bytes) bytes (delCtx r s)) :
    delineate r bytes s = { s with
      rx := { s.rx with recs := vset s.rx.recs r { rxAt s r with
        delin := out.d, badChecks := out.badChecks, dropped := out.dropped } }
      buf := { s.buf with
        rxFree := out.free, rxUse := vset s.buf.rxUse r out.use, rxQueue := vset s.buf.rxQueue r out.queue } } := by
  subst hout
  exact if_neg (by simpa using h)

/-- Settles O58: the encoder's parcel, the run of a locked delineator through it, and the search. -/
theorem framePassesFromEncoderToReceiveQueue : Obligations.FramePassesFromEncoderToReceiveQueue := by
  refine ⟨fun x f rest hx hqueue hcomplete hlen hpos _ => encodeBytes_parcel hx hqueue hcomplete hlen hpos,
    fun x hx hqueue => encodeBytes_fill hx hqueue, fun x k n => encodeBytes_add k n x,
    fun t n s => ⟨_, rfl, encode_eq t n s rfl⟩, ?_, ?_, fun x n h hn => feed_fill h hn,
    fun x a b c d n h hheader hn => feed_badHeader h hheader hn, ?_,
    fun r s => ⟨resetDelin_eq r s, rfl, fun bytes h => ⟨_, rfl, delineate_eq r h s rfl⟩⟩⟩
  · intro x cls data first second m n h hpos hlen hparcel hm hn need
    refine ⟨fun hfree hquota => ?_, fun hfull => ?_⟩
    · exact feed_delivered h cls hpos hlen hparcel hm hn ⟨hfree, Nat.le_sub_of_add_le' hquota⟩
    · have hnone : ¬ x.HasRoom data.length := by
        rintro ⟨hfree, hquota⟩
        omega
      exact feed_dropped h cls hpos hlen hparcel hm hn hnone
  · intro x cls data check n h hpos hlen hfour hcheck hfree hquota hn
    exact feed_badCheck h cls hpos hlen hfour hcheck ⟨hfree, Nat.le_sub_of_add_le' hquota⟩ hn
  · intro x new i n hx bytes hruled _ _ rest
    have hhunt : hunt bytes = hunt rest := hunt_drop hruled
    refine ⟨fun hshort => feed_search hx n (hhunt.trans (hunt_short hshort)), fun len cls hfour hcand => ?_⟩
    intro successor
    refine ⟨fun hnext => ?_, fun len' cls' hnext hheader => ?_⟩
    · exact feed_search hx n (hhunt.trans (hunt_verify hfour hcand hnext))
    · exact feed_search hx n (hhunt.trans (hunt_locked hfour hcand hnext hheader))

end Sys2Proof.Machine
end


section
/-! SUPPORT. Client data frames (R138 to R140, R146, R147): which bytes are a data frame's header and its last byte, what
each test of admission answers, and what a header and a last byte come to. -/

namespace Sys2Proof.Machine

/-! ### The header's first byte (12.3) -/

theorem frameKind_eq_one_iff (x : Byte) : frameKind x = 1 ↔ x.toNat / 16 = 1 := by
  have hx := x.isLt
  have hvalue : (frameKind x).toNat = x.toNat / 16 := by
    simp only [frameKind, field, BitVec.extractLsb'_toNat, Nat.shiftRight_eq_div_pow]
    omega
  rw [← BitVec.toNat_inj, hvalue]
  rfl

theorem toNat_frameIndex (x : Byte) : (frameIndex x).toNat = x.toNat % 16 := by
  simp [frameIndex, field]

theorem recOf_of_val {n : Nat} {t : RecIx} (h : t.val = n) : recOf n = some t := by
  subst h
  exact dif_pos t.isLt

theorem recOf_of_ge {n : Nat} (h : 8 ≤ n) : recOf n = none := dif_neg (not_lt.mpr h)

/-! ### What a byte is (R146, R147) -/

section Bytes

variable {s : State} {role : ByteRole} {b : Byte}

theorem byteRole_dataFrameHeader_iff : byteRole s = .dataFrameHeader ↔
    ∃ x held, s.port.parse = .header (x :: held) ∧ 2 ≤ held.length ∧ x.toNat / 16 = 1 := by
  cases hparse : s.port.parse with
  | between => simp [byteRole, hparse]
  | data left dest => by_cases h : left ≤ 1 <;> simp [byteRole, hparse, h]
  | command left len kept => by_cases h : left ≤ 1 <;> simp [byteRole, hparse, h]
  | header held =>
    cases held with
    | nil => simp [byteRole, hparse]
    | cons x held =>
      have hshort : held.length + 1 < 3 ↔ ¬ 2 ≤ held.length := by omega
      simp only [byteRole, hparse, List.length_cons, List.getD_cons_zero, frameKind_eq_one_iff, hshort]
      by_cases hlong : 2 ≤ held.length
      · by_cases hkind : x.toNat / 16 = 1
        · simp [hlong, hkind]
        · simp only [hlong, hkind, not_true_eq_false, if_false]
          split <;> simp [hkind]
      · simp [hlong]

theorem byteRole_dataFrameLast_iff : byteRole s = .dataFrameLast ↔
    ∃ left dest, s.port.parse = .data left dest ∧ left ≤ 1 := by
  cases hparse : s.port.parse with
  | between => simp [byteRole, hparse]
  | data left dest => by_cases h : left ≤ 1 <;> simp [byteRole, hparse, h]
  | command left len kept => by_cases h : left ≤ 1 <;> simp [byteRole, hparse, h]
  | header held =>
    simp only [byteRole, hparse]
    repeat' split
    all_goals simp

theorem byteAs_taken (hrole : byteRole s = role) (hfree : s.port.outstanding < 24) :
    byteAs role b s = takeByte b s :=
  if_pos ⟨hrole, decide_eq_false (not_le.mpr hfree)⟩

theorem byteAs_other (hrole : byteRole s ≠ role) : byteAs role b s = s := if_neg fun h => hrole h.1

theorem byteAs_held (hheld : 24 ≤ s.port.outstanding) : byteAs role b s = s :=
  if_neg fun h => of_decide_eq_false h.2 hheld

/-- The fourth header byte of a data frame. -/
theorem takeByte_dataHeader {x y z : Byte} (hparse : s.port.parse = .header [x, y, z]) (hkind : x.toNat / 16 = 1) :
    takeByte b s = dataHeader (frameIndex x) y (z.toNat * 256 + b.toNat) s := by
  simp [takeByte, hparse, headerComplete, (frameKind_eq_one_iff x).mpr hkind]

/-- The last payload byte of a data frame. -/
theorem takeByte_dataLast {left : Nat} {dest : Option RecIx} (hparse : s.port.parse = .data left dest)
    (hleft : left ≤ 1) : takeByte b s = parsed (payloadByte dest b true s) .between := by
  have hover : left - 1 = 0 := Nat.sub_eq_zero_of_le hleft
  simp only [takeByte, hparse, hleft, hover, decide_true]
  rfl

end Bytes

theorem exec_dataFrameHeader (b : Byte) (s : State) : exec (.dataFrameHeader b) s = execDataFrameHeader b s := rfl

theorem exec_dataFrameLastByte (b : Byte) (s : State) : exec (.dataFrameLastByte b) s = execDataFrameLastByte b s := rfl

section Exec

variable {s : State} {b : Byte} (hreset : s.pins.resetAsserted = false)
include hreset

theorem exec_dataFrameHeader_other
    (h : ∀ x held, s.port.parse = .header (x :: held) → held.length < 2 ∨ x.toNat / 16 ≠ 1) :
    exec (.dataFrameHeader b) s = .next (settle s) := by
  rw [exec_dataFrameHeader, execDataFrameHeader, run_of_released hreset, byteAs_other]
  rw [ne_eq, byteRole_dataFrameHeader_iff]
  rintro ⟨x, held, hparse, hlong, hkind⟩
  exact (h x held hparse).elim (not_lt.mpr hlong) (absurd hkind)

theorem exec_dataFrameHeader_held (h : 24 ≤ s.port.outstanding) :
    exec (.dataFrameHeader b) s = .next (settle s) := by
  rw [exec_dataFrameHeader, execDataFrameHeader, run_of_released hreset, byteAs_held h]

theorem exec_dataFrameLastByte_other (h : ∀ left dest, s.port.parse = .data left dest → 2 ≤ left) :
    exec (.dataFrameLastByte b) s = .next (settle s) := by
  rw [exec_dataFrameLastByte, execDataFrameLastByte, run_of_released hreset, byteAs_other]
  rw [ne_eq, byteRole_dataFrameLast_iff]
  rintro ⟨left, dest, hparse, hleft⟩
  exact not_lt.mpr hleft (h left dest hparse)

theorem exec_dataFrameLastByte_held (h : 24 ≤ s.port.outstanding) :
    exec (.dataFrameLastByte b) s = .next (settle s) := by
  rw [exec_dataFrameLastByte, execDataFrameLastByte, run_of_released hreset, byteAs_held h]

variable (hfree : s.port.outstanding < 24)
include hfree

theorem exec_dataFrameHeader_taken {x y z : Byte} (hparse : s.port.parse = .header [x, y, z])
    (hkind : x.toNat / 16 = 1) : exec (.dataFrameHeader b) s =
      .next (settle (dataHeader (frameIndex x) y (z.toNat * 256 + b.toNat) s)) := by
  have hrole := byteRole_dataFrameHeader_iff.mpr ⟨x, [y, z], hparse, le_rfl, hkind⟩
  rw [exec_dataFrameHeader, execDataFrameHeader, run_of_released hreset, byteAs_taken hrole hfree,
    takeByte_dataHeader hparse hkind]

theorem exec_dataFrameLastByte_taken {left : Nat} {dest : Option RecIx} (hparse : s.port.parse = .data left dest)
    (hleft : left ≤ 1) : exec (.dataFrameLastByte b) s =
      .next (settle (parsed (payloadByte dest b true s) .between)) := by
  have hrole := byteRole_dataFrameLast_iff.mpr ⟨left, dest, hparse, hleft⟩
  rw [exec_dataFrameLastByte, execDataFrameLastByte, run_of_released hreset, byteAs_taken hrole hfree,
    takeByte_dataLast hparse hleft]

end Exec

/-! ### The tests of admission, in their order (R139) -/

section Admission

variable {ix len : Nat} {s : State} {t : RecIx}

theorem admissionFault_length (hlen : len = 0 ∨ 1536 < len) : admissionFault ix len s = some .length := by
  have hout : inRange len 1 1536 = false := by
    rw [inRange_eq_decide, decide_eq_false_iff_not]
    omega
  simp [admissionFault, hout]

variable (hpos : 1 ≤ len) (hmax : len ≤ 1536)
include hpos hmax

theorem inRange_dataLength : inRange len 1 1536 = true := by
  rw [inRange_eq_decide]
  exact decide_eq_true ⟨hpos, hmax⟩

theorem admissionFault_unnamed (hix : 8 ≤ ix) : admissionFault ix len s = some .notOpen := by
  simp [admissionFault, inRange_dataLength hpos hmax, recOf_of_ge hix]

variable (hix : t.val = ix)
include hix

theorem admissionFault_notOpen (hstate : (txAt s t).state ≠ .opened) : admissionFault ix len s = some .notOpen := by
  simp [admissionFault, inRange_dataLength hpos hmax, recOf_of_val hix, hstate]

variable (hopen : (txAt s t).state = .opened)
include hopen

/-- Of an OPEN record only the pool and its quota are left to test. -/
theorem admissionFault_opened : admissionFault ix len s =
    if s.buf.txFree < blocksFor len ∨ (cfg s).txQuota < vget s.buf.txUse t + blocksFor len then some .full
    else none := by
  simp [admissionFault, inRange_dataLength hpos hmax, recOf_of_val hix, hopen]

end Admission

/-! ### An admitted frame and a discarded one (R138 to R140) -/

section Header

variable {k : BitVec 4} {cls : Byte} {ix len : Nat} {s : State}

theorem countDiscard_eq (ix : Nat) (reason : DiscardReason) (s : State) :
    countDiscard ix reason s = discarded s ix reason := by
  unfold countDiscard discarded
  by_cases h : ix < 8
  · rw [recOf_of_val (t := ⟨ix, h⟩) rfl, dif_pos h]
    cases reason <;> rfl
  · rw [recOf_of_ge (not_lt.mp h), dif_neg h]
    rfl

theorem discardTotal_eq (ix : Nat) (s : State) : discardTotal ix s = discards s ix := by
  unfold discardTotal discards
  by_cases h : ix < 8
  · rw [recOf_of_val (t := ⟨ix, h⟩) rfl, dif_pos h]
  · rw [recOf_of_ge (not_lt.mp h), dif_neg h]

@[simp] theorem discarded_port (s : State) (ix : Nat) (reason : DiscardReason) :
    (discarded s ix reason).port = s.port := by
  unfold discarded
  split <;> rfl

@[simp] theorem discarded_flags (s : State) (ix : Nat) (reason : DiscardReason) :
    (discarded s ix reason).buf.flags = s.buf.flags := by
  unfold discarded
  split <;> rfl

section Discard

variable (reason : DiscardReason) {flag : Fin 9} (hflag : flag.val = min ix 8)
include hflag

/-- With its index's flag set a discard is counted only (R140). -/
theorem discardFrame_unreported (hset : vget s.buf.flags flag = true) :
    discardFrame ix len reason s = discarded s ix reason := by
  simp only [discardFrame, countDiscard_eq, discarded_flags, flagIx_eq hflag, hset, if_true]

/-- With its index's flag clear a discard is reported, and the flag is set where the report was taken (R140). -/
theorem discardFrame_reported (hclear : vget s.buf.flags flag = false) :
    let s1 := discarded s ix reason
    let posted := s.port.post (.discard (BitVec.ofNat 4 ix) reason len (discards s1 ix))
    discardFrame ix len reason s =
      { s1 with port := posted.1, buf := { s1.buf with flags := vset s1.buf.flags flag posted.2 } } := by
  simp only [discardFrame, countDiscard_eq, discardTotal_eq, discarded_port, discarded_flags, flagIx_eq hflag, hclear,
    Bool.false_eq_true, if_false]

end Discard

theorem dataHeader_admitted {t : RecIx} (hix : t.val = k.toNat) (hfault : admissionFault k.toNat len s = none) :
    dataHeader k cls len s = parsed (admitFrame t len cls s) (bytesDue len (some t)) := by
  simp only [dataHeader, admitData, hfault, recOf_of_val hix]
  rfl

theorem dataHeader_discarded {reason : DiscardReason} (hfault : admissionFault k.toNat len s = some reason) :
    dataHeader k cls len s = parsed (discardFrame k.toNat len reason s) (bytesDue len none) := by
  simp only [dataHeader, admitData, hfault]
  rfl

/-- The newest frame of a queue takes a payload byte (R138). -/
theorem fillNewest_append (b : Byte) (last : Bool) (q : List TxFrame) (f : TxFrame) :
    fillNewest b last (q ++ [f]) = q ++ [{ f with data := f.data ++ [b], complete := last }] := by
  simp [fillNewest]

/-- A payload byte goes to the newest frame of its record's queue (R138). -/
theorem payloadByte_some {t : RecIx} {q : List TxFrame} {f : TxFrame} (b : Byte) (last : Bool)
    (hqueue : vget s.buf.txQueue t = q ++ [f]) : payloadByte (some t) b last s = { s with
      buf := { s.buf with
        txQueue := vset s.buf.txQueue t (q ++ [{ f with data := f.data ++ [b], complete := last }]) } } := by
  rw [payloadByte, State.modBuf, vmod, hqueue, fillNewest_append]

end Header

/-- Settles O46: a header whose frame is admitted or fails a test, a byte that is no such event, and the last byte. -/
theorem dataFrameIsAdmittedThenCompleted : Obligations.DataFrameIsAdmittedThenCompleted := by
  refine ⟨fun b x y z s hreset hfree hparse hkind => ?_,
    fun b s hreset => ⟨exec_dataFrameHeader_other hreset,
      fun hheld => ⟨exec_dataFrameHeader_held hreset hheld, exec_dataFrameLastByte_held hreset hheld⟩⟩,
    fun b s hreset hfree => ⟨fun left hparse hleft => exec_dataFrameLastByte_taken hreset hfree hparse hleft,
      fun left t q f hparse hleft hqueue => ?_, exec_dataFrameLastByte_other hreset⟩⟩
  · intro ix len need
    have hix : (frameIndex x).toNat = ix := toNat_frameIndex x
    rw [exec_dataFrameHeader_taken hreset hfree hparse hkind]
    refine ⟨fun t ht hpos hmax hopen hblocks hquota => ?_, fun reason hreason flag hflag => ?_⟩
    · have hfault : admissionFault ix len s = none :=
        (admissionFault_opened hpos hmax ht hopen).trans
          (if_neg (not_or.mpr ⟨not_lt.mpr hblocks, not_lt.mpr hquota⟩))
      have hdue : bytesDue len (some t) = .data len (some t) := if_neg (Nat.ne_of_gt hpos)
      rw [dataHeader_admitted (ht.trans hix.symm) (hix ▸ hfault), hdue]
      rfl
    · have hfault : admissionFault ix len s = some reason := by
        rcases hreason with ⟨rfl, hlen⟩ | ⟨rfl, hpos, hmax, hunnamed | ⟨t, ht, hstate⟩⟩ |
          ⟨rfl, hpos, hmax, t, ht, hopen, hfull⟩
        · exact admissionFault_length hlen
        · exact admissionFault_unnamed hpos hmax hunnamed
        · exact admissionFault_notOpen hpos hmax ht hstate
        · exact (admissionFault_opened hpos hmax ht hopen).trans (if_pos hfull)
      rw [dataHeader_discarded (hix ▸ hfault), hix]
      refine ⟨fun hset => ?_, fun hclear => ?_⟩
      · rw [discardFrame_unreported reason hflag hset]
      · rw [discardFrame_reported reason hflag hclear]
  · rw [exec_dataFrameLastByte_taken hreset hfree hparse hleft, payloadByte_some b true hqueue]
    rfl

end Sys2Proof.Machine
end


section
/-! SUPPORT. The three invariants that every step keeps: the account of commands and answers (R147 to R149, R154, R159),
the bound of the report queue (R155), and that a station which does not run is still (R163, R167). Which changes keep
them, and that the arbiter's choice, a reset and entry to FAILED do. -/

namespace Sys2Proof.Machine

/-! ### The three invariants together -/

/-- The change from s to t keeps the three invariants. -/
def Keeps (s t : State) : Prop :=
  (s.CommandsKept → t.CommandsKept) ∧ (s.ReportsBounded → t.ReportsBounded) ∧
    (s.StillUnlessRunning → t.StillUnlessRunning)

theorem Keeps.refl (s : State) : Keeps s s := ⟨id, id, id⟩

theorem Keeps.trans {s t u : State} (h : Keeps s t) (h' : Keeps t u) : Keeps s u := by
  obtain ⟨hcommands, hreports, hstill⟩ := h
  obtain ⟨hcommands', hreports', hstill'⟩ := h'
  exact ⟨hcommands' ∘ hcommands, hreports' ∘ hreports, hstill' ∘ hstill⟩

/-- What stillness is about (R163, R167), with the loader's state. -/
structure Works where
  loader : LoaderState
  lock : LaneNo → LockState
  emitted : LaneNo → Option Emission
  role : Role
  queue : List QueuedNotice
  offer : LaneNo → Option Offer
  slot : SlotAddr → SlotState
  requests : List ClaimReq
  tx : RecIx → TxState
  rx : RecIx → RxState
  strays : List Stray

def State.works (s : State) : Works where
  loader := s.loader.state
  lock l := (laneAt s l).state
  emitted l := (laneAt s l).emitted
  role := s.timing.role
  queue := s.notice.queue
  offer := vget s.notice.offers
  slot a := (slotAt s a).state
  requests := s.slots.queue
  tx t := (txAt s t).state
  rx r := (rxAt s r).state
  strays := s.rx.strays

def Works.StillUnlessRunning (w : Works) : Prop :=
  (w.loader = .listening ∨ w.loader = .attached) ∨
    (∀ l, w.lock l = .disabled ∧ w.emitted l = none) ∧ w.role = .quiet ∧ w.queue = [] ∧ (∀ l, w.offer l = none) ∧
      (∀ a, w.slot a = .unseen) ∧ w.requests = [] ∧ (∀ t, w.tx t = .vacant) ∧ (∀ r, w.rx r = .vacant) ∧ w.strays = []

theorem stillUnlessRunning_iff (s : State) : s.StillUnlessRunning ↔ s.works.StillUnlessRunning := Iff.rfl

theorem stillUnlessRunning_congr {s t : State} (h : t.works = s.works) (hs : s.StillUnlessRunning) :
    t.StillUnlessRunning := by
  rw [stillUnlessRunning_iff, h]
  exact hs

/-- Every command counted is in one place, and the counts keep their limits, as the account shows it. -/
def Account.Kept (a : Account) : Prop :=
  a.outstanding = a.cmdQueue.length + a.owed + a.replying ∧ a.outstanding ≤ 24 ∧ a.cmdQueue.length ≤ 8

theorem commandsKept_iff (s : State) : s.CommandsKept ↔ s.outside.fixed.account.Kept := Iff.rfl

/-- The first two invariants are about the account, the third about the works. -/
theorem keeps_of_kept {s t : State} (hkept : s.outside.fixed.account.Kept → t.outside.fixed.account.Kept)
    (hreports : t.outside.fixed.account.reports = s.outside.fixed.account.reports)
    (hstill : s.StillUnlessRunning → t.StillUnlessRunning) : Keeps s t := by
  refine ⟨hkept, ?_, hstill⟩
  rw [reportsBounded_iff, reportsBounded_iff]
  exact hreports.trans

theorem keeps_of_account {s t : State} (h : t.outside.fixed.account = s.outside.fixed.account)
    (hstill : s.StillUnlessRunning → t.StillUnlessRunning) : Keeps s t :=
  keeps_of_kept (h ▸ id) (congrArg Account.reports h) hstill

/-- A change of what stillness is not about, which leaves the account as it was. -/
theorem keeps_of_works {s t : State} (h : t.outside.fixed.account = s.outside.fixed.account)
    (hworks : t.works = s.works) : Keeps s t := keeps_of_account h (stillUnlessRunning_congr hworks)

theorem running_of_fixed {s t : State} (h : t.outside.fixed = s.outside.fixed) (hrun : s.Running) : t.Running := by
  have hloader : t.loader = s.loader := congrArg Fixed.loader h
  rw [State.Running, hloader]
  exact hrun

/-- An effect of a block that runs. -/
theorem keeps_of_running {s t : State} (hrun : s.Running) (h : t.outside.fixed = s.outside.fixed) : Keeps s t :=
  keeps_of_account (congrArg Fixed.account h) fun _ => .inl (running_of_fixed h hrun)

/-- An effect that a still station does not have. -/
theorem keeps_of_not_still {s t : State} (hstill : ¬ s.Still) (h : t.outside.fixed = s.outside.fixed) : Keeps s t :=
  keeps_of_account (congrArg Fixed.account h) fun hs => .inl (running_of_fixed h (hs.resolve_right hstill))

theorem keeps_ite {c : Prop} [Decidable c] {s t : State} (h : c → Keeps s t) : Keeps s (if c then t else s) := by
  split
  · exact h ‹_›
  · exact Keeps.refl s

/-- An effect that a block has only while the station runs. -/
theorem keeps_whenRunning {c : Prop} [Decidable c] {s t : State} (h : t.outside.fixed = s.outside.fixed) :
    Keeps s (if running s ∧ c then t else s) :=
  keeps_ite fun ⟨hrun, _⟩ => keeps_of_running ((running_iff s).mp hrun) h

/-! ### The arbiter's choice and one step of a block (R158) -/

theorem works_settle (s : State) : (settle s).works = s.works := by
  rw [settle_eta]
  rfl

theorem works_choose (s : State) : (choose s).works = s.works := by
  rw [choose_eta]
  rfl

theorem commandsKept_of_answers {s t : State} (houtstanding : t.port.outstanding = s.port.outstanding)
    (hqueue : t.port.cmdQueue = s.port.cmdQueue)
    (hanswers : t.port.owed + t.port.stage.replying = s.port.owed + s.port.stage.replying) (h : s.CommandsKept) :
    t.CommandsKept := by
  obtain ⟨hsum, htop, hroom⟩ := h
  rw [State.CommandsKept, houtstanding, hqueue]
  exact ⟨by omega, htop, hroom⟩

theorem keeps_settle (s : State) : Keeps s (settle s) :=
  ⟨commandsKept_of_answers (by rw [settle_eta]) (by rw [settle_eta]) (answers_settle s),
    fun h => (reportsBounded_iff _).mpr (reportsOk_settle s ((reportsBounded_iff s).mp h)),
    stillUnlessRunning_congr (works_settle s)⟩

theorem keeps_choose (s : State) : Keeps s (choose s) :=
  ⟨commandsKept_of_answers (by rw [choose_eta]) (by rw [choose_eta]) (answers_choose s),
    fun h => (reportsBounded_iff _).mpr (reportsOk_choose s ((reportsBounded_iff s).mp h)),
    stillUnlessRunning_congr (works_choose s)⟩

/-- A step of a block keeps what its effect keeps. -/
theorem keeps_run {f : State → State} {s t : State} (h : run f s = .next t) (hf : ∀ s, Keeps s (f s)) :
    Keeps s t := by
  unfold run at h
  split at h
  · cases h
    exact Keeps.refl s
  · cases h
    exact (hf s).trans (keeps_settle _)

/-! ### Reset (R163, R164) and entry to FAILED (R167) -/

theorem still_resetAll (parse : Parse) (reading : Bool) (s : State) : (resetAll parse reading s).Still := by
  refine ⟨fun l => ?_, rfl, rfl, fun l => vget_replicate _ _, fun a => ?_, rfl, fun t => ?_, fun r => ?_, rfl⟩
  · rw [show laneAt (resetAll parse reading s) l = laneAt State.reset l from rfl, laneAt_reset]
    exact ⟨rfl, rfl⟩
  · rw [show slotAt (resetAll parse reading s) a = slotAt State.reset a from rfl, slotAt_reset]
    rfl
  · rw [show txAt (resetAll parse reading s) t = txAt State.reset t from rfl, txAt_reset]
    rfl
  · rw [show rxAt (resetAll parse reading s) r = rxAt State.reset r from rfl, rxAt_reset]
    rfl

/-- Reset leaves no command, no answer and no report. -/
theorem keeps_resetAll (parse : Parse) (reading : Bool) (s : State) : Keeps s (resetAll parse reading s) :=
  ⟨fun _ => ⟨rfl, Nat.zero_le _, Nat.zero_le _⟩, fun _ => ⟨Nat.zero_le _, Nat.zero_le _⟩,
    fun _ => .inr (still_resetAll _ _ s)⟩

/-- Entry to FAILED leaves the station still. -/
theorem still_enterFailed (reason : FailReason) (rep : Nat → Report) (s : State) :
    (enterFailed reason rep s).Still := by
  refine ⟨fun l => ?_, rfl, rfl, fun l => vget_replicate _ _, fun a => ?_, rfl, fun t => ?_, fun r => ?_, rfl⟩
  · simp [enterFailed, report, laneAt, Lane.clear, Lane.reset]
  · simp [enterFailed, report, slotAt, SlotUnit.clear, SlotUnit.reset, SlotRec.reset]
  · simp [enterFailed, report, txAt, txClear_eq, vget, TxRec.clear, TxRec.reset]
  · simp [enterFailed, report, rxAt, RxEngine.clear, RxRec.clear, RxRec.reset]

theorem stillUnlessRunning_idClash (place : ClashPlace) {s : State} (h : s.StillUnlessRunning) :
    (idClash place s).StillUnlessRunning := by
  unfold idClash
  split
  · exact .inr (still_enterFailed _ _ s)
  · exact h

end Sys2Proof.Machine
end


section
/-! SUPPORT. The steps of the blocks on the slot bus keep the three invariants: those of a station that runs leave the
loader as it was or end in an ID clash, and a still station has none of them. -/

namespace Sys2Proof.Machine

/-! ### The blocks that may find an ID clash (R55, R75, R170) -/

section Clash

variable {s : State} (hrun : s.Running)
include hrun

theorem stillUnlessRunning_of_fixed {t : State} (h : t.outside.fixed = s.outside.fixed) : t.StillUnlessRunning :=
  .inl (running_of_fixed h hrun)

theorem stillUnlessRunning_ownHeader (a : SlotAddr) : (ownHeader a s).StillUnlessRunning := by
  unfold ownHeader
  split
  · exact stillUnlessRunning_of_fixed hrun (by simp)
  · exact stillUnlessRunning_idClash _ (.inl hrun)

theorem stillUnlessRunning_lostAfterHeader (a : SlotAddr) (checkOk : Bool) :
    (lostAfterHeader a checkOk s).StillUnlessRunning := by
  unfold lostAfterHeader
  split
  · exact stillUnlessRunning_ownHeader hrun a
  · exact stillUnlessRunning_of_fixed hrun (by simp)

theorem stillUnlessRunning_claimOutcome (a : SlotAddr) (o : SendOutcome) (read : StationId) :
    (claimOutcome a o read s).StillUnlessRunning := by
  cases o with
  | won =>
    refine stillUnlessRunning_of_fixed hrun ?_
    simp only [claimOutcome]
    split <;> simp
  | lostAfter ok => exact stillUnlessRunning_lostAfterHeader (running_of_fixed (by simp) hrun) a ok
  | lostIn => exact stillUnlessRunning_of_fixed hrun (by simp [claimOutcome])
  | lostBefore => exact stillUnlessRunning_of_fixed hrun (by simp [claimOutcome])
  | abandoned => exact stillUnlessRunning_of_fixed hrun (by simp [claimOutcome])

theorem stillUnlessRunning_mineOutcome (a : SlotAddr) (o : SendOutcome) (read : StationId) :
    (mineOutcome a o read s).StillUnlessRunning := by
  cases o with
  | lostAfter ok => exact stillUnlessRunning_lostAfterHeader hrun a ok
  | won => exact stillUnlessRunning_of_fixed hrun (by simp [mineOutcome])
  | lostIn => exact stillUnlessRunning_of_fixed hrun (by simp [mineOutcome])
  | lostBefore => exact stillUnlessRunning_of_fixed hrun (by simp [mineOutcome])
  | abandoned => exact stillUnlessRunning_of_fixed hrun (by simp [mineOutcome])

theorem stillUnlessRunning_releasedOutcome (a : SlotAddr) (o : SendOutcome) :
    (releasedOutcome a o s).StillUnlessRunning := by
  unfold releasedOutcome
  split
  · exact stillUnlessRunning_lostAfterHeader hrun a _
  all_goals exact stillUnlessRunning_of_fixed hrun (by simp)

theorem stillUnlessRunning_headerOutcome (a : SlotAddr) (c : CycleNo) (result : ReadBack 40) :
    (headerOutcome a c result s).StillUnlessRunning := by
  have hdriven (o : SendOutcome) : (markDriven a c o s).Running := running_of_fixed (by simp) hrun
  unfold headerOutcome
  dsimp only
  split
  · exact stillUnlessRunning_claimOutcome (hdriven _) a _ _
  · exact stillUnlessRunning_mineOutcome (hdriven _) a _ _
  · exact .inl hrun
  · exact .inl hrun
  · exact .inl hrun
  · split
    · exact .inl (hdriven _)
    · exact stillUnlessRunning_releasedOutcome (hdriven _) a _

theorem stillUnlessRunning_learn (a : SlotAddr) (c : CycleNo) (h : HeaderRead) :
    (learn a c h s).StillUnlessRunning := by
  cases h with
  | free => exact stillUnlessRunning_of_fixed hrun rfl
  | fault => exact stillUnlessRunning_of_fixed hrun rfl
  | valid hd =>
    by_cases hown : hd.owner = ownId s
    · rw [learn_own hown]
      split
      · exact stillUnlessRunning_of_fixed hrun rfl
      · exact stillUnlessRunning_ownHeader (s := s.modSlot a SlotRec.arrived) (running_of_fixed rfl hrun) a
    · rw [learn_peer hown]
      exact stillUnlessRunning_of_fixed hrun (by simp)

theorem stillUnlessRunning_received (l : LaneNo) (position : Fin 2) (wonHere : Bool) (sender dest : StationId)
    (b : NoticeBody) : (received l position wonHere sender dest b s).StillUnlessRunning := by
  unfold received
  split
  · split
    · exact .inl hrun
    · exact stillUnlessRunning_idClash _ (.inl hrun)
  · exact stillUnlessRunning_of_fixed hrun (by simp)

end Clash

/-! ### Slot arrivals, header outcomes and notices -/

/-- A slot arrival reaches the receive engine only where it found no ID clash. -/
theorem keeps_slotArrival (a : SlotAddr) (c : CycleNo) (h : HeaderRead) (payload : List Byte) {s : State}
    (hrun : s.Running) : Keeps s
      (let s1 := learn a c h (countFault (laneOf a) h s)
       if attached s1 then rxArrival a c h payload s1 else s1) := by
  have hfault : (countFault (laneOf a) h s).Running := running_of_fixed (by simp) hrun
  have hlearn := stillUnlessRunning_learn hfault a c h
  dsimp only
  split
  · next hattached =>
    refine keeps_of_account (by simp) fun _ => .inl ?_
    exact running_of_fixed (by simp) (.inr ((attached_iff _).mp hattached))
  · exact keeps_of_account (by simp) fun _ => hlearn

theorem keeps_noticeArrival (l : LaneNo) (p : Fin 2) (c : CycleNo) (word : BitVec 112) {s : State}
    {t : State} (h : execNoticeArrival l p c word s = .next t) : Keeps s t := by
  refine keeps_run h fun s => keeps_ite fun ⟨hrun, _⟩ => ?_
  rw [running_iff] at hrun
  have hforget : (forgetWon l s).Running := running_of_fixed rfl hrun
  dsimp only
  split
  · exact keeps_of_running hrun rfl
  · exact keeps_of_running hrun rfl
  · exact keeps_of_running hrun rfl
  · exact keeps_of_account (by simp) fun _ => stillUnlessRunning_received hforget _ _ _ _ _ _

/-! ### What a still station does not have -/

section NotStill

variable {s : State}

theorem not_still_of_lane {l : LaneNo} (h : (laneAt s l).state ≠ .disabled) : ¬ s.Still :=
  fun ⟨hlanes, _⟩ => h (hlanes l).1

theorem not_still_of_emitted {l : LaneNo} (h : (laneAt s l).emitted ≠ none) : ¬ s.Still :=
  fun ⟨hlanes, _⟩ => h (hlanes l).2

theorem not_still_of_role (h : s.timing.role ≠ .quiet) : ¬ s.Still := fun ⟨_, hrole, _⟩ => h hrole

theorem not_still_of_offer {l : LaneNo} (h : vget s.notice.offers l ≠ none) : ¬ s.Still :=
  fun ⟨_, _, _, hoffers, _⟩ => h (hoffers l)

theorem not_still_of_rx {r : RecIx} (h : (rxAt s r).state ≠ .vacant) : ¬ s.Still :=
  fun ⟨_, _, _, _, _, _, _, hrx, _⟩ => h (hrx r)

end NotStill

/-! ### The lanes and the timing unit -/

theorem keeps_markVerdict {l : LaneNo} {w : Window} {s t : State} (h : execMarkVerdict l w s = .next t) : Keeps s t := by
  refine keeps_run h fun s => ?_
  split
  · next hlane => exact keeps_of_not_still (not_still_of_lane (l := l) (by simp [hlane])) (by simp)
  · next hlane => exact keeps_of_not_still (not_still_of_lane (l := l) (by simp [hlane])) (by simp)
  all_goals exact Keeps.refl s

theorem keeps_openSearchMarkFound {l : LaneNo} {c : CycleNo} {bit : Nat} {word : BitVec 64} {s t : State}
    (h : execOpenSearchMarkFound l c bit word s = .next t) : Keeps s t := by
  refine keeps_run h fun s => ?_
  dsimp only
  split
  · next hlane _ => exact keeps_of_not_still (not_still_of_lane (l := l) (by simp [hlane])) (by simp)
  · next hlane _ => exact keeps_of_not_still (not_still_of_lane (l := l) (by simp [hlane])) (by simp)
  · exact Keeps.refl s

theorem keeps_markOutcome {l : LaneNo} {result : ReadBack 64} {s t : State}
    (h : execMarkOutcome l result s = .next t) : Keeps s t := by
  refine keeps_run h fun s => ?_
  split
  · exact Keeps.refl s
  · next hmark =>
    exact keeps_ite fun _ => keeps_of_not_still (not_still_of_emitted (l := l) (by simp [hmark])) (by simp)

theorem keeps_coastTimeExpiry {l : LaneNo} {s t : State} (h : execCoastTimeExpiry l s = .next t) : Keeps s t :=
  keeps_run h fun _ => keeps_ite fun ⟨hlane, _⟩ =>
    keeps_of_not_still (not_still_of_lane (l := l) (by simp [hlane])) (by simp)

/-- A change of the timing unit in a role other than QUIET. -/
theorem keeps_inRole {role : Role} (hrole : role ≠ .quiet) {c : Prop} [Decidable c] {s t : State}
    (h : t.outside.fixed = s.outside.fixed) : Keeps s (if s.timing.role = role ∧ c then t else s) :=
  keeps_ite fun ⟨hr, _⟩ => keeps_of_not_still (not_still_of_role (hr ▸ hrole)) h

theorem running_timersAdvanced {s : State} (hrun : s.Running) : (timersAdvanced s).Running := by
  rw [timersAdvanced_eta]
  exact hrun

theorem keeps_flywheelCycleStart {s t : State} (h : execFlywheelCycleStart s = .next t) : Keeps s t := by
  refine keeps_run h fun s => keeps_ite fun hrun => keeps_of_account (by simp) fun _ => .inl ?_
  rw [flywheelTick_eq]
  exact running_of_fixed (by simp) (running_timersAdvanced ((running_iff s).mp hrun))

/-! ### The loader -/

theorem keeps_startUpRecordRead {record : Vector Byte 32} {s t : State}
    (h : execStartUpRecordRead record s = .next t) : Keeps s t := by
  refine keeps_run h fun s => keeps_ite fun _ => keeps_of_account (by simp) fun _ => ?_
  unfold judgeRecord
  split
  · exact .inl (.inl rfl)
  · exact .inr (still_enterFailed _ _ _)

theorem keeps_attachment {s t : State} (h : execAttachment s = .next t) : Keeps s t :=
  keeps_run h fun _ => keeps_ite fun _ => keeps_of_account (by simp) fun _ => .inl (.inr rfl)

theorem keeps_resetPinReleased {s t : State} (h : execResetPinReleased s = .next t) : Keeps s t := by
  unfold execResetPinReleased at h
  split at h <;> cases h
  · exact ⟨id, id, id⟩
  · exact Keeps.refl s

theorem keeps_passTime (s : State) : Keeps s (passTime s) := by
  cases hreset : s.pins.resetAsserted with
  | true =>
    rw [passTime_reset hreset]
    exact Keeps.refl s
  | false =>
    have hreplying : (passTime s).port.stage.replying = s.port.stage.replying := by
      rcases stage_passTime hreset with h | ⟨frame, left, hbefore, -, hafter⟩
      · rw [h]
      · rw [hbefore, hafter]
        cases frame <;> rfl
    rw [passTime_eta hreset]
    exact ⟨commandsKept_of_answers rfl rfl (congrArg (s.port.owed + ·) hreplying), id, id⟩

/-! ### Notices -/

theorem keeps_noticePositionStart {l : LaneNo} {p : Fin 2} {c : CycleNo} {s t : State}
    (h : execNoticePositionStart l p c s = .next t) : Keeps s t := by
  refine keeps_run h fun s => keeps_whenRunning ?_
  split <;> rfl

theorem keeps_noticeOutcome {l : LaneNo} {result : ReadBack 112} {s t : State}
    (h : execNoticeOutcome l result s = .next t) : Keeps s t := by
  refine keeps_run h fun s => ?_
  split
  · exact Keeps.refl s
  · next hoffer => exact keeps_of_not_still (not_still_of_offer (l := l) (by simp [hoffer])) (by simp)

theorem keeps_rosterAgeExpiry {id : StationId} {s t : State} (h : execRosterAgeExpiry id s = .next t) : Keeps s t := by
  refine keeps_run h fun s => ?_
  split
  · exact Keeps.refl s
  · exact keeps_whenRunning (by simp)

theorem keeps_presenceCountdownExpiry {s t : State} (h : execPresenceCountdownExpiry s = .next t) : Keeps s t :=
  keeps_run h fun s => keeps_ite fun ⟨hattached, _⟩ =>
    keeps_of_running (.inr ((attached_iff s).mp hattached)) (by simp)

end Sys2Proof.Machine
end


section
/-! SUPPORT. The steps of the client port keep the three invariants: a command received is counted, one taken is answered
or put in flight, and the end of an answer lowers the count (R147 to R149, R154, R159). -/

namespace Sys2Proof.Machine

/-! ### Commands taken from the command queue (R149) -/

/-- One more answer is owed. -/
def Outside.owing (o : Outside) : Outside :=
  { o with fixed := { o.fixed with account := { o.fixed.account with owed := o.fixed.account.owed + 1 } } }

@[simp] theorem owing_respond (r : Response) (s : State) : (respond r s).outside = s.outside.owing :=
  outside_respond r s

@[simp] theorem owing_putInFlight (e : InFlight) (s : State) : (putInFlight e s).outside = s.outside.owing :=
  outside_putInFlight e s

section TrunkCommands

variable (cmd x y : Byte) (s : State)

@[simp] theorem owing_cmdOpen : (cmdOpen cmd x y s).outside = s.outside.owing := by
  unfold cmdOpen
  dsimp only
  repeat' split
  all_goals simp

@[simp] theorem owing_cmdGrow : (cmdGrow cmd x y s).outside = s.outside.owing := by
  unfold cmdGrow
  repeat' split
  all_goals simp

@[simp] theorem owing_cmdShrink : (cmdShrink cmd x y s).outside = s.outside.owing := by
  unfold cmdShrink
  dsimp only
  repeat' split
  all_goals simp

@[simp] theorem owing_cmdDrop : (cmdDrop cmd x y s).outside = s.outside.owing := by
  unfold cmdDrop
  repeat' split
  all_goals simp

@[simp] theorem owing_cmdClose : (cmdClose cmd x s).outside = s.outside.owing := by
  unfold cmdClose
  repeat' split
  all_goals simp

@[simp] theorem owing_cmdDismiss : (cmdDismiss cmd x s).outside = s.outside.owing := by
  unfold cmdDismiss
  dsimp only
  repeat' split
  all_goals simp

end TrunkCommands

/-- The account once a command taken has been answered or put in flight; a RESTART is pending from then on (R153). -/
def Account.answering (restart : Bool) (a : Account) : Account := { a with owed := a.owed + 1, restart := restart }

theorem answering_of_owing {s t : State} (h : t.outside = s.outside.owing) :
    t.outside.fixed.account = s.outside.fixed.account.answering s.port.restart :=
  congrArg (fun o => o.fixed.account) h

/-- The head of the command queue, taken and answered or put in flight, is one command as before. -/
theorem keeps_taken {s t : State} {restart : Bool} (hhead : s.port.cmdQueue ≠ [])
    (h : t.outside.fixed.account = (popCommand s).outside.fixed.account.answering restart)
    (hstill : (popCommand s).StillUnlessRunning → t.StillUnlessRunning) : Keeps s t := by
  have hlength : (s.port.cmdQueue.drop 1).length + 1 = s.port.cmdQueue.length := by
    have := List.length_pos_of_ne_nil hhead
    rw [List.length_drop]
    omega
  refine keeps_of_kept ?_ ((congrArg Account.reports h).trans rfl) hstill
  rw [h]
  simp only [Account.Kept, Account.answering, State.outside, popCommand, State.modPort, Port.owed]
  omega

theorem ne_nil_of_takeable {s : State} {e : CmdEntry} (h : takeable s = some e) : s.port.cmdQueue ≠ [] := by
  unfold takeable at h
  split at h
  · cases h
  · exact fun hnil => by simp [hnil] at h

theorem works_respond (r : Response) (s : State) : (respond r s).works = s.works := rfl

/-- The command unit takes a head as its own command, refuses it, or leaves it. -/
theorem keeps_command {code : Byte} {everyState : Bool} {body : CmdEntry → State → State} {s : State}
    (hbody : ∀ e u, everyState = true ∨ u.Running → ∃ restart,
      (body e u).outside.fixed.account = u.outside.fixed.account.answering restart ∧
        (u.StillUnlessRunning → (body e u).StillUnlessRunning)) :
    Keeps s (command code everyState body s) := by
  unfold command
  split
  · exact Keeps.refl s
  · next e htake =>
    refine keeps_ite fun _ => ?_
    split
    · next hstate =>
      have hready : everyState = true ∨ (popCommand s).Running :=
        hstate.imp id fun hattached => .inr ((attached_iff s).mp hattached)
      obtain ⟨restart, haccount, hstill⟩ := hbody e (popCommand s) hready
      exact keeps_taken (ne_nil_of_takeable htake) haccount hstill
    · exact keeps_taken (ne_nil_of_takeable htake) (answering_of_owing (owing_respond _ _))
        (stillUnlessRunning_congr (works_respond _ _))

/-- A command that only an ATTACHED station takes. -/
theorem keeps_attachedCommand {code : Byte} {body : CmdEntry → State → State}
    (hbody : ∀ e u, (body e u).outside = u.outside.owing) {s t : State}
    (h : run (command code false body) s = .next t) : Keeps s t := by
  refine keeps_run h fun s => keeps_command fun e u hready => ⟨_, answering_of_owing (hbody e u), fun _ => .inl ?_⟩
  have hloader : (body e u).loader = u.loader := congrArg (fun o => o.fixed.loader) (hbody e u)
  rw [State.Running, hloader]
  exact hready.resolve_left nofun

/-- A command that is answered in every state. -/
theorem keeps_answeredCommand {code : Byte} {body : CmdEntry → State → State}
    (hbody : ∀ e u, ∃ restart, (body e u).outside.fixed.account = u.outside.fixed.account.answering restart)
    (hworks : ∀ e u, (body e u).works = u.works) {s t : State} (h : run (command code true body) s = .next t) :
    Keeps s t := by
  refine keeps_run h fun s => keeps_command fun e u _ => ?_
  obtain ⟨restart, haccount⟩ := hbody e u
  exact ⟨restart, haccount, stillUnlessRunning_congr (hworks e u)⟩

theorem keeps_unknownCommand {s t : State} (h : execUnknownCommand s = .next t) : Keeps s t := by
  refine keeps_run h fun s => ?_
  split
  · exact Keeps.refl s
  · next htake =>
    split
    · exact Keeps.refl s
    · exact keeps_taken (ne_nil_of_takeable htake) (answering_of_owing (owing_respond _ _))
        (stillUnlessRunning_congr (works_respond _ _))

theorem cmdTrunkStatus_responds (cmd dir ix : Byte) (s : State) : ∃ r, cmdTrunkStatus cmd dir ix s = respond r s := by
  unfold cmdTrunkStatus
  dsimp only
  repeat' split
  all_goals exact ⟨_, rfl⟩

theorem works_clearCounters (s : State) : (clearCounters s).works = s.works := by
  simp [State.works, clearCounters, laneAt, slotAt, txAt, rxAt]

theorem cmdCounters_responds (cmd clear : Byte) (s : State) : ∃ r u, cmdCounters cmd clear s = respond r u ∧
    u.outside.fixed.account = s.outside.fixed.account ∧ u.works = s.works := by
  unfold cmdCounters
  split
  · exact ⟨_, s, rfl, rfl, rfl⟩
  · split
    · exact ⟨_, clearCounters s, rfl, rfl, works_clearCounters s⟩
    · exact ⟨_, s, rfl, rfl, rfl⟩

theorem keeps_cmdTrunkStatus {s t : State} (h : execCmdTrunkStatus s = .next t) : Keeps s t := by
  refine keeps_answeredCommand (fun e u => ?_) (fun e u => ?_) h
  · obtain ⟨r, hr⟩ := cmdTrunkStatus_responds e.tag e.arg1 e.arg2 u
    rw [hr]
    exact ⟨_, answering_of_owing (owing_respond r u)⟩
  · obtain ⟨r, hr⟩ := cmdTrunkStatus_responds e.tag e.arg1 e.arg2 u
    rw [hr, works_respond]

theorem keeps_cmdCounters {s t : State} (h : execCmdCounters s = .next t) : Keeps s t := by
  refine keeps_answeredCommand (fun e u => ?_) (fun e u => ?_) h
  · obtain ⟨r, v, hr, haccount, -⟩ := cmdCounters_responds e.tag e.arg1 u
    rw [hr, ← haccount]
    exact ⟨_, answering_of_owing (owing_respond r v)⟩
  · obtain ⟨r, v, hr, -, hworks⟩ := cmdCounters_responds e.tag e.arg1 u
    rw [hr, works_respond, hworks]

theorem keeps_cmdRestart {s t : State} (h : execCmdRestart s = .next t) : Keeps s t :=
  keeps_answeredCommand (fun _ u => ⟨true, answering_of_owing
    (owing_respond _ (u.modPort fun p => { p with restart := true }))⟩) (fun _ _ => rfl) h

/-! ### Client input (R146 to R148) -/

theorem works_commandReceived (e : CmdEntry) (s : State) : (commandReceived e s).works = s.works := by
  unfold commandReceived
  dsimp only
  split <;> rfl

/-- A command received below the hold is one more outstanding, in the command queue or answered (R148). -/
theorem keeps_commandReceived (e : CmdEntry) {s : State} (hfree : s.port.outstanding < 24) :
    Keeps s (commandReceived e s) := by
  refine keeps_of_kept ?_ (by rw [outside_commandReceived]) (stillUnlessRunning_congr (works_commandReceived e s))
  rw [outside_commandReceived]
  simp only [Account.Kept, State.outside]
  split
  · omega
  · rw [List.length_append, List.length_singleton]
    omega

theorem works_countDiscard (ix : Nat) (reason : DiscardReason) (s : State) :
    (countDiscard ix reason s).works = s.works := by
  have hstate (r : TxRec) : (r.countDiscard reason).state = r.state := by cases reason <;> rfl
  unfold countDiscard
  split
  · next t _ =>
    have htx (k : RecIx) : (txAt (s.modTx t (TxRec.countDiscard reason)) k).state = (txAt s k).state := by
      rw [txAt, State.modTx_tx, vget_vmod]
      split
      · next heq => rw [heq, hstate, txAt]
      · rfl
    rw [State.works, funext htx]
    rfl
  · rfl

theorem works_admitData (ix len : Nat) (cls : Byte) (s : State) : (admitData ix len cls s).1.works = s.works := by
  unfold admitData
  split
  · unfold discardFrame
    dsimp only
    split
    · exact works_countDiscard _ _ s
    · exact (show _ = (countDiscard ix _ s).works from rfl).trans (works_countDiscard _ _ s)
  · split <;> rfl

theorem works_payloadByte (dest : Option RecIx) (b : Byte) (last : Bool) (s : State) :
    (payloadByte dest b last s).works = s.works := by
  cases dest <;> rfl

theorem keeps_setParse (x : Parse) (s : State) : Keeps s (setParse x s) := ⟨id, id, id⟩

theorem keeps_headerComplete (h : List Byte) {s : State} (hfree : s.port.outstanding < 24) :
    Keeps s (headerComplete h s) := by
  unfold headerComplete
  dsimp only
  split
  · exact keeps_of_works (by simp) (works_admitData _ _ _ s)
  · split
    · unfold commandHeader
      split
      · exact (keeps_setParse .between s).trans (keeps_commandReceived _ hfree)
      · exact keeps_setParse _ s
    · exact keeps_of_works rfl rfl

/-- A byte taken while the hold is released. -/
theorem keeps_takeByte (b : Byte) {s : State} (hfree : s.port.outstanding < 24) : Keeps s (takeByte b s) := by
  unfold takeByte
  split
  · exact keeps_setParse _ s
  · split
    · exact keeps_setParse _ s
    · exact keeps_headerComplete _ hfree
  · exact keeps_of_works (by simp) (works_payloadByte _ _ _ s)
  · dsimp only
    split
    · exact (keeps_setParse .between s).trans (keeps_commandReceived _ hfree)
    · exact keeps_setParse _ s

theorem inputHold_eq_false_iff (s : State) : inputHold s = false ↔ s.port.outstanding < 24 := by
  rw [inputHold, decide_eq_false_iff_not, not_le]

theorem keeps_heldByte (s : State) : Keeps s (heldByte s) := ⟨id, id, id⟩

theorem keeps_clientInputByte {b : Byte} {s t : State} (h : execClientInputByte b s = .next t) : Keeps s t := by
  refine keeps_run h fun s => ?_
  unfold inputByte
  split
  · exact keeps_heldByte s
  · next hfree => exact keeps_takeByte b ((inputHold_eq_false_iff s).mp (Bool.eq_false_iff.mpr hfree))

theorem keeps_byteAs {role : ByteRole} {b : Byte} {s t : State} (h : run (byteAs role b) s = .next t) : Keeps s t :=
  keeps_run h fun s => keeps_ite fun ⟨_, hfree⟩ => keeps_takeByte b ((inputHold_eq_false_iff s).mp hfree)

theorem keeps_execCommandReceived {b : Byte} {s t : State} (h : execCommandReceived b s = .next t) : Keeps s t :=
  keeps_run h fun s => keeps_ite fun ⟨_, hfree⟩ => keeps_takeByte b ((inputHold_eq_false_iff s).mp hfree)

/-! ### Client output (R158, R159) -/

/-- The end of a frame that is no response. -/
theorem keeps_stageIdle {s : State} (h : s.port.stage.replying = 0) : Keeps s (stageIdle s) :=
  ⟨commandsKept_of_answers rfl rfl (congrArg (s.port.owed + ·) h.symm), id, id⟩

theorem keeps_responseSent {r : Response} {left : Nat} {s : State} (h : s.port.stage = .sending (.response r) left) :
    Keeps s (responseSent r s) := by
  unfold responseSent
  split
  · exact keeps_resetAll _ _ s
  · refine Keeps.trans (t := (stageIdle s).modPort fun p => { p with outstanding := p.outstanding - 1 })
      ⟨fun ⟨hsum, htop, hroom⟩ => ?_, id, id⟩ (keeps_choose _)
    have hreplying : s.port.stage.replying = 1 := by rw [h]; rfl
    refine ⟨?_, Nat.le_trans (Nat.sub_le _ _) htop, hroom⟩
    rw [hreplying] at hsum
    exact Nat.sub_eq_of_eq_add hsum

theorem keeps_reportSent {q : Report} {left : Nat} {s : State} (h : s.port.stage = .sending (.report q) left) :
    Keeps s (reportSent q s) := by
  unfold reportSent
  have hreplying : s.port.stage.replying = 0 := by rw [h]; rfl
  refine Keeps.trans ?_ (keeps_choose _)
  split
  · next ix _ _ _ => exact (show Keeps s (clearFlag ix s) from ⟨id, id, id⟩).trans (keeps_stageIdle hreplying)
  · exact keeps_stageIdle hreplying

theorem testVacant_of_still {s : State} (h : s.Still) (r : RecIx) : testVacant r s = s :=
  testVacant_kept fun ⟨hdraining, _⟩ => not_still_of_rx (r := r) (by simp [hdraining]) h

theorem keeps_dataSent {r : RecIx} {cls : Byte} {len left : Nat} {s : State}
    (h : s.port.stage = .sending (.data r cls len) left) : Keeps s (dataSent r len left s) := by
  rw [dataSent_eq]
  refine Keeps.trans ?_ (keeps_choose _)
  have hdelivered : Keeps s (frameDelivered r (blocksLeft len left) s) := by
    have hreplying : s.port.stage.replying = 0 := by rw [h]; rfl
    have hrx (k : RecIx) : (rxAt (frameDelivered r (blocksLeft len left) s) k).state = (rxAt s k).state := by
      rw [rxAt, frameDelivered, vget_vset]
      split
      · next heq => rw [heq]
      · rfl
    refine (keeps_stageIdle hreplying).trans (keeps_of_works rfl ?_)
    rw [State.works, funext hrx]
    rfl
  refine hdelivered.trans ?_
  by_cases hstill : (frameDelivered r (blocksLeft len left) s).Still
  · rw [testVacant_of_still hstill]
    exact Keeps.refl _
  · exact keeps_of_not_still hstill (by simp)

theorem keeps_execResponseSent {s t : State} (h : execResponseSent s = .next t) : Keeps s t := by
  refine keeps_run h fun s => ?_
  split
  · next hstage => exact keeps_responseSent hstage
  · exact Keeps.refl s

theorem keeps_execReportSent {s t : State} (h : execReportSent s = .next t) : Keeps s t := by
  refine keeps_run h fun s => ?_
  split
  · next hstage => exact keeps_reportSent hstage
  · exact Keeps.refl s

theorem keeps_receiveBlockSent {s t : State} (h : execReceiveBlockSent s = .next t) : Keeps s t := by
  refine keeps_run h fun s => ?_
  split
  · next hstage =>
    split
    · exact Keeps.refl s
    · refine ⟨commandsKept_of_answers rfl rfl ?_, id, id⟩
      rw [hstage]
      rfl
  · exact Keeps.refl s

theorem keeps_dataFrameSent {s t : State} (h : execDataFrameSent s = .next t) : Keeps s t := by
  refine keeps_run h fun s => ?_
  split
  · next hstage => exact keeps_dataSent hstage
  · next hstage => exact (keeps_stageIdle (by rw [hstage]; rfl)).trans (keeps_choose _)
  · exact Keeps.refl s

end Sys2Proof.Machine
end


section
/-! SUPPORT. Every step keeps the three invariants, command by command. -/

namespace Sys2Proof.Machine

/-! ### Every command, and every step -/

theorem keeps_slotArrivalStep {a : SlotAddr} {c : CycleNo} {header : BitVec 40} {payload : Vector Byte 32} {s t : State}
    (h : execSlotArrival a c header payload s = .next t) : Keeps s t :=
  keeps_run h fun s => keeps_ite fun ⟨hrun, _⟩ => keeps_slotArrival a c _ _ ((running_iff s).mp hrun)

theorem keeps_slotHeaderOutcome {a : SlotAddr} {c : CycleNo} {result : ReadBack 40} {s t : State}
    (h : execSlotHeaderOutcome a c result s = .next t) : Keeps s t :=
  keeps_run h fun s => keeps_ite fun ⟨hrun, _⟩ => keeps_of_account (by simp) fun _ =>
    stillUnlessRunning_headerOutcome ((running_iff s).mp hrun) a c result

theorem keeps_strayEntryExpiry {owner : StationId} {tag : Tag} {s t : State}
    (h : execStrayEntryExpiry owner tag s = .next t) : Keeps s t :=
  keeps_run h fun s => keeps_ite fun hrun => keeps_of_running ((running_iff s).mp hrun) rfl

/-- Every command keeps the invariants: most have an effect only while the station runs, and leave the account and the
loader as they were. -/
theorem keeps_exec (c : Instr) {s t : State} (h : exec c s = .next t) : Keeps s t := by
  cases c with
  | resetPinAsserted =>
    cases h
    exact Keeps.trans ⟨id, id, id⟩ (keeps_resetAll _ _ _)
  | resetPinReleased => exact keeps_resetPinReleased h
  | startUpRecordRead => exact keeps_startUpRecordRead h
  | flywheelCycleStart => exact keeps_flywheelCycleStart h
  | markVerdict => exact keeps_markVerdict h
  | openSearchMarkFound => exact keeps_openSearchMarkFound h
  | markOutcome => exact keeps_markOutcome h
  | electionWaitExpiry =>
    exact keeps_run (show execElectionWaitExpiry s = _ from h) fun _ => keeps_inRole (role := .electing) nofun (by simp)
  | coastTimeExpiry => exact keeps_coastTimeExpiry h
  | quietCountLimit =>
    exact keeps_run (show execQuietCountLimit s = _ from h) fun _ => keeps_inRole (role := .following) nofun (by simp)
  | listenTimeExpiry =>
    exact keeps_run (show execListenTimeExpiry s = _ from h) fun _ => keeps_inRole (role := .following) nofun (by simp)
  | attachment => exact keeps_attachment h
  | noticePositionStart => exact keeps_noticePositionStart h
  | noticeOutcome => exact keeps_noticeOutcome h
  | noticeArrival => exact keeps_noticeArrival _ _ _ _ h
  | slotArrival => exact keeps_slotArrivalStep h
  | slotHeaderOutcome => exact keeps_slotHeaderOutcome h
  | trunkCycleFormation =>
    exact keeps_run (show execTrunkCycleFormation _ _ s = _ from h) fun _ => keeps_whenRunning (by simp)
  | barCountdownExpiry =>
    exact keeps_run (show execBarCountdownExpiry _ s = _ from h) fun _ => keeps_whenRunning (by simp)
  | rosterAgeExpiry => exact keeps_rosterAgeExpiry h
  | presenceCountdownExpiry => exact keeps_presenceCountdownExpiry h
  | strayEntryExpiry => exact keeps_strayEntryExpiry h
  | claimWaitExpiry => exact keeps_run (show execClaimWaitExpiry s = _ from h) fun _ => keeps_whenRunning (by simp)
  | offerWaitExpiry => exact keeps_run (show execOfferWaitExpiry _ s = _ from h) fun _ => keeps_whenRunning (by simp)
  | probeWaitExpiry => exact keeps_run (show execProbeWaitExpiry _ s = _ from h) fun _ => keeps_whenRunning (by simp)
  | confirmWaitExpiry =>
    exact keeps_run (show execConfirmWaitExpiry _ s = _ from h) fun _ => keeps_whenRunning (by simp)
  | closeWaitExpiry => exact keeps_run (show execCloseWaitExpiry _ s = _ from h) fun _ => keeps_whenRunning (by simp)
  | sinkSilenceExpiry =>
    exact keeps_run (show execSinkSilenceExpiry _ s = _ from h) fun _ => keeps_whenRunning (by simp)
  | sinkLossExpiry => exact keeps_run (show execSinkLossExpiry _ s = _ from h) fun _ => keeps_whenRunning (by simp)
  | tallyTimerExpiry => exact keeps_run (show execTallyTimerExpiry _ s = _ from h) fun _ => keeps_whenRunning (by simp)
  | declineEntryExpiry =>
    exact keeps_run (show execDeclineEntryExpiry _ s = _ from h) fun _ => keeps_whenRunning (by simp)
  | dismissDeadlineExpiry =>
    exact keeps_run (show execDismissDeadlineExpiry _ s = _ from h) fun _ => keeps_whenRunning (by simp)
  | dataFrameHeader => exact keeps_byteAs h
  | dataFrameLastByte => exact keeps_byteAs h
  | unknownKindHeader => exact keeps_byteAs h
  | heldStrobe => exact keeps_run (show execHeldStrobe s = _ from h) fun _ => keeps_ite fun _ => keeps_heldByte _
  | commandReceived => exact keeps_execCommandReceived h
  | unknownCommand => exact keeps_unknownCommand h
  | cmdOpen => exact keeps_attachedCommand (fun _ _ => owing_cmdOpen _ _ _ _) h
  | cmdGrow => exact keeps_attachedCommand (fun _ _ => owing_cmdGrow _ _ _ _) h
  | cmdShrink => exact keeps_attachedCommand (fun _ _ => owing_cmdShrink _ _ _ _) h
  | cmdDrop => exact keeps_attachedCommand (fun _ _ => owing_cmdDrop _ _ _ _) h
  | cmdClose => exact keeps_attachedCommand (fun _ _ => owing_cmdClose _ _ _) h
  | cmdDismiss => exact keeps_attachedCommand (fun _ _ => owing_cmdDismiss _ _ _) h
  | cmdTrunkStatus => exact keeps_cmdTrunkStatus h
  | cmdRoster => exact keeps_attachedCommand (fun _ _ => owing_respond _ _) h
  | cmdSlots => exact keeps_attachedCommand (fun _ _ => owing_respond _ _) h
  | cmdCounters => exact keeps_cmdCounters h
  | cmdRestart => exact keeps_cmdRestart h
  | clientOutputHoldReleased =>
    cases h
    exact Keeps.trans (t := { s with pins := { s.pins with outHold := false } }) ⟨id, id, id⟩ (keeps_choose _)
  | clientOutputHoldAsserted =>
    cases h
    exact ⟨id, id, id⟩
  | responseSent => exact keeps_execResponseSent h
  | reportSent => exact keeps_execReportSent h
  | receiveBlockSent => exact keeps_receiveBlockSent h
  | dataFrameSent => exact keeps_dataFrameSent h
  | clientInputByte => exact keeps_clientInputByte h
  | claimCycleNotDriven =>
    exact keeps_run (show execClaimCycleNotDriven _ _ s = _ from h) fun _ => keeps_whenRunning (by simp)

/-- Settles O59: time passes where no command waits, else the command at the front of the queue runs. -/
theorem everyStepKeepsTheInvariants : Obligations.EveryStepKeepsTheInvariants := by
  intro s t h
  unfold step at h
  split at h
  · cases h
    exact keeps_passTime s
  · next rest _ => exact Keeps.trans (t := { s with pending := rest }) ⟨id, id, id⟩ (keeps_exec _ h)

end Sys2Proof.Machine
end


section
/-! SUPPORT. Posting a report (R155, R162), and the arbiter's choice where nothing is being sent (R158). -/

namespace Sys2Proof.Machine

/-! ### Posting a report (R155) -/

/-- Only a REPORTS_LOST counts one more. -/
theorem countLost_of_ordinary {r : Report} (h : r.isLost = false) : r.countLost = r := by
  cases r with
  | reportsLost n => cases h
  | _ => rfl

section Post

variable {p : Port} (rep : Report)

/-- With fewer than 31 ordinary reports queued, a report joins the end. -/
theorem post_joins (h : ordinaryCount p.reports < 31) : p.post rep = ({ p with reports := p.reports ++ [rep] }, true) :=
  if_pos h

/-- The first report lost since the last REPORTS_LOST left begins a new one. -/
theorem post_beginsLost (h : 31 ≤ ordinaryCount p.reports) (hnone : ∀ r ∈ p.reports, r.isLost = false) : p.post rep =
    ({ p with reports := p.reports ++ [.reportsLost 1], reportsLost := bump p.reportsLost }, false) := by
  rw [Port.post, if_neg (not_lt.mpr h), if_neg (by simpa using hnone)]

/-- A report lost while a REPORTS_LOST is queued is counted in it. -/
theorem post_countsLost {before after : List Report} {n : Nat} (h : 31 ≤ ordinaryCount p.reports)
    (hqueue : p.reports = before ++ .reportsLost n :: after) (hone : ∀ r ∈ before ++ after, r.isLost = false) :
    p.post rep =
      ({ p with reports := before ++ .reportsLost (n + 1) :: after, reportsLost := bump p.reportsLost }, false) := by
  have hsome : p.reports.any Report.isLost = true := by simp [hqueue, Report.isLost]
  have hcounted : p.reports.map Report.countLost = before ++ .reportsLost (n + 1) :: after := by
    rw [hqueue, map_one_entry fun r hr => countLost_of_ordinary (hone r hr)]
    rfl
  rw [Port.post, if_neg (not_lt.mpr h), if_pos hsome, hcounted]

end Post

/-- Settles O53: a report that joins, the first that is lost, the next that are, and the body that gives their count. -/
theorem postedReportJoinsOrIsCountedLost : Obligations.PostedReportJoinsOrIsCountedLost := by
  intro p rep ordinary
  have hordinary : ordinary = ordinaryCount p.reports := List.countP_eq_length_filter.symm
  rw [hordinary]
  refine ⟨post_joins rep, post_beginsLost rep, fun before n after => post_countsLost rep, fun n hn => ?_⟩
  rw [Report.body, if_pos hn]
  rfl

/-! ### The arbiter's choice (R158) -/

/-- The first receive queue from the arbiter position on that holds a frame (R158). -/
theorem find?_arbOrder {arb : RecIx} {p : RecIx → Bool} {k : Nat} (hk : k < 8)
    (hp : p (Fin.ofNat 8 (arb.val + k)) = true) (hfirst : ∀ j < k, p (Fin.ofNat 8 (arb.val + j)) = false) :
    (arbOrder arb).find? p = some (Fin.ofNat 8 (arb.val + k)) := by
  rw [arbOrder, List.find?_map, List.find?_range_eq_some.mpr ⟨hp, List.mem_range.mpr hk, fun j hj => ?_⟩]
  · rfl
  · rw [Function.comp_apply, hfirst j hj]
    rfl

section Choice

variable {s : State}

theorem mayChoose_eq_true (hidle : s.port.stage = .idle) (hhold : s.pins.outHold = false) : mayChoose s = true := by
  simp [mayChoose, hidle, hhold]

/-- With no report waiting the choice at the end of an event leaves no order free. -/
theorem settle_of_no_report (h : s.port.reports = []) : settle s = choose s := by simp [settle, h]

/-- A state in which nothing waits settles as it is. -/
theorem choose_of_nothing (hresponses : s.port.responses = []) (hreports : s.port.reports = [])
    (hframes : ∀ i, vget s.buf.rxQueue i = []) : choose s = s := by
  have hfind : (arbOrder s.port.arb).find? (fun r => !(vget s.buf.rxQueue r).isEmpty) = none :=
    List.find?_eq_none.mpr fun r _ => by simp [hframes r]
  have hdata : takeData s = none := by simp only [takeData, hfind]
  simp [choose, takeResponse, hresponses, takeReport, hreports, hdata]

variable (hmay : mayChoose s = true)
include hmay

theorem choose_response {r : Response} {rest : List Response} (h : s.port.responses = r :: rest) :
    choose s = { s with port := { s.port with
      responses := rest, stage := .sending (.response r) r.frame.length } } := by
  simp [choose, hmay, takeResponse, h]

theorem choose_report {q : Report} {rest : List Report} (hresponses : s.port.responses = [])
    (h : s.port.reports = q :: rest) :
    choose s = { s with port := { s.port with reports := rest, stage := .sending (.report q) q.frame.length } } := by
  simp [choose, hmay, takeResponse, hresponses, takeReport, h]

theorem chooseReport_report {q : Report} {rest : List Report} (h : s.port.reports = q :: rest) :
    chooseReport s =
      { s with port := { s.port with reports := rest, stage := .sending (.report q) q.frame.length } } := by
  simp [chooseReport, hmay, takeReport, h]

theorem choose_data {k : Nat} {f : RxFrame} {rest : List RxFrame} (hresponses : s.port.responses = [])
    (hreports : s.port.reports = []) (hk : k < 8)
    (hempty : ∀ j < k, vget s.buf.rxQueue (Fin.ofNat 8 (s.port.arb.val + j)) = [])
    (hqueue : vget s.buf.rxQueue (Fin.ofNat 8 (s.port.arb.val + k)) = f :: rest) :
    choose s = { s with port := { s.port with
      arb := Fin.ofNat 8 ((Fin.ofNat 8 (s.port.arb.val + k)).val + 1)
      stage := .sending (.data (Fin.ofNat 8 (s.port.arb.val + k)) f.cls f.data.length) (f.data.length + 4) } } := by
  have hfind : (arbOrder s.port.arb).find? (fun r => !(vget s.buf.rxQueue r).isEmpty) =
      some (Fin.ofNat 8 (s.port.arb.val + k)) :=
    find?_arbOrder hk (by rw [hqueue]; rfl) fun j hj => by rw [hempty j hj]; rfl
  simp only [choose, hmay, takeResponse, hresponses, takeReport, hreports, takeData, hfind, hqueue]
  rfl

/-- A response and a report ready together go in either order. -/
theorem settle_both {r : Response} {rs : List Response} {q : Report} {qs : List Report}
    (hresponses : s.port.responses = r :: rs) (hreports : s.port.reports = q :: qs) :
    settle s = choose { s with free := s.free + 1 } ∨ settle s = chooseReport { s with free := s.free + 1 } := by
  have hready : (mayChoose s && !s.port.responses.isEmpty && !s.port.reports.isEmpty) = true := by
    simp [hmay, hresponses, hreports]
  rw [settle, if_pos hready]
  exact (ite_eq_or_eq _ _ _).symm

end Choice

/-- The state with the client-output hold released. -/
def holdReleased (s : State) : State := { s with pins := { s.pins with outHold := false } }

theorem exec_clientOutputHoldReleased (s : State) :
    exec .clientOutputHoldReleased s = .next (choose (holdReleased s)) := rfl

/-- Settles O4: by what the arbiter finds ready, then the hold line. -/
theorem arbiterTakesTheOldestOfTheFirstReadyKind : Obligations.ArbiterTakesTheOldestOfTheFirstReadyKind := by
  intro s
  refine ⟨fun h => settle_of_not_mayChoose (mayChoose_eq_false h), fun hidle hhold => ?_, rfl, fun hbusy => ?_,
    fun r rest hidle hresponses => ?_, fun _ hresponses => ?_⟩
  · have hmay := mayChoose_eq_true hidle hhold
    refine ⟨fun r rest hresponses hreports => ?_, fun q rest hresponses hreports => ?_,
      fun r rs q qs hresponses hreports => ?_, fun k i f rest hresponses hreports hk hi hempty hqueue => ?_,
      fun hresponses hreports hframes => ?_⟩
    · rw [settle_of_no_report hreports, choose_response hmay hresponses]
    · rw [settle_of_no_response hresponses, choose_report hmay hresponses hreports]
    · rcases settle_both hmay hresponses hreports with h | h
      · exact .inl (h.trans (choose_response (s := { s with free := s.free + 1 }) hmay hresponses))
      · exact .inr (h.trans (chooseReport_report (s := { s with free := s.free + 1 }) hmay hreports))
    · subst hi
      rw [settle_of_no_report hreports, choose_data hmay hresponses hreports hk hempty hqueue]
    · rw [settle_of_no_report hreports, choose_of_nothing hresponses hreports hframes]
  · have hmay : mayChoose (holdReleased s) = false := mayChoose_eq_false (.inl hbusy)
    rw [exec_clientOutputHoldReleased, choose_of_not_mayChoose hmay]
    rfl
  · have hmay : mayChoose (holdReleased s) = true := mayChoose_eq_true hidle rfl
    rw [exec_clientOutputHoldReleased, choose_response hmay hresponses]
    rfl
  · rw [exec_clientOutputHoldReleased, ← settle_of_no_response (s := holdReleased s) hresponses]
    rfl

end Sys2Proof.Machine
end


section
/-! SUPPORT. RESTART (R153, R164), and the end of a response (R147, R159). -/

namespace Sys2Proof.Machine

theorem exec_cmdRestart {s : State} {e : CmdEntry} {rest : List CmdEntry} (h : Takes s 11 0 e rest) :
    exec .cmdRestart s = .next (settle (respond (plainResponse 11 (e.bytes.getD 1 0) .restarting)
      ((popped s rest).modPort (fun p => { p with restart := true })))) := by
  obtain ⟨hreset, -⟩ := id h
  rw [show exec .cmdRestart s = execCmdRestart s from rfl, execCmdRestart, run_of_released hreset,
    command_everyState h rfl, tag_of_takes h]

section ResponseSent

variable {s : State} (hreset : s.pins.resetAsserted = false)
include hreset

theorem exec_responseSent_sending {r : Response} {left : Nat} (h : s.port.stage = .sending (.response r) left) :
    exec .responseSent s = .next (settle (responseSent r s)) := by
  rw [show exec .responseSent s = execResponseSent s from rfl]
  simp only [execResponseSent, run_of_released hreset, h]

theorem exec_responseSent_other (h : ∀ r left, s.port.stage ≠ .sending (.response r) left) :
    exec .responseSent s = .next (settle s) := by
  rw [show exec .responseSent s = execResponseSent s from rfl, execResponseSent, run_of_released hreset]
  split
  · next hstage => exact absurd hstage (h _ _)
  · rfl

end ResponseSent

/-- Nothing waits to be sent after a restart. -/
theorem settle_restart (s : State) : settle (restart s) = restart s := by
  rw [settle_of_no_response rfl, choose_of_nothing rfl rfl fun i => vget_replicate _ _]

/-- Settles O51: the command, the end of its answer, that of another answer, and a step where none is being sent. -/
theorem restartTakesEffectWhenItsAnswerHasLeft : Obligations.RestartTakesEffectWhenItsAnswerHasLeft := by
  refine fun s => ⟨fun e rest htakes => ?_, fun hreset => ⟨fun r left hstage houtcome => ?_,
    fun r left hstage houtcome => ?_, exec_responseSent_other hreset⟩⟩
  · exact exec_cmdRestart htakes
  · rw [exec_responseSent_sending hreset hstage, responseSent, if_pos houtcome, settle_restart, restart, resetAll]
    cases s.port.parse <;> rfl
  · refine endsAFrame_of_choose rfl ?_
    rw [exec_responseSent_sending hreset hstage, responseSent, if_neg houtcome]
    rfl

end Sys2Proof.Machine
end


section
/-! SUPPORT. The tests of the command unit (R149, R153). -/

namespace Sys2Proof.Machine

/-! ### The form test (R149) -/

/-- The argument bytes of each code are those the statements list (12.3). -/
theorem argCount_eq_lookup (code : Byte) : argCount code = argumentBytes.lookup code := by
  revert code
  decide

theorem formOk_iff (e : CmdEntry) : e.formOk = true ↔ WellFormedBody e := by
  rw [CmdEntry.formOk, WellFormedBody, Bool.and_eq_true, decide_eq_true_iff]
  refine and_congr_right fun hlen => ?_
  have hcode : e.code = e.bytes.getD 0 0 := if_neg (not_lt.mpr hlen)
  rw [hcode, argCount_eq_lookup, Option.any_eq_true]
  constructor
  · rintro ⟨n, hn, hargs⟩
    have : e.len = 2 + n := of_decide_eq_true hargs
    rw [hn, this, Nat.add_sub_cancel_left]
  · exact fun h => ⟨_, h, decide_eq_true (Nat.add_sub_of_le hlen).symm⟩

/-! ### The head of the command queue (R149, R153) -/

section Head

variable {s : State}

theorem takeable_eq_none (h : s.port.restart = true ∨ s.port.cmdQueue = []) : takeable s = none := by
  unfold takeable
  split
  · rfl
  · next hrestart =>
    rw [h.resolve_left hrestart]
    rfl

theorem command_idle {code : Byte} {everyState : Bool} {body : CmdEntry → State → State} (h : takeable s = none) :
    command code everyState body s = s := by
  simp only [command, h]

variable {e : CmdEntry} {rest : List CmdEntry} (hrestart : s.port.restart = false)
  (hqueue : s.port.cmdQueue = e :: rest)
include hrestart hqueue

theorem takeable_eq_some : takeable s = some e := by
  rw [takeable, hrestart, hqueue]
  rfl

omit hrestart in
theorem popCommand_eq : popCommand s = popped s rest := by
  rw [popCommand, State.modPort, hqueue]
  rfl

variable {code : Byte} {everyState : Bool} {body : CmdEntry → State → State}

theorem command_other (h : ¬ (WellFormedBody e ∧ e.bytes.getD 0 0 = code)) : command code everyState body s = s := by
  simp only [command, takeable_eq_some hrestart hqueue]
  refine if_neg fun ⟨hform, hcode⟩ => h ⟨(formOk_iff e).mp hform, ?_⟩
  obtain ⟨hlen, -⟩ := (formOk_iff e).mp hform
  rw [← hcode]
  exact (if_neg (not_lt.mpr hlen)).symm

theorem command_notReady (hform : WellFormedBody e) (hcode : e.bytes.getD 0 0 = code)
    (hattached : s.loader.state ≠ .attached) :
    command code false body s = answered (popped s rest) code (e.bytes.getD 1 0) .notReady := by
  obtain ⟨hlen, -⟩ := id hform
  have hc : e.code = code := (if_neg (not_lt.mpr hlen)).trans hcode
  have htag : e.tag = e.bytes.getD 1 0 := if_neg (not_lt.mpr hlen)
  simp only [command, takeable_eq_some hrestart hqueue, (formOk_iff e).mpr hform, hc, and_self, if_true, attached_iff,
    hattached, Bool.false_eq_true, or_self, if_false, popCommand_eq hqueue, htag]
  rfl

variable (hreset : s.pins.resetAsserted = false)
include hreset

theorem exec_unknownCommand_malformed (h : ¬ WellFormedBody e) : exec .unknownCommand s =
    .next (settle (answered (popped s rest) e.code e.tag .badArg)) := by
  rw [show exec .unknownCommand s = execUnknownCommand s from rfl, execUnknownCommand, run_of_released hreset]
  simp only [takeable_eq_some hrestart hqueue, formOk_iff, h, if_false, popCommand_eq hqueue]
  rfl

theorem exec_unknownCommand_wellFormed (h : WellFormedBody e) : exec .unknownCommand s = .next (settle s) := by
  rw [show exec .unknownCommand s = execUnknownCommand s from rfl, execUnknownCommand, run_of_released hreset]
  simp only [takeable_eq_some hrestart hqueue, formOk_iff, h, if_true]

end Head

theorem exec_unknownCommand_idle {s : State} (hreset : s.pins.resetAsserted = false) (h : takeable s = none) :
    exec .unknownCommand s = .next (settle s) := by
  rw [show exec .unknownCommand s = execUnknownCommand s from rfl, execUnknownCommand, run_of_released hreset]
  simp only [h]

/-! ### The eleven commands -/

/-- Each command is what the command unit makes of its code; three of them it takes in every state. -/
theorem exec_command {p : Instr × Byte} (hp : p ∈ commandCodes) : ∃ everyState body,
    (∀ s, exec p.1 s = run (command p.2 everyState body) s) ∧ (p.2 ∉ [7#8, 10#8, 11#8] → everyState = false) := by
  simp only [commandCodes, List.mem_cons, List.not_mem_nil, or_false] at hp
  rcases hp with rfl | rfl | rfl | rfl | rfl | rfl | rfl | rfl | rfl | rfl | rfl <;>
    exact ⟨_, _, fun _ => rfl, by decide⟩

/-- Settles O48: nothing to take, a head that fails the form test, and one that passes it. -/
theorem headOfTheCommandQueueIsTested : Obligations.HeadOfTheCommandQueueIsTested := by
  refine fun s hreset => ⟨fun hidle => ?_, fun e rest hrestart hqueue => ⟨fun hform => ?_, fun hform => ?_⟩⟩
  · have htake := takeable_eq_none hidle
    refine ⟨exec_unknownCommand_idle hreset htake, fun p hp => ?_⟩
    obtain ⟨everyState, body, hexec, -⟩ := exec_command hp
    rw [hexec, run_of_released hreset, command_idle htake]
  · refine ⟨exec_unknownCommand_malformed hrestart hqueue hreset hform, fun p hp => ?_⟩
    obtain ⟨everyState, body, hexec, -⟩ := exec_command hp
    rw [hexec, run_of_released hreset, command_other hrestart hqueue fun ⟨h, _⟩ => hform h]
  · refine ⟨exec_unknownCommand_wellFormed hrestart hqueue hreset hform, fun p hp => ⟨fun hcode => ?_,
      fun hcode hstate hattached => ?_⟩⟩
    · obtain ⟨everyState, body, hexec, -⟩ := exec_command hp
      rw [hexec, run_of_released hreset, command_other hrestart hqueue fun ⟨_, h⟩ => hcode h]
    · obtain ⟨everyState, body, hexec, hready⟩ := exec_command hp
      rw [hexec, run_of_released hreset, hready hstate, command_notReady hrestart hqueue hform hcode hattached]

end Sys2Proof.Machine
end


section
/-! SUPPORT. The bytes of client input (R146 to R148), but for those of a data frame that O46 settles. -/

namespace Sys2Proof.Machine

theorem toNat_frameKind (x : Byte) : (frameKind x).toNat = x.toNat / 16 := by
  have hx := x.isLt
  simp only [frameKind, field, BitVec.extractLsb'_toNat, Nat.shiftRight_eq_div_pow]
  omega

theorem frameKind_eq_two_iff (x : Byte) : frameKind x = 2 ↔ x.toNat / 16 = 2 := by
  rw [← BitVec.toNat_inj, toNat_frameKind]
  rfl

/-- A frame of length 0 has two zero length bytes. -/
theorem eq_zero_of_length {z b : Byte} (h : z.toNat * 256 + b.toNat = 0) : z = 0 ∧ b = 0 :=
  ⟨BitVec.eq_of_toNat_eq (by simp; omega), BitVec.eq_of_toNat_eq (by simp; omega)⟩

/-! ### What a byte is (R146) -/

section Bytes

variable {s : State} {b : Byte}

theorem byteRole_unknownKind_iff : byteRole s = .unknownKind ↔
    ∃ held, s.port.parse = .header held ∧ 3 ≤ held.length ∧
      (held.getD 0 0).toNat / 16 ≠ 1 ∧ (held.getD 0 0).toNat / 16 ≠ 2 := by
  cases hparse : s.port.parse with
  | between => simp [byteRole, hparse]
  | data left dest => by_cases h : left ≤ 1 <;> simp [byteRole, hparse, h]
  | command left len kept => by_cases h : left ≤ 1 <;> simp [byteRole, hparse, h]
  | header held =>
    simp only [byteRole, hparse, frameKind_eq_one_iff, frameKind_eq_two_iff]
    by_cases hshort : held.length < 3
    · simp [hshort]
    by_cases hone : (held.getD 0 0).toNat / 16 = 1
    · rw [if_neg hshort, if_pos hone]
      simp only [reduceCtorEq, false_iff]
      rintro ⟨held', heq, -, hnot, -⟩
      cases heq
      exact hnot hone
    by_cases htwo : (held.getD 0 0).toNat / 16 = 2
    · rw [if_neg hshort, if_neg hone, if_pos htwo]
      simp only [reduceCtorEq, false_iff]
      rintro ⟨held', heq, -, -, hnot⟩
      cases heq
      exact hnot htwo
    · simp only [hshort, hone, htwo, if_false, true_iff]
      exact ⟨held, rfl, not_lt.mp hshort, hone, htwo⟩

theorem endsCommand_iff : endsCommand b s = true ↔
    (b = 0 ∧ ∃ x y, s.port.parse = .header [x, y, 0] ∧ x.toNat / 16 = 2) ∨
      ∃ left len kept, s.port.parse = .command left len kept ∧ left ≤ 1 := by
  cases hparse : s.port.parse with
  | between => simp [endsCommand, hparse]
  | data left dest => simp [endsCommand, hparse]
  | command left len kept => simp [endsCommand, hparse]
  | header held =>
    simp only [endsCommand, hparse, Bool.and_eq_true, beq_iff_eq, frameKind_eq_two_iff]
    constructor
    · rintro ⟨⟨⟨hlength, hkind⟩, hlast⟩, hb⟩
      obtain ⟨x, y, z, rfl⟩ := List.length_eq_three.mp hlength
      obtain rfl : z = 0 := hlast
      exact .inl ⟨hb, x, y, rfl, hkind⟩
    · rintro (⟨hb, x, y, hheld, hkind⟩ | ⟨left, len, kept, hcommand, -⟩)
      · cases hheld
        exact ⟨⟨⟨rfl, hkind⟩, rfl⟩, hb⟩
      · cases hcommand

/-! ### What a byte does (R146) -/

theorem takeByte_between (h : s.port.parse = .between) : takeByte b s = parsed s (.header [b]) := by
  simp only [takeByte, h]
  rfl

theorem takeByte_header {held : List Byte} (h : s.port.parse = .header held) (hshort : held.length < 3) :
    takeByte b s = parsed s (.header (held ++ [b])) := by
  simp only [takeByte, h, hshort, if_true]
  rfl

section Header

variable {x y z : Byte} (h : s.port.parse = .header [x, y, z])
include h

/-- The fourth byte of a header completes it. -/
theorem takeByte_fourth : takeByte b s = headerComplete [x, y, z, b] s := by
  simp only [takeByte, h]
  rfl

theorem takeByte_commandHeader (htwo : x.toNat / 16 = 2) :
    takeByte b s = commandHeader (z.toNat * 256 + b.toNat) s := by
  have hone : ¬ frameKind x = 1 := by rw [frameKind_eq_one_iff]; omega
  exact (takeByte_fourth h).trans ((if_neg hone).trans (if_pos ((frameKind_eq_two_iff x).mpr htwo)))

theorem takeByte_unknownHeader (hone : x.toNat / 16 ≠ 1) (htwo : x.toNat / 16 ≠ 2) :
    takeByte b s = unknownHeader (z.toNat * 256 + b.toNat) s :=
  (takeByte_fourth h).trans ((if_neg (mt (frameKind_eq_one_iff x).mp hone)).trans
    (if_neg (mt (frameKind_eq_two_iff x).mp htwo)))

end Header

/-- A payload byte with more to come. -/
theorem takeByte_data {left : Nat} {dest : Option RecIx} (h : s.port.parse = .data left dest) (hmore : 2 ≤ left) :
    takeByte b s = parsed (payloadByte dest b false s) (.data (left - 1) dest) := by
  have hleft : ¬ left ≤ 1 := by omega
  have hnext : left - 1 ≠ 0 := by omega
  simp only [takeByte, h, hleft, decide_false, dataParse, hnext, if_false]
  rfl

section Command

variable {left len : Nat} {kept : List Byte} (h : s.port.parse = .command left len kept)
include h

/-- A command's body byte with more to come: the first 16 are kept. -/
theorem takeByte_command (hmore : 2 ≤ left) : takeByte b s =
    parsed s (.command (left - 1) len (if kept.length < 16 then kept ++ [b] else kept)) := by
  have hleft : ¬ left ≤ 1 := by omega
  simp only [takeByte, h, hleft, if_false]
  rfl

theorem takeByte_commandEnd (hlast : left ≤ 1) : takeByte b s = commandReceived
    { bytes := if kept.length < 16 then kept ++ [b] else kept, len := len } (parsed s .between) := by
  simp only [takeByte, h, hlast, if_true]
  rfl

end Command

end Bytes

/-! ### A command received (R148) -/

section Received

variable {e : CmdEntry} {s : State}

theorem commandReceived_room (h : s.port.cmdQueue.length < 8) : commandReceived e s = { s with port := { s.port with
    outstanding := s.port.outstanding + 1, cmdQueue := s.port.cmdQueue ++ [e] } } :=
  if_neg (not_le.mpr h)

theorem commandReceived_full (h : 8 ≤ s.port.cmdQueue.length) : commandReceived e s = { s with port := { s.port with
    outstanding := s.port.outstanding + 1
    queueFull := bump s.port.queueFull
    responses := s.port.responses ++ [{ code := e.code, tag := e.tag, outcome := .queueFull, result := [] }] } } :=
  if_pos h

end Received

/-! ### The steps that take a byte (R146, R147) -/

section Exec

variable {s : State} {b : Byte} (hreset : s.pins.resetAsserted = false)
include hreset

section Held

variable (hheld : 24 ≤ s.port.outstanding)
include hheld

omit hreset in
theorem inputHold_eq_true : inputHold s = true := decide_eq_true hheld

theorem exec_clientInputByte_held : exec (.clientInputByte b) s = .next (settle (heldByte s)) := by
  rw [show exec (.clientInputByte b) s = execClientInputByte b s from rfl, execClientInputByte, run_of_released hreset,
    inputByte, if_pos (inputHold_eq_true hheld)]

theorem exec_heldStrobe_held : exec .heldStrobe s = .next (settle (heldByte s)) := by
  rw [show exec .heldStrobe s = execHeldStrobe s from rfl, execHeldStrobe, run_of_released hreset,
    if_pos (inputHold_eq_true hheld)]

theorem exec_unknownKindHeader_held : exec (.unknownKindHeader b) s = .next (settle s) := by
  rw [show exec (.unknownKindHeader b) s = execUnknownKindHeader b s from rfl, execUnknownKindHeader,
    run_of_released hreset, byteAs_held hheld]

theorem exec_commandReceived_held : exec (.commandReceived b) s = .next (settle s) := by
  rw [show exec (.commandReceived b) s = execCommandReceived b s from rfl, execCommandReceived,
    run_of_released hreset, if_neg]
  simp [inputHold_eq_true hheld]

end Held

theorem exec_unknownKindHeader_other (h : byteRole s ≠ .unknownKind) :
    exec (.unknownKindHeader b) s = .next (settle s) := by
  rw [show exec (.unknownKindHeader b) s = execUnknownKindHeader b s from rfl, execUnknownKindHeader,
    run_of_released hreset, byteAs_other h]

theorem exec_commandReceived_other (h : endsCommand b s ≠ true) : exec (.commandReceived b) s = .next (settle s) := by
  rw [show exec (.commandReceived b) s = execCommandReceived b s from rfl, execCommandReceived,
    run_of_released hreset, if_neg fun hends => h hends.1]

variable (hfree : s.port.outstanding < 24)
include hfree

theorem exec_heldStrobe_free : exec .heldStrobe s = .next (settle s) := by
  rw [show exec .heldStrobe s = execHeldStrobe s from rfl, execHeldStrobe, run_of_released hreset,
    (inputHold_eq_false_iff s).mpr hfree]
  rfl

theorem exec_clientInputByte_free : exec (.clientInputByte b) s = .next (settle (takeByte b s)) := by
  rw [show exec (.clientInputByte b) s = execClientInputByte b s from rfl, execClientInputByte, run_of_released hreset,
    inputByte, (inputHold_eq_false_iff s).mpr hfree]
  rfl

theorem exec_unknownKindHeader_taken (h : byteRole s = .unknownKind) :
    exec (.unknownKindHeader b) s = .next (settle (takeByte b s)) := by
  rw [show exec (.unknownKindHeader b) s = execUnknownKindHeader b s from rfl, execUnknownKindHeader,
    run_of_released hreset, byteAs_taken h hfree]

theorem exec_commandReceived_taken (h : endsCommand b s = true) :
    exec (.commandReceived b) s = .next (settle (takeByte b s)) := by
  rw [show exec (.commandReceived b) s = execCommandReceived b s from rfl, execCommandReceived,
    run_of_released hreset, if_pos ⟨h, (inputHold_eq_false_iff s).mpr hfree⟩]

end Exec

/-- The byte that ends a command frame, with the entry that comes of it. -/
theorem takeByte_ends {b : Byte} {s : State} {e : CmdEntry}
    (h : (b = 0 ∧ e = { bytes := [], len := 0 } ∧ ∃ x y, s.port.parse = .header [x, y, 0] ∧ x.toNat / 16 = 2) ∨
      (∃ left kept, s.port.parse = .command left e.len kept ∧ left ≤ 1 ∧
        e.bytes = if kept.length < 16 then kept ++ [b] else kept)) :
    endsCommand b s = true ∧ takeByte b s = commandReceived e (parsed s .between) := by
  rcases h with ⟨rfl, rfl, x, y, hparse, hkind⟩ | ⟨left, kept, hparse, hlast, hbytes⟩
  · refine ⟨endsCommand_iff.mpr (.inl ⟨rfl, x, y, hparse, hkind⟩), ?_⟩
    exact (takeByte_commandHeader hparse hkind).trans (if_pos rfl)
  · refine ⟨endsCommand_iff.mpr (.inr ⟨left, e.len, kept, hparse, hlast⟩), ?_⟩
    rw [takeByte_commandEnd hparse hlast, ← hbytes]

/-- Settles O47: the byte that ends a command frame, by the room there is, and the taking of a short body. -/
theorem commandReceivedJoinsTheQueue : Obligations.CommandReceivedJoinsTheQueue := by
  refine fun b s hreset hfree => ⟨fun e hend => ?_, fun e rest hrestart hqueue hshort => ?_⟩
  · obtain ⟨hends, htake⟩ := takeByte_ends hend
    rw [exec_commandReceived_taken hreset hfree hends, htake]
    refine ⟨fun hroom => ?_, fun hfull => ?_⟩
    · rw [commandReceived_room (s := parsed s .between) hroom]
      rfl
    · rw [commandReceived_full (s := parsed s .between) hfull]
      rfl
  · have hform : ¬ WellFormedBody e := fun ⟨hlen, _⟩ => not_lt.mpr hlen hshort
    rw [exec_unknownCommand_malformed hrestart hqueue hreset hform, CmdEntry.code, CmdEntry.tag, if_pos hshort,
      if_pos hshort]

/-- Settles O45: a byte against the hold, then by the parse state it meets, and where it is no such event. -/
theorem clientInputBytesAreParsed : Obligations.ClientInputBytesAreParsed := by
  refine fun b s hreset => ⟨fun hheld => ?_, fun hfree => ?_⟩
  · exact ⟨exec_clientInputByte_held hreset hheld, exec_heldStrobe_held hreset hheld,
      exec_unknownKindHeader_held hreset hheld, exec_dataFrameHeader_held hreset hheld,
      exec_dataFrameLastByte_held hreset hheld, exec_commandReceived_held hreset hheld⟩
  · rw [exec_clientInputByte_free hreset hfree]
    refine ⟨exec_heldStrobe_free hreset hfree, fun hparse => ?_, fun held hparse hshort => ?_,
      fun x y z hparse => ?_, fun left dest hparse => ⟨fun hlast => ?_, ?_, ?_⟩,
      fun left len kept hparse => ⟨fun hlast => ?_, fun hmore => ?_⟩, fun _ hshort => ?_, fun hheader hcommand => ?_⟩
    · rw [takeByte_between hparse]
    · rw [takeByte_header hparse hshort]
    · refine ⟨fun hone => ?_, fun htwo hempty => ?_, fun htwo hbody => ?_, fun hone htwo => ?_, fun hknown => ?_⟩
      · rw [exec_dataFrameHeader_taken hreset hfree hparse hone, takeByte_dataHeader hparse hone]
      · obtain ⟨rfl, rfl⟩ := eq_zero_of_length hempty
        rw [exec_commandReceived_taken hreset hfree (endsCommand_iff.mpr (.inl ⟨rfl, x, y, hparse, htwo⟩))]
      · rw [takeByte_commandHeader hparse htwo, commandHeader, if_neg hbody]
        rfl
      · have hrole := byteRole_unknownKind_iff.mpr ⟨_, hparse, le_rfl, hone, htwo⟩
        rw [exec_unknownKindHeader_taken hreset hfree hrole, takeByte_unknownHeader hparse hone htwo]
        exact ⟨rfl, rfl⟩
      · refine exec_unknownKindHeader_other hreset fun hrole => ?_
        obtain ⟨held, hheld, -, hone, htwo⟩ := byteRole_unknownKind_iff.mp hrole
        cases hparse.symm.trans hheld
        exact hknown.elim hone htwo
    · rw [exec_dataFrameLastByte_taken hreset hfree hparse hlast, takeByte_dataLast hparse hlast]
    · rintro hmore rfl
      rw [takeByte_data hparse hmore]
      rfl
    · rintro t q f hmore rfl hqueue
      rw [takeByte_data hparse hmore, payloadByte_some b false hqueue]
      rfl
    · rw [exec_commandReceived_taken hreset hfree (endsCommand_iff.mpr (.inr ⟨left, len, kept, hparse, hlast⟩))]
    · rw [takeByte_command hparse hmore]
    · refine exec_unknownKindHeader_other hreset fun hrole => ?_
      obtain ⟨held, hparse, hlong, -⟩ := byteRole_unknownKind_iff.mp hrole
      exact not_lt.mpr hlong (hshort held hparse)
    · refine exec_commandReceived_other hreset fun hends => ?_
      rcases endsCommand_iff.mp hends with ⟨hb, x, y, hparse, hkind⟩ | ⟨left, len, kept, hparse, hlast⟩
      · exact hheader x y hparse hkind hb
      · exact not_lt.mpr hlast (hcommand left len kept hparse)

end Sys2Proof.Machine
end


section
/-! SUPPORT. TRUNK_STATUS, ROSTER and SLOTS (R151): the commands as the command unit takes them, and their bytes in the
order of 12.3. -/

namespace Sys2Proof.Machine

/-! ### The fields of TRUNK_STATUS (12.3) -/

theorem wordOfWait_eq (n : Option Nat) : wordOfWait n = twoOrNone n := by cases n <;> rfl

theorem wordOf_eq (n : Nat) : wordOf n = twoOrNone (some n) := rfl

theorem byteOfEpoch_eq (e : Option Epoch) : byteOfEpoch e = (e.map (BitVec.setWidth 8)).getD 0xFF := by cases e <;> rfl

theorem byteOfTag_eq (t : Option Tag) : byteOfTag t = (t.map (BitVec.setWidth 8)).getD 0xFF := by cases t <;> rfl

theorem changeBytes_eq (c : Option Change) : changeBytes c = (match c with
    | none => [0xFF, 0, 0, 0, 0, 0, 0, 0, 0, 0]
    | some c => [c.kind.code, byteOf c.arg, c.phase.code] ++ twoOrNone c.deadline ++
      [if c.cmd.isSome then 1 else 0, c.cmd.getD 0, byteOf c.late, byteOf c.added,
        if c.kind = .closeAbort then (c.reason.map GoneReason.code).getD 0 else 0]) := by
  cases c with
  | none => rfl
  | some c =>
    obtain ⟨kind, arg, phase, deadline, cmd, late, added, reason⟩ := c
    rw [changeBytes, wordOfWait_eq]
    cases kind <;> cases reason <;> rfl

theorem tallyBytes_eq (t : Option LastTally) : tallyBytes t = (match t with
    | none => [0xFF, 0xFF, 0xFF, 0, 0, 0, 0, 0xFF]
    | some { age := age, info := none } => twoOrNone (some age) ++ [0xFF, 0, 0, 0, 0, 0xFF]
    | some { age := age, info := some i } => twoOrNone (some age) ++ [i.echo.setWidth 8] ++ two i.good ++
      [if i.skew then 1 else 0, if i.delinLocked then 1 else 0, i.width.setWidth 8]) := by
  cases t with
  | none => rfl
  | some t =>
    obtain ⟨age, info⟩ := t
    cases info <;> rfl

theorem dismissBytes_eq (d : Option DismissPending) : dismissBytes d = (match d with
    | none => [0, 0, 0, 0]
    | some d => [1, d.tag] ++ twoOrNone (some d.deadline)) := by cases d <;> rfl

theorem txStatus_eq_txFields (s : State) (k : RecIx) : txStatus k s = txFields s k := by
  unfold txStatus txFields
  dsimp only
  rw [changeBytes_eq, tallyBytes_eq, wordOfWait_eq, byteOfEpoch_eq, listBytes]
  simp only [List.length_zipIdx, List.append_assoc, List.cons_append, List.nil_append]
  rfl

theorem rxStatus_eq_rxFields (s : State) (k : RecIx) : rxStatus k s = rxFields s k := by
  unfold rxStatus rxFields
  dsimp only
  rw [dismissBytes_eq, byteOfTag_eq, listBytes]
  simp only [List.append_assoc, List.cons_append, List.nil_append]
  rfl

/-! ### Items of one size -/

/-- The bytes of one item among items of one size. -/
theorem itemBytes_flatMap {α : Type} {f : α → List Byte} {size : Nat} (hf : ∀ a, (f a).length = size) {l : List α}
    {i : Nat} {a : α} (h : l[i]? = some a) : itemBytes size i (l.flatMap f) = f a := by
  induction l generalizing i with
  | nil => cases h
  | cons b l ih =>
    rw [List.flatMap_cons, itemBytes]
    cases i with
    | zero =>
      obtain rfl : b = a := Option.some.inj h
      rw [Nat.mul_zero, List.drop_zero, List.take_append_of_le_length (hf b).ge, List.take_of_length_le (hf b).le]
    | succ i =>
      have hskip : size * (i + 1) = (f b).length + size * i := by rw [hf b, Nat.mul_succ, Nat.add_comm]
      rw [hskip, List.drop_length_add_append]
      exact ih h

theorem length_flatMap_items {α : Type} {f : α → List Byte} {size : Nat} (hf : ∀ a, (f a).length = size) (l : List α) :
    (l.flatMap f).length = l.length * size := by
  simp [List.length_flatMap, hf]

theorem getElem?_vlist {α : Type} {n : Nat} (v : Vector α n) (i : Fin n) : (vlist v)[i.val]? = some (vget v i) := by
  simp [vlist, vget]

/-! ### The items of ROSTER and SLOTS (12.3) -/

theorem length_presenceBytes (b : Option PresenceBody) : (presenceBytes b).length = 3 := by cases b <;> rfl

theorem length_rosterItem (s : State) (id : Nat) (e : RosterEntry) : (rosterItem s id e).length = 8 := by
  simp [rosterItem, length_presenceBytes, wordOf, bytes16]

theorem wordOf_eq_bytes (n : Nat) : wordOf n = [byteOf (n / 256), byteOf n] := by
  have hhigh : field (BitVec.ofNat 16 n) 0 8 = byteOf (n / 256) := by
    apply BitVec.eq_of_toNat_eq
    simp only [field, byteOf, BitVec.extractLsb'_toNat, BitVec.toNat_ofNat, Nat.shiftRight_eq_div_pow]
    omega
  have hlow : field (BitVec.ofNat 16 n) 8 8 = byteOf n := by
    apply BitVec.eq_of_toNat_eq
    simp only [field, byteOf, BitVec.extractLsb'_toNat, BitVec.toNat_ofNat, Nat.shiftRight_eq_div_pow]
    omega
  rw [wordOf, bytes16, hhigh, hlow]

/-- The roster's entries are numbered from 1, within a station ID's six bits. -/
theorem rosterStation_eq_iff (i : Fin 62) (id : StationId) :
    BitVec.ofNat 6 (i.val + 1) = id ↔ i.val + 1 = id.toNat := by
  have hfits : (BitVec.ofNat 6 (i.val + 1)).toNat = i.val + 1 := by
    rw [BitVec.toNat_ofNat]
    omega
  rw [← BitVec.toNat_inj, hfits]

theorem pacingFlag_rosterStation (s : State) (i : Fin 62) : pacingFlag s (BitVec.ofNat 6 (i.val + 1)) = true ↔
    s.timing.pacer.map BitVec.toNat = some (i.val + 1) := by
  unfold pacingFlag
  cases s.timing.pacer with
  | none => simp
  | some p =>
    rw [beq_iff_eq, Option.some_inj, Option.map_some, Option.some_inj, eq_comm, rosterStation_eq_iff, eq_comm]

theorem rosterItem_eq (s : State) (i : Fin 62) (e : RosterEntry) : rosterItem s (i.val + 1) e =
    [if e.present then 1 else 0, byteOf (e.age / 256), byteOf e.age, HeardBy.code e.heardBy,
      if s.timing.pacer.map BitVec.toNat = some (i.val + 1) then 1 else 0] ++
    presenceBytes (if i.val + 1 = (ownId s).toNat then some (ownPresence s) else e.body) := by
  simp only [rosterItem, byteOfFlag, wordOf_eq_bytes, pacingFlag_rosterStation, rosterStation_eq_iff]
  rfl

theorem length_slotItem (r : SlotRec) : (slotItem r).length = 5 := by
  unfold slotItem
  cases r.assign <;> rfl

theorem slotItem_eq (r : SlotRec) : slotItem r = [r.state.code, byteOfId r.owner] ++ (match r.assign with
    | .none => [0xFF, 0xFF]
    | .spare t => [byteOf t.val, 0xFF]
    | .member t seq => [byteOf t.val, byteOf seq]) ++ [r.headerErrors] := by
  unfold slotItem
  cases r.assign <;> rfl

/-! ### The commands (R149, R151) -/

section Exec

variable {s : State} {e : CmdEntry} {rest : List CmdEntry}

theorem exec_cmdTrunkStatus (h : Takes s 7 2 e rest) : exec .cmdTrunkStatus s = .next (settle
    (cmdTrunkStatus (e.bytes.getD 1 0) (e.bytes.getD 2 0) (e.bytes.getD 3 0) (popped s rest))) := by
  obtain ⟨hreset, -⟩ := id h
  rw [show exec .cmdTrunkStatus s = execCmdTrunkStatus s from rfl, execCmdTrunkStatus, run_of_released hreset,
    command_everyState h rfl, tag_of_takes h]
  rfl

theorem exec_cmdRoster (h : Takes s 8 0 e rest) (hattached : s.loader.state = .attached) : exec .cmdRoster s =
    .next (settle (answeredWith (popped s rest) 8 (e.bytes.getD 1 0) (rosterBytes s))) := by
  rw [show exec .cmdRoster s = execCmdRoster s from rfl, execCmdRoster, run_command h hattached rfl, tag_of_takes h]
  rfl

theorem exec_cmdSlots (h : Takes s 9 0 e rest) (hattached : s.loader.state = .attached) : exec .cmdSlots s =
    .next (settle (answeredWith (popped s rest) 9 (e.bytes.getD 1 0) (slotsBytes s))) := by
  rw [show exec .cmdSlots s = execCmdSlots s from rfl, execCmdSlots, run_command h hattached rfl, tag_of_takes h]
  rfl

end Exec

section TrunkStatus

variable {tag dir ix : Byte} {s : State}

theorem cmdTrunkStatus_badArg (h : 8 ≤ ix.toNat ∨ 2 ≤ dir.toNat) :
    cmdTrunkStatus tag dir ix s = answered s 7 tag .badArg := by
  unfold cmdTrunkStatus
  dsimp only
  split
  · rfl
  · next r hr =>
    have hix : ¬ 8 ≤ ix.toNat := fun hge => by simp [recOf_of_ge hge] at hr
    have hdir := h.resolve_left hix
    have hne (d : Byte) (hd : d.toNat < 2) : dir ≠ d := by
      rintro rfl
      omega
    rw [if_neg (hne 0 (by decide)), if_neg (hne 1 (by decide))]
    rfl

theorem cmdTrunkStatus_done {k : RecIx} (hix : k.val = ix.toNat) (hdir : dir.toNat ≤ 1) :
    cmdTrunkStatus tag dir ix s = answeredWith s 7 tag
      ([s.loader.state.code, s.loader.reason.code, s.loader.reason.fieldNumber, dir, ix] ++
        if dir = 0 then txFields s k else rxFields s k) := by
  simp only [cmdTrunkStatus, recOf_of_val hix, txStatus_eq_txFields, rxStatus_eq_rxFields]
  by_cases htransmit : dir = 0
  · rw [if_pos htransmit, if_pos htransmit]
    rfl
  · have hreceive : dir = 1 := by
      have : dir.toNat ≠ 0 := fun h0 => htransmit (BitVec.eq_of_toNat_eq h0)
      exact BitVec.eq_of_toNat_eq (by simp; omega)
    rw [if_neg htransmit, if_neg htransmit, if_pos hreceive]
    rfl

end TrunkStatus

/-- Settles O49: TRUNK_STATUS, the codes of the value sets, ROSTER and SLOTS. -/
theorem statusCommandsAnswerFromTheState : Obligations.StatusCommandsAnswerFromTheState := by
  intro e rest s tag
  refine ⟨fun htakes => ?_, ?_, fun htakes hattached => ?_, fun htakes hattached => ?_⟩
  · rw [exec_cmdTrunkStatus htakes]
    refine ⟨fun hbad => ?_, fun k hk hdir => ?_⟩
    · rw [cmdTrunkStatus_badArg hbad]
    · rw [cmdTrunkStatus_done hk hdir]
      rfl
  · refine ⟨rfl, rfl, rfl, rfl, rfl, rfl, rfl, rfl, rfl, rfl, rfl, rfl, rfl, fun _ => ⟨rfl, rfl⟩, fun r hr => ?_, rfl, rfl⟩
    cases r with
    | field n => exact absurd rfl (hr n)
    | _ => rfl
  · have hsize := fun p : RosterEntry × Nat => length_rosterItem s (p.2 + 1) p.1
    refine ⟨_, exec_cmdRoster htakes hattached, ?_, fun i => ?_⟩
    · rw [rosterBytes, length_flatMap_items hsize, List.length_zipIdx, length_vlist]
    · have hitem : (vlist s.roster).zipIdx[i.val]? = some (vget s.roster i, i.val) := by
        rw [List.getElem?_zipIdx, getElem?_vlist, Option.map_some, Nat.zero_add]
      rw [rosterBytes, itemBytes_flatMap hsize hitem]
      exact rosterItem_eq s i (vget s.roster i)
  · refine ⟨_, exec_cmdSlots htakes hattached, ?_, fun a => ?_⟩
    · rw [slotsBytes, length_flatMap_items length_slotItem, length_vlist]
    · rw [slotsBytes, itemBytes_flatMap length_slotItem (getElem?_vlist s.slots.recs a)]
      exact slotItem_eq (slotAt s a)

end Sys2Proof.Machine
end


section
/-! SUPPORT. The reset pin (R163, R165), attachment (R169), and the invariants at reset. -/

namespace Sys2Proof.Machine

/-! ### The reset pin (R163, R165) -/

theorem exec_resetPinReleased (s : State) : exec .resetPinReleased s = execResetPinReleased s := rfl

/-- Settles O5: the assertion, then the release in reset and out of it. -/
theorem resetPin : Obligations.ResetPin := by
  refine fun s => ⟨rfl, fun hreset => ⟨?_, rfl⟩, fun hreset => ?_⟩
  · rw [exec_resetPinReleased, execResetPinReleased, if_pos hreset]
    rfl
  · rw [exec_resetPinReleased, execResetPinReleased, if_neg (by simp [hreset])]

/-- Settles O60: reset leaves no command and no report, and a still station. -/
theorem invariantsHoldAtReset : Obligations.InvariantsHoldAtReset :=
  ⟨⟨rfl, Nat.zero_le _, Nat.zero_le _⟩, ⟨Nat.zero_le _, Nat.zero_le _⟩, .inr (still_resetAll .between true State.reset)⟩

/-! ### Attachment (R169) -/

theorem mayAttach_iff (s : State) : mayAttach s = true ↔
    s.loader.state = .listening ∧ (s.timing.role = .pacing ∨
      256 ≤ s.loader.listenAge ∧ ∃ l, (laneAt s l).state = .locked ∧ 8 ≤ (laneAt s l).lockAge) := by
  simp [mayAttach, isLocked, mem_allLanes, Config.listenTime]

section Attachment

variable {s : State} (hreset : s.pins.resetAsserted = false)
include hreset

theorem exec_attachment_attaches (h : mayAttach s = true) : exec .attachment s = .next (settle (attach s)) := by
  rw [show exec .attachment s = execAttachment s from rfl, execAttachment, run_of_released hreset, if_pos h]

theorem exec_attachment_waits (h : ¬ mayAttach s = true) : exec .attachment s = .next (settle s) := by
  rw [show exec .attachment s = execAttachment s from rfl, execAttachment, run_of_released hreset, if_neg h]

end Attachment

/-- Settles O8: elsewhere than in LISTENING, then where the condition of attachment holds, and where it does not. -/
theorem attachmentPostsReady : Obligations.AttachmentPostsReady := by
  refine fun s hreset => ⟨fun hstate => ?_, fun hstate hready => ?_, fun hstate hrole hearly => ?_⟩
  · exact exec_attachment_waits hreset fun hmay => hstate ((mayAttach_iff s).mp hmay).1
  · exact exec_attachment_attaches hreset ((mayAttach_iff s).mpr ⟨hstate, hready.imp_right (.imp_left Eq.ge)⟩)
  · refine exec_attachment_waits hreset fun hmay => ?_
    obtain ⟨-, hpacing | ⟨hage, l, hlocked, hlong⟩⟩ := (mayAttach_iff s).mp hmay
    · exact hrole hpacing
    · rcases hearly with hyoung | hshort
      · exact not_lt.mpr hage hyoung
      · exact not_lt.mpr hlong (hshort l hlocked)

end Sys2Proof.Machine
end


section
/-! SUPPORT. The start-up record (R166): its tests in their order, and the fields of a record that passes them. -/

namespace Sys2Proof.Machine

/-! ### Tests in order -/

/-- What a record comes to whose tests and fields these are: the reason of the first that fails, else the fields. -/
def judge (rec : StartRecord) : List (Bool × FailReason) → Except FailReason StartRecord
  | [] => .ok rec
  | (passes, reason) :: tests => if passes then judge rec tests else .error reason

/-- What the number of the first field out of range comes to. -/
def fieldVerdict (rec : StartRecord) : Option Nat → Except FailReason StartRecord
  | some n => .error (.field n)
  | none => .ok rec

section Judge

variable {rec : StartRecord} {tests : List (Bool × FailReason)} {reason : FailReason}

theorem judge_of_fails (h : (tests.find? fun t => !t.1).map Prod.snd = some reason) :
    judge rec tests = .error reason := by
  induction tests with
  | nil => cases h
  | cons test tests ih =>
    obtain ⟨passes, first⟩ := test
    cases passes with
    | true => exact ih h
    | false => exact congrArg Except.error (Option.some.inj h)

theorem judge_of_passes (h : tests.all (fun t => t.1) = true) : judge rec tests = .ok rec := by
  induction tests with
  | nil => rfl
  | cons test tests ih =>
    rw [List.all_cons, Bool.and_eq_true] at h
    obtain ⟨hfirst, hrest⟩ := h
    rw [judge, if_pos hfirst, ih hrest]

variable {passes : Bool}

/-- A chain of tests is judged test by test. -/
theorem ite_eq_judge {fails : Prop} [Decidable fails] {rest : Except FailReason StartRecord}
    (h : fails ↔ passes = false) (hrest : rest = judge rec tests) :
    (if fails then .error reason else rest) = judge rec ((passes, reason) :: tests) := by
  rw [judge, hrest]
  cases passes <;> simp [h]

theorem fieldVerdict_ite {fails : Prop} [Decidable fails] {n : Nat} {rest : Option Nat}
    (h : fails ↔ passes = false) (hrest : fieldVerdict rec rest = judge rec tests) :
    fieldVerdict rec (if fails then some n else rest) = judge rec ((passes, .field n) :: tests) := by
  rw [apply_ite (fieldVerdict rec)]
  exact ite_eq_judge h hrest

end Judge

/-! ### The record's tests (R166) -/

theorem not_inRange_iff (n lo hi : Nat) : (!inRange n lo hi) = true ↔ decide (lo ≤ n ∧ n ≤ hi) = false := by
  rw [inRange_eq_decide, Bool.not_eq_true']

theorem ne_iff_toNat_beq {x : Byte} {n : Nat} (h : n < 256) : x ≠ BitVec.ofNat 8 n ↔ (x.toNat == n) = false := by
  rw [beq_eq_false_iff_ne, ne_eq, ne_eq, ← BitVec.toNat_inj, BitVec.toNat_ofNat, Nat.mod_eq_of_lt h]

theorem ne_iff_beq (m n : Nat) : m ≠ n ↔ (m == n) = false := beq_eq_false_iff_ne.symm

/-- Validation is the tests of R166, judged in their order. -/
theorem validate_eq_judge (r : Vector Byte 32) : validate r = judge (recFields r) (recordTests r) := by
  refine ite_eq_judge (ne_iff_beq _ _) (ite_eq_judge (ne_iff_toNat_beq (by decide)) (ite_eq_judge (ne_iff_beq _ _)
    (ite_eq_judge (not_inRange_iff _ _ _) (ite_eq_judge (not_inRange_iff _ _ _) ?_))))
  show fieldVerdict (recFields r) (firstFieldOut r) = _
  refine fieldVerdict_ite (not_inRange_iff _ _ _) (fieldVerdict_ite (not_inRange_iff _ _ _)
    (fieldVerdict_ite (not_inRange_iff _ _ _) (fieldVerdict_ite (not_inRange_iff _ _ _)
    (fieldVerdict_ite (not_inRange_iff _ _ _) (fieldVerdict_ite (not_inRange_iff _ _ _)
    (fieldVerdict_ite (not_inRange_iff _ _ _) (fieldVerdict_ite ?_ rfl)))))))
  rw [Bool.not_eq_true', recAccept, List.all_map]
  simp only [Function.comp_def, inRange_eq_decide]

/-! ### The fields of a record that passes (12.4) -/

section Passes

variable {r : Vector Byte 32} (h : (recordTests r).all (fun t => t.1) = true)
include h

/-- The ranges of R166 fit the station IDs and the mask of the record's fields. -/
theorem ranges_of_passes : (recByte r 3).toNat ≤ 62 ∧ (recByte r 4).toNat ≤ 15 ∧ ∀ n ∈ recAccept r, n ≤ 62 := by
  simp only [recordTests, List.all_cons, Bool.and_eq_true, decide_eq_true_eq, List.all_eq_true] at h
  obtain ⟨-, -, -, ⟨-, hid⟩, ⟨-, hmask⟩, -, -, -, -, -, -, -, haccept, -⟩ := h
  refine ⟨hid, hmask, fun n hn => ?_⟩
  obtain ⟨i, hi, rfl⟩ := List.mem_map.mp hn
  exact (haccept i hi).2

theorem recFields_id : (recFields r).id.toNat = (recByte r 3).toNat := by
  obtain ⟨hid, -⟩ := ranges_of_passes h
  exact (BitVec.toNat_setWidth _ _).trans (Nat.mod_eq_of_lt (Nat.lt_of_le_of_lt hid (by decide)))

theorem recFields_mask : (recFields r).mask.toNat = (recByte r 4).toNat := by
  obtain ⟨-, hmask, -⟩ := ranges_of_passes h
  exact (BitVec.toNat_setWidth _ _).trans (Nat.mod_eq_of_lt (Nat.lt_of_le_of_lt hmask (by decide)))

theorem recFields_accept : (recFields r).accept.map BitVec.toNat = recAccept r := by
  obtain ⟨-, -, haccept⟩ := ranges_of_passes h
  refine List.map_map.trans ((List.map_congr_left fun n hn => ?_).trans (List.map_id _))
  exact (BitVec.toNat_ofNat _ _).trans (Nat.mod_eq_of_lt (Nat.lt_of_le_of_lt (haccept n hn) (by decide)))

end Passes

end Sys2Proof.Machine
end


section
/-! SUPPORT. Entry to LISTENING (R17, R32, R57, R168) and entry to FAILED (R161, R167), and the record
as it is judged. -/

namespace Sys2Proof.Machine

/-! ### Entry to LISTENING (R168) -/

/-- A lane on entry to LISTENING. -/
def huntIf (mask : BitVec 4) (l : LaneNo) (x : Lane) : Lane :=
  if mask.getLsbD l.val then { x with state := .hunt } else x

theorem huntLanes_eq (mask : BitVec 4) (s : State) : huntLanes mask s =
    { s with lanes := allLanes.foldl (fun v l => vmod v l (huntIf mask l)) s.lanes } := by
  rw [← foldl_modLane]
  refine congrArg (fun f => allLanes.foldl f s) (funext₂ fun x l => ?_)
  split
  · exact modLane_congr x (if_pos ‹_›).symm
  · exact (modLane_self x (if_neg ‹_›)).symm

theorem laneAt_huntLanes (mask : BitVec 4) (s : State) (l : LaneNo) :
    laneAt (huntLanes mask s) l = if mask.getLsbD l.val then { laneAt s l with state := .hunt } else laneAt s l := by
  rw [huntLanes_eq, laneAt, vget_foldl_vmod (huntIf mask) (by decide), if_pos (mem_allLanes l)]
  rfl

/-- Only the roster learns that this station is present. -/
theorem ownPresent_eta (id : StationId) (s : State) :
    ownPresent id s = { s with roster := (ownPresent id s).roster } := by
  unfold ownPresent
  split <;> rfl

theorem roster_ownPresent (id : StationId) (s : State) (i : Fin 62) : vget (ownPresent id s).roster i =
    if i.val + 1 = id.toNat then { vget s.roster i with present := true } else vget s.roster i := by
  unfold ownPresent
  split
  · next hnone =>
    rw [if_neg fun h => Option.some_ne_none i ((rosterIx_of_toNat h).symm.trans hnone)]
  · next j hj =>
    rw [State.modRoster_roster, vget_vmod]
    by_cases h : i = j
    · rw [if_pos h, if_pos (h ▸ (rosterIx_eq_some id j).mp hj), h]
    · rw [if_neg h, if_neg fun hi => h (Option.some.inj ((rosterIx_of_toNat hi).symm.trans hj))]

/-- Entry to LISTENING, block by block. -/
theorem enterListening_eq (rec : StartRecord) (s : State) : enterListening rec s = { s with
    loader := { s.loader with state := .listening, record := some rec, listenAge := 0 }
    lanes := (huntLanes rec.mask s).lanes
    timing := { Timing.reset with role := .following }
    roster := (ownPresent rec.id s).roster } := by
  have hroster : (ownPresent rec.id (huntLanes rec.mask s)).roster = (ownPresent rec.id s).roster := by
    refine vget_ext fun i => ?_
    rw [roster_ownPresent, roster_ownPresent, huntLanes_eq]
  rw [enterListening, ownPresent_eta, hroster, huntLanes_eq]
  rfl

/-! ### Entry to FAILED (R161, R167) -/

/-- Entry to FAILED is what `failedFrom` says, whole. -/
theorem enterFailed_eq_failedFrom (reason : FailReason) (rep : Nat → Report) (s : State) : enterFailed reason rep s =
    failedFrom s { s.loader with state := .failed, reading := false, record := none, reason := reason } rep := by
  unfold enterFailed failedFrom report
  rw [txClear_eq, funext (abortedAnswer_eq s)]
  rfl

/-- Which reports are queued after a post depends on those queued before it alone. -/
theorem reports_post_congr {p q : Port} (h : q.reports = p.reports) (rep : Report) :
    (q.post rep).1.reports = (p.post rep).1.reports := by
  unfold Port.post
  rw [h]
  repeat' split
  all_goals rfl

/-! ### The record judged (R166, R167) -/

section Judged

variable {r : Vector Byte 32} {s : State}

theorem exec_startUpRecordRead (hreset : s.pins.resetAsserted = false) (hstate : s.loader.state = .loading)
    (hreading : s.loader.reading = true) : exec (.startUpRecordRead r) s =
      .next (settle (judgeRecord r (s.modLoader fun x => { x with bytesRead := 32, reading := false }))) := by
  rw [show exec (.startUpRecordRead r) s = execStartUpRecordRead r s from rfl, execStartUpRecordRead,
    run_of_released hreset, if_pos ⟨hstate, hreading⟩]

theorem judgeRecord_ok {rec : StartRecord} (h : validate r = .ok rec) : judgeRecord r s = enterListening rec s := by
  rw [judgeRecord, h]

theorem judgeRecord_error {reason : FailReason} (h : validate r = .error reason) :
    judgeRecord r s = enterFailed reason (fun _ => .startFailed reason) s := by
  rw [judgeRecord, h]

end Judged

/-- Settles O7: the tests and the fields, then entry to LISTENING and entry to FAILED, block by block. -/
theorem startUpRecordIsJudgedInOrder : Obligations.StartUpRecordIsJudgedInOrder := by
  refine ⟨fun r => ⟨fun reason hfails => ?_, fun hpasses => ⟨recFields r, ?_, recFields_id hpasses,
    recFields_mask hpasses, rfl, rfl, rfl, rfl, rfl, rfl, recFields_accept hpasses⟩⟩,
    fun r s hreset hstate hreading => ⟨_, exec_startUpRecordRead hreset hstate hreading, fun rec hok => ?_,
      fun reason herror => ?_⟩⟩
  · rw [validate_eq_judge, judge_of_fails hfails]
  · rw [validate_eq_judge, judge_of_passes hpasses]
  · rw [judgeRecord_ok hok, enterListening_eq]
    exact ⟨rfl, laneAt_huntLanes rec.mask _, rfl, roster_ownPresent rec.id _, rfl, rfl, rfl, rfl, rfl, rfl⟩
  · rw [judgeRecord_error herror, enterFailed_eq_failedFrom]
    refine ⟨rfl, failedFrom_still _ _ _, rfl, fun l => ?lanes, rfl, ?inFlight, ?responses,
      fun k cls len left hdata => ?data, fun hother => ?stage, ?parse, ?outstanding, ?cmdQueue, ?arb,
      reports_post_congr (p := s.port) ?reports _⟩
    case lanes => simp [failedFrom, laneAt]
    case reports => rfl
    all_goals
      unfold failedFrom
      rw [post_fields]
    case data => simp [hdata]
    case stage =>
      dsimp only
      split
      · next hdata => exact absurd hdata (hother _ _ _ _)
      · rfl
    all_goals rfl

end Sys2Proof.Machine
end


section
/-! SUPPORT. What every command keeps (R163): the queue of waiting commands, and the pins but for a pin's own
command. -/

namespace Sys2Proof.Machine

/-! ### What stands outside the part -/

/-- What no block of the part changes: the queue of waiting commands and the pins. -/
def State.outer (s : State) : List Instr × Pins := (s.pending, s.pins)

section Outer

variable {s t : State}

theorem outer_of_account (h : t.outside.fixed.account = s.outside.fixed.account) : t.outer = s.outer :=
  congrArg (fun a : Account => (a.pending, a.pins)) h

theorem outer_of_outside (h : t.outside = s.outside) : t.outer = s.outer :=
  outer_of_account (congrArg (fun o => o.fixed.account) h)

theorem outer_of_owing (h : t.outside = s.outside.owing) : t.outer = s.outer :=
  congrArg (fun o : Outside => (o.fixed.account.pending, o.fixed.account.pins)) h

theorem outer_ite {c : Prop} [Decidable c] (h : t.outer = s.outer) : (if c then t else s).outer = s.outer := by
  split
  · exact h
  · rfl

end Outer

theorem outer_choose (s : State) : (choose s).outer = s.outer := by
  rw [choose_eta]
  rfl

theorem outer_settle (s : State) : (settle s).outer = s.outer := by
  rw [settle_eta]
  rfl

/-! ### The client port -/

theorem outer_command {code : Byte} {everyState : Bool} {body : CmdEntry → State → State}
    (hbody : ∀ e u, (body e u).outer = u.outer) (s : State) : (command code everyState body s).outer = s.outer := by
  unfold command
  split
  · rfl
  · refine outer_ite ?_
    split
    · exact hbody _ (popCommand s)
    · rfl

theorem outer_cmdTrunkStatus (cmd dir ix : Byte) (s : State) : (cmdTrunkStatus cmd dir ix s).outer = s.outer := by
  obtain ⟨r, hr⟩ := cmdTrunkStatus_responds cmd dir ix s
  rw [hr]
  rfl

theorem outer_cmdCounters (cmd clear : Byte) (s : State) : (cmdCounters cmd clear s).outer = s.outer := by
  obtain ⟨r, u, hr, haccount, -⟩ := cmdCounters_responds cmd clear s
  rw [hr]
  exact outer_of_account (t := u) haccount

theorem outer_commandReceived (e : CmdEntry) (s : State) : (commandReceived e s).outer = s.outer := by
  simp only [commandReceived]
  split <;> rfl

theorem outer_headerComplete (header : List Byte) (s : State) : (headerComplete header s).outer = s.outer := by
  unfold headerComplete
  dsimp only
  split
  · exact outer_of_outside (by simp)
  · split
    · unfold commandHeader
      split
      · exact outer_commandReceived _ (setParse .between s)
      · rfl
    · rfl

theorem outer_takeByte (b : Byte) (s : State) : (takeByte b s).outer = s.outer := by
  unfold takeByte
  split
  · rfl
  · split
    · rfl
    · exact outer_headerComplete _ s
  · exact outer_of_outside (by simp)
  · dsimp only
    split
    · exact outer_commandReceived _ (setParse .between s)
    · rfl

theorem outer_responseSent (r : Response) (s : State) : (responseSent r s).outer = s.outer := by
  unfold responseSent
  split
  · rfl
  · exact outer_choose _

theorem outer_reportSent (r : Report) (s : State) : (reportSent r s).outer = s.outer := by
  unfold reportSent
  refine (outer_choose _).trans ?_
  split <;> rfl

theorem outer_dataSent (k : RecIx) (len left : Nat) (s : State) : (dataSent k len left s).outer = s.outer := by
  have hsent (u : State) : (stageIdle (testVacant k u)).outer = u.outer :=
    outer_of_outside (t := testVacant k u) (outside_testVacant k u)
  exact (outer_choose _).trans (hsent _)

/-! ### Every command -/

/-- The four commands of the pins. -/
def MovesPin (c : Instr) : Prop :=
  c = .resetPinAsserted ∨ c = .resetPinReleased ∨ c = .clientOutputHoldAsserted ∨ c = .clientOutputHoldReleased

/-- A command that is one step of a block, which leaves the queue of commands and the pins as they were. -/
def BlockStep (c : Instr) : Prop := ∃ f : State → State, (∀ s, exec c s = run f s) ∧ ∀ s, (f s).outer = s.outer

/-- Every command but those of the pins is a step of a block. -/
theorem blockStep_of_not_movesPin (c : Instr) (h : ¬ MovesPin c) : BlockStep c := by
  cases c with
  | resetPinAsserted | resetPinReleased | clientOutputHoldAsserted | clientOutputHoldReleased =>
    exact absurd (by simp [MovesPin]) h
  | startUpRecordRead | flywheelCycleStart | coastTimeExpiry | electionWaitExpiry | quietCountLimit | listenTimeExpiry
  | attachment | slotHeaderOutcome | claimCycleNotDriven | barCountdownExpiry | claimWaitExpiry | trunkCycleFormation
  | offerWaitExpiry | probeWaitExpiry | confirmWaitExpiry | closeWaitExpiry | sinkSilenceExpiry | sinkLossExpiry
  | tallyTimerExpiry | strayEntryExpiry | dismissDeadlineExpiry | declineEntryExpiry | presenceCountdownExpiry =>
    exact ⟨_, fun _ => rfl, fun s => outer_ite (outer_of_account (by simp))⟩
  | markVerdict | openSearchMarkFound | markOutcome | noticePositionStart | noticeOutcome | noticeArrival
  | rosterAgeExpiry =>
    refine ⟨_, fun _ => rfl, fun s => outer_of_account ?_⟩
    repeat' split
    all_goals simp
  | slotArrival =>
    refine ⟨_, fun _ => rfl, fun s => outer_ite (outer_of_account ?_)⟩
    dsimp only
    split <;> simp
  | clientInputByte b =>
    refine ⟨_, fun _ => rfl, fun s => ?_⟩
    unfold inputByte
    split
    · rfl
    · exact outer_takeByte b s
  | dataFrameHeader b | dataFrameLastByte b | unknownKindHeader b | commandReceived b =>
    exact ⟨_, fun _ => rfl, fun s => outer_ite (outer_takeByte b s)⟩
  | heldStrobe => exact ⟨_, fun _ => rfl, fun _ => outer_ite rfl⟩
  | unknownCommand =>
    refine ⟨_, fun _ => rfl, fun s => ?_⟩
    split
    · rfl
    · split <;> rfl
  | cmdOpen => exact ⟨_, fun _ => rfl, outer_command fun _ _ => outer_of_owing (owing_cmdOpen _ _ _ _)⟩
  | cmdGrow => exact ⟨_, fun _ => rfl, outer_command fun _ _ => outer_of_owing (owing_cmdGrow _ _ _ _)⟩
  | cmdShrink => exact ⟨_, fun _ => rfl, outer_command fun _ _ => outer_of_owing (owing_cmdShrink _ _ _ _)⟩
  | cmdDrop => exact ⟨_, fun _ => rfl, outer_command fun _ _ => outer_of_owing (owing_cmdDrop _ _ _ _)⟩
  | cmdClose => exact ⟨_, fun _ => rfl, outer_command fun _ _ => outer_of_owing (owing_cmdClose _ _ _)⟩
  | cmdDismiss => exact ⟨_, fun _ => rfl, outer_command fun _ _ => outer_of_owing (owing_cmdDismiss _ _ _)⟩
  | cmdTrunkStatus => exact ⟨_, fun _ => rfl, outer_command fun _ _ => outer_cmdTrunkStatus _ _ _ _⟩
  | cmdCounters => exact ⟨_, fun _ => rfl, outer_command fun _ _ => outer_cmdCounters _ _ _⟩
  | cmdRoster | cmdSlots | cmdRestart => exact ⟨_, fun _ => rfl, outer_command fun _ _ => rfl⟩
  | responseSent =>
    refine ⟨_, fun _ => rfl, fun s => ?_⟩
    split
    · exact outer_responseSent _ s
    · rfl
  | reportSent =>
    refine ⟨_, fun _ => rfl, fun s => ?_⟩
    split
    · exact outer_reportSent _ s
    · rfl
  | receiveBlockSent =>
    refine ⟨_, fun _ => rfl, fun s => ?_⟩
    split
    · split <;> rfl
    · rfl
  | dataFrameSent =>
    refine ⟨_, fun _ => rfl, fun s => ?_⟩
    split
    · exact outer_dataSent _ _ _ s
    · exact outer_choose (stageIdle s)
    · rfl

/-- A step of a block answers a next state with the same queue and pins, in reset the state as it was (R163). -/
theorem BlockStep.answers {c : Instr} (h : BlockStep c) (s : State) :
    ∃ t, exec c s = .next t ∧ t.outer = s.outer ∧ (s.pins.resetAsserted = true → t = s) := by
  obtain ⟨f, hrun, houter⟩ := h
  rw [hrun]
  cases hreset : s.pins.resetAsserted with
  | true => exact ⟨s, if_pos hreset, rfl, fun _ => rfl⟩
  | false => exact ⟨_, run_of_released hreset f, (outer_settle _).trans (houter s), nofun⟩

/-- The release of the reset pin leaves the queue and the hold line as they were (R163). -/
theorem exec_resetPinReleased_keeps (s : State) : ∃ t, exec .resetPinReleased s = .next t ∧ t.pending = s.pending ∧
    t.pins.outHold = s.pins.outHold := by
  rw [exec_resetPinReleased, execResetPinReleased]
  split
  · exact ⟨_, rfl, rfl, rfl⟩
  · exact ⟨_, rfl, rfl, rfl⟩

/-- Settles O3: a step of a block, or one of the four commands of the pins. -/
theorem everyCommandAnswersANextState : Obligations.EveryCommandAnswersANextState := by
  intro c s
  by_cases hpin : MovesPin c
  · rcases hpin with rfl | rfl | rfl | rfl
    · exact ⟨_, rfl, rfl, (absurd rfl ·), fun _ _ => rfl, fun _ => (absurd rfl ·)⟩
    · obtain ⟨t, hexec, hpending, hhold⟩ := exec_resetPinReleased_keeps s
      exact ⟨t, hexec, hpending, fun _ => (absurd rfl ·), fun _ _ => hhold, fun _ _ => (absurd rfl ·)⟩
    · exact ⟨_, rfl, rfl, fun _ _ => rfl, (absurd rfl ·), fun _ _ _ => (absurd rfl ·)⟩
    · have houter := outer_choose { s with pins := { s.pins with outHold := false } }
      exact ⟨_, rfl, congrArg Prod.fst houter, fun _ _ => congrArg (·.2.resetAsserted) houter, fun _ => (absurd rfl ·),
        fun _ _ _ _ => (absurd rfl ·)⟩
  · obtain ⟨t, hexec, houter, hreset⟩ := (blockStep_of_not_movesPin c hpin).answers s
    exact ⟨t, hexec, congrArg Prod.fst houter, fun _ _ => congrArg (·.2.resetAsserted) houter,
      fun _ _ => congrArg (·.2.outHold) houter, fun hr _ _ _ _ => hreset hr⟩

end Sys2Proof.Machine
end


section
/-! SUPPORT. The body test of a notice (R172), which only the kind and the body enter, and what an arrival that fails it
does; the flag bits of a mark (R10); and the command at the front of the queue. -/

namespace Sys2Proof.Machine

/-! ### A field of a field -/

/-- A field of a field is a field of the whole. -/
theorem field_field {n : Nat} (x : BitVec n) (outer width start len : Nat) (h : start + len ≤ width)
    (h' : outer + width ≤ n) : field (field x outer width) start len = field x (outer + start) len := by
  refine BitVec.eq_of_getLsbD_eq fun i hi => ?_
  have hin : width - start - len + i < width := by omega
  have hplace : n - outer - width + (width - start - len + i) = n - (outer + start) - len + i := by omega
  simp [field, hi, hin, hplace]

/-! ### The kinds and their classes (R12) -/

/-- A kind code and a class code that belong together (R12). -/
def ClassOfKind (kind cls : Nat) : Prop :=
  (kind = 1 ∨ kind = 2) ∧ cls = 0 ∨ (kind = 3 ∨ kind = 4 ∨ kind = 5) ∧ cls = 1 ∨ kind = 6 ∧ cls = 2 ∨
    kind = 7 ∧ cls = 3

theorem ClassOfKind.known {kind cls : Nat} (h : ClassOfKind kind cls) : 1 ≤ kind ∧ kind ≤ 7 := by
  unfold ClassOfKind at h
  omega

theorem kindClass_of_classOfKind {kind : BitVec 4} {cls : BitVec 2} (h : ClassOfKind kind.toNat cls.toNat) :
    kindClass kind = some cls := by
  have hcls {n : Nat} (hn : cls.toNat = n) : BitVec.ofNat 2 n = cls := by simp [← hn]
  unfold kindClass
  obtain ⟨hkind | hkind, hn⟩ | ⟨hkind | hkind | hkind, hn⟩ | ⟨hkind, hn⟩ | ⟨hkind, hn⟩ := h <;>
    rw [hkind] <;> exact congrArg some (hcls hn)

/-! ### The body test (R172) -/

/-- A body fails the test of R172 for its kind: a reason outside the list, an attempt of 0 or above 3, a width above 16,
or counts above 64, 8 and 8. -/
def BodyFails (kind : Nat) (x : BitVec 72) : Prop :=
  (kind = 2 ∧ (field x 4 4).toNat ∉ [1, 2]) ∨ (kind = 5 ∧ (field x 4 4).toNat ∉ [1, 2]) ∨
    (kind = 3 ∧ (field x 4 4).toNat ∉ [1, 2, 3]) ∨ (kind = 6 ∧ 16 < (field x 27 5).toNat) ∨
    (kind = 7 ∧ (64 < (field x 0 7).toNat ∨ 8 < (field x 7 4).toNat ∨ 8 < (field x 11 4).toNat))

/-- Of a known kind, the bodies that are not read are those that fail the test. -/
theorem decodeBody_eq_none_iff {kind : BitVec 4} (x : BitVec 72) (h : 1 ≤ kind.toNat ∧ kind.toNat ≤ 7) :
    decodeBody kind x = none ↔ BodyFails kind.toNat x := by
  obtain htag | hreason | hbound : (kind.toNat = 1 ∨ kind.toNat = 4) ∨ (kind.toNat = 2 ∨ kind.toNat = 5) ∨
    (kind.toNat = 3 ∨ kind.toNat = 6 ∨ kind.toNat = 7) := by omega
  · -- CLOSE and ACCEPT, whose tag is always read
    rcases htag with hkind | hkind <;> simp [decodeBody, BodyFails, hkind]
  · -- DISMISS and DECLINE, by their reason
    rcases hreason with hkind | hkind <;> simp only [decodeBody, BodyFails, hkind] <;> split <;> simp_all
  · -- OFFER, TALLY and PRESENCE, by the bounds of their numbers
    rcases hbound with hkind | hkind | hkind <;>
      simp only [decodeBody, BodyFails, hkind, ite_eq_right_iff, reduceCtorEq, imp_false, List.mem_cons,
        List.not_mem_nil, or_false, true_and] <;>
      omega

/-! ### Reading a notice that passes every other test (R54) -/

/-- A notice whose check, guard, class, sender and destination pass is of unknown kind only where its body is not
read. -/
theorem readNotice_eq_unknown_iff {w : BitVec 112} (hcheck : noticeCheckOk w = true)
    (hguard : field w 106 6 = 0x3F#6) (hclass : kindClass (field w 8 4) = some (field w 0 2))
    (hsender : (field w 2 6).toNat ∉ [0, 63]) (hdest : (field w 12 6).toNat ≠ 0) :
    readNotice w = .unknown ↔ decodeBody (field w 8 4) (field w 18 72) = none := by
  have hzero : field w 2 6 ≠ 0#6 := fun h => hsender (by simp [h])
  have hnobody : field w 2 6 ≠ nobody := fun h => hsender (by simp [h])
  have hto : field w 12 6 ≠ 0#6 := fun h => hdest (by simp [h])
  rw [readNotice, if_neg (hnobody ·.2), if_neg (by simp [hcheck, hguard]), if_neg (not_not.mpr hclass),
    if_neg fun h => h.elim hzero (·.elim hnobody hto)]
  cases decodeBody (field w 8 4) (field w 18 72) <;> simp

/-- The test of R172 on the fields of a notice's word. -/
theorem bodyFails_body (w : BitVec 112) (kind : Nat) : BodyFails kind (field w 18 72) ↔
    (kind = 2 ∧ (field w 22 4).toNat ∉ [1, 2]) ∨ (kind = 5 ∧ (field w 22 4).toNat ∉ [1, 2]) ∨
      (kind = 3 ∧ (field w 22 4).toNat ∉ [1, 2, 3]) ∨ (kind = 6 ∧ 16 < (field w 45 5).toNat) ∨
      (kind = 7 ∧ (64 < (field w 18 7).toNat ∨ 8 < (field w 25 4).toNat ∨ 8 < (field w 29 4).toNat)) := by
  simp (disch := omega) only [BodyFails, field_field, Nat.reduceAdd]

/-! ### Marks (R10) -/

/-- A mark with a flag bit other than FRESH set is not valid. -/
theorem readMark_of_flags (l : LaneNo) (w : BitVec 64) (h : field w 33 7 ≠ 0#7) : readMark l w = none :=
  if_neg fun ⟨_, _, _, hflags, _⟩ => h hflags

/-! ### The arrival (R54, R172) -/

/-- Settles O56: the body is all that is left to read, and an arrival of unknown kind is counted. -/
theorem noticeFailingTheBodyTestIsUnknown : Obligations.NoticeFailingTheBodyTestIsUnknown := by
  refine ⟨?_, readMark_of_flags⟩
  intro l p c word s hreset hrun hlock hpass hcheck hguard hsender hdest kind cls second fails hkind
  have hclass : ClassOfKind kind cls := hkind
  have hread : readNotice word = .unknown ↔ fails :=
    (readNotice_eq_unknown_iff hcheck hguard (kindClass_of_classOfKind hclass) hsender hdest).trans
      ((decodeBody_eq_none_iff _ hclass.known).trans (bodyFails_body word kind))
  refine ⟨hread, fun hfails => ?_⟩
  rw [exec_noticeArrival_taken l p c word hreset hrun hlock hpass, hread.mpr hfails]
  rfl

/-! ### The command at the front of the queue (section 0.3) -/

/-- Settles O1: the queue's front is the command that is run. -/
theorem stepRunsTheFrontCommand : Obligations.StepRunsTheFrontCommand := fun _ _ _ => rfl

end Sys2Proof.Machine
end
